-- ==== Sys2Proof/Word.lean ====
section
/-! DEFINITION. Word types of the XM1 and their plainest arithmetic (spec/00_scope.md, spec/05_aqeri_core.md R133). -/

namespace Sys2Proof

abbrev Byte := BitVec 8
abbrev W16 := BitVec 16
abbrev W32 := BitVec 32
/-- An address register, a program counter or a virtual address (R133, R225). -/
abbrev W48 := BitVec 48
/-- A register of register space (spec/00_scope.md, the section on registers). -/
abbrev W64 := BitVec 64
/-- A vector register (R97). -/
abbrev VReg := BitVec 1024
/-- A fragment register, 2,048 bytes (R66). -/
abbrev FReg := BitVec 16384
/-- An endpoint code of the mesh (Table 8-5). -/
abbrev Ep := BitVec 12

/-- 1 for true, 0 for false. -/
def bit (b : Bool) : Nat := if b then 1 else 0

end Sys2Proof
end

