-- ==== Sys2Proof/Syntax.lean ====
section
/-! DEFINITION. The commands of the block: one constructor of Instr for each row of spec/opcode_table.json, with the
operand records they carry. An instruction row is one strand's issue of that instruction; an event row is one event of the
part; a Kilper row is one command the firmware carries out. -/

namespace Sys2Proof

/-- Who issues an instruction: the core (0 to 479 compute cores by global number, 480 to 483 the steward cores 0 to 3),
the strand, the cycle from which it may issue, and what the fetched words hold beside the operands: the first word (it goes
to XTVAL, Table 6-2) and whether a field marked reserved in its format is non-zero (R137). `ecc` is an error that the local store's code meets while
it serves this access (R209): some false a corrected one, some true an uncorrectable one. -/
structure Who where
  core : Nat
  strand : Nat
  cycle : Nat
  word : BitVec 32 := 0
  rsvd : Bool := false
  ecc : Option Bool := none
deriving DecidableEq, Repr

/-- Format R (Table 5-7). -/
structure OpR where
  rd : BitVec 5
  ra : BitVec 5
  rb : BitVec 5
  f : Bool
deriving DecidableEq, Repr

/-- Format I (Table 5-7). -/
structure OpI where
  rd : BitVec 5
  ra : BitVec 5
  imm : BitVec 16
deriving DecidableEq, Repr

/-- Format L (Table 5-7): loop number, immediate flag, count field, end displacement; and whether the instruction at LnE is a
64-bit one (R137), which the skip of R153 passes whole. -/
structure OpL where
  n : Bool
  i : Bool
  count : BitVec 12
  last : BitVec 12
  wide : Bool := false
deriving DecidableEq, Repr

/-- Format M (Table 5-7). -/
structure OpM where
  rt : BitVec 5
  an : BitVec 3
  am : BitVec 2
  st : BitVec 2
  sz : BitVec 3
  d : BitVec 11
deriving DecidableEq, Repr

/-- RKST and RKLD (Table 6-7). -/
structure OpK where
  cls : BitVec 2
  r : BitVec 5
  off : BitVec 11
deriving DecidableEq, Repr

/-- The SYNC major (Table 9-2). -/
structure OpS where
  rc : BitVec 5
  ra : BitVec 5
  imm : BitVec 8
  inv : Bool
deriving DecidableEq, Repr

/-- The MSG major (Table 8-9). -/
structure OpG where
  r : BitVec 5
  ch : BitVec 6
deriving DecidableEq, Repr

/-- Format V (Table 5-7). -/
structure OpV where
  vd : BitVec 5
  va : BitVec 5
  vb : BitVec 5
  t : BitVec 4
  h : Bool
deriving DecidableEq, Repr

/-- Format VC (Table 5-7); h is bit 0 of the major. -/
structure OpVC where
  vd : BitVec 5
  va : BitVec 5
  ts : BitVec 4
  td : BitVec 4
  rm : BitVec 3
  om : Bool
  p : BitVec 4
  h : Bool
deriving DecidableEq, Repr

/-- Format VE (Table 5-7). -/
structure OpVE where
  vd : BitVec 5
  va : BitVec 5
  td : BitVec 4
  rm : BitVec 3
  om : Bool
  p : BitVec 4
  cb : Bool
deriving DecidableEq, Repr

/-- Format VM (Table 5-7). -/
structure OpVM where
  vd : BitVec 5
  va : BitVec 5
  gn : BitVec 5
  q : BitVec 3
  t : BitVec 4
deriving DecidableEq, Repr

/-- MMA and MMA.G (Table 3-2). -/
structure OpMma where
  asrc : Bool
  aidx : BitVec 3
  ta : BitVec 4
  tb : BitVec 4
  rows : BitVec 4
  cols : BitVec 6
  klen : BitVec 10
  run : BitVec 2
  dest : BitVec 2
  gb : BitVec 5
  gp : BitVec 5
  vsa : BitVec 5
deriving DecidableEq, Repr

/-- MDRAIN and MDRAIN.G (Table 3-3). -/
structure OpDrain where
  src : Bool
  scls : Bool
  gp : BitVec 5
  td : BitVec 4
  dst : Bool
  didx : BitVec 3
  lay : Bool
  rows : BitVec 4
  cols : BitVec 6
  coff : BitVec 2
  soff : BitVec 3
  vsd : BitVec 5
  fuse : BitVec 2
  fidx : BitVec 3
  tf : BitVec 4
  rm : BitVec 3
  om : Bool
  epi : Bool
  clr : Bool
deriving DecidableEq, Repr

/-- TLOAD, TSTORE and their grouped forms (Table 3-5). -/
structure OpTile where
  g : Bool
  fidx : BitVec 3
  ab : BitVec 3
  gs : BitVec 5
  rows : BitVec 6
  rb : BitVec 2
  roff : BitVec 2
deriving DecidableEq, Repr

/-- CUSTOM (R191). -/
structure OpCustom where
  sel : BitVec 4
  opd : BitVec 5
  opa : BitVec 5
  opb : BitVec 5
  imm7 : BitVec 7
deriving DecidableEq, Repr

/-- The local stores of a core (Table 1-4, the ST field of Table 5-7). -/
inductive Store where
  | ws | as | ps | qram
deriving DecidableEq, Repr

/-- A power unit of on-chip memory (R205): a local-store bank of a core or a CLM bank of a cluster. -/
inductive BankId where
  | ls (core : Nat) (store : Store) (n : Nat)
  | clm (cluster : Nat) (n : Nat)
deriving DecidableEq, Repr

/-- A switching node of the mesh (R236): a core's router, a cluster's hub, an I/O die (false north, true south). -/
inductive Node where
  | router (cluster : Nat) (r : Nat)
  | hub (cluster : Nat)
  | die (south : Bool)
deriving DecidableEq, Repr

/-- Ports of the nodes: N, S, E, W and TAP of a router (R236); at a hub, its hub ports 0 to 7 below the cluster mesh, the
backbone ports, the I/O link and its units with the CLM port; at a die, its I/O links by column and its units. -/
inductive Port where
  | n | s | e | w | tap
  | hubPort (x : Nat)
  | io (col : Nat)
  | units
deriving DecidableEq, Repr

/-- An external memory: an HBM stack or a DDR5 channel. -/
inductive ExtMem where
  | hbm (n : Nat)
  | ddr (n : Nat)
deriving DecidableEq, Repr

/-- A flit as it arrives on a trail port: its 256 bytes (R339). -/
structure Flit where
  bytes : List (BitVec 8)
deriving DecidableEq, Repr

/-- A received PTP exchange (R410): the offset it measures in ns and the master's identity and time (in ns). -/
structure PtpSample where
  offset : Int
  time : Nat
  gmid : BitVec 64
deriving DecidableEq, Repr

/-- What a received Ethernet frame carries, after its outer layers (R379 to R381). The formats of Ethernet, ARP, IP, ICMP and
PTP are public standards that the spec does not repeat. -/
inductive FrameBody where
  | arpRequest (target : BitVec 32)
  | neighbourSolicitation (target : BitVec 128)
  | echoRequest (v6 : Bool) (dataBytes : Nat)
  | ptpSync (domain : BitVec 8)
  | ptpExchange (domain : BitVec 8) (x : PtpSample)
  | udp (v6 : Bool) (srcIp : BitVec 128) (srcPort : BitVec 16) (dstPort : BitVec 16) (payload : List (BitVec 8))
  | macControl
  | other
deriving DecidableEq, Repr

/-- The destination address of a frame, as R379 tells addresses apart. -/
inductive FrameDst where
  | own | broadcast | solicitedNode | ptpMulticast | otherAddr
deriving DecidableEq, Repr

/-- The MACsec protection of a frame (R380): none, or an association with its packet number and whether the ICV holds. -/
structure SecTag where
  an : BitVec 2
  pn : BitVec 64
  valid : Bool
deriving DecidableEq, Repr

/-- A received frame, by the properties that R378 to R381 check. -/
structure Frame where
  length : Nat
  fcsOk : Bool
  tags : List (BitVec 12)
  sec : Option SecTag
  dst : FrameDst
  src : BitVec 48
  toOurIp : Bool
  fragmentOrOptions : Bool
  body : FrameBody
deriving DecidableEq, Repr

/-- Header of a Kilper command (Table 12-2): session, tag, execute-at time when the EXEC flag is set, and the payload length
by which count fields are checked (R391). -/
structure KHdr where
  session : BitVec 32
  tag : BitVec 16
  exec : Option (BitVec 64)
deriving DecidableEq, Repr

/-- MAP_PAGES beyond its first 24 bytes, for TIER 3 (Table 12-6). -/
structure AptOp where
  apt : BitVec 8
  kind : BitVec 8
  roll : BitVec 8
  gv : BitVec 8
  ddev : BitVec 16
  win : BitVec 8
  epoch : BitVec 8
  woff : BitVec 32
  gwin : BitVec 8
  gepoch : BitVec 8
deriving DecidableEq, Repr

/-- MAP_PAGES (Table 12-6). -/
structure MapOp where
  part : BitVec 8
  size : BitVec 8
  tier : BitVec 8
  perm : BitVec 8
  va : BitVec 64
  count : BitVec 32
  key : BitVec 8
  rotation : BitVec 32
  apt : Option AptOp
deriving DecidableEq, Repr

/-- WINDOW_OPEN (Table 12-6). -/
structure WinOp where
  win : BitVec 8
  kind : BitVec 8
  perm : BitVec 8
  part : BitVec 8
  base : BitVec 64
  size : BitVec 32
  srcdev : BitVec 16
  srcmask : BitVec 16
deriving DecidableEq, Repr

/-- SESSION_OPEN (Table 12-6). -/
structure OpenOp where
  role : BitVec 8
  part : BitVec 8
  window : BitVec 16
  maxdata : BitVec 16
  keep : BitVec 16
  spdm : BitVec 32
  isn : BitVec 32
  nonce : BitVec 128
deriving DecidableEq, Repr

/-- A key record, after its secured message is opened (R455, Table 14-8). A record whose message does not authenticate has
`authentic = false`. -/
structure KeyRecord where
  spdm : BitVec 32
  authentic : Bool
  k1 : BitVec 256
  k2 : BitVec 256
  pn : BitVec 64
  window : BitVec 32
deriving DecidableEq, Repr

/-- TRACE_CONFIG (R461). -/
structure TraceOp where
  trc : BitVec 8
  events : BitVec 8
  core : BitVec 16
  strands : BitVec 8
  buf : BitVec 64
  size : BitVec 32
deriving DecidableEq, Repr

/-- SPDM requests (Table 14-5), with what the responder needs of each. `secure` names the secured session that carries the
request (DSP0277), or none. `other` is every request outside the subset. -/
inductive SpdmReq where
  | getVersion | getCapabilities | negotiateAlgorithms | getDigests
  | getCertificate (slot : Nat)
  | challenge (nonce : BitVec 256)
  | getMeasurements (index : Nat) (signed : Bool) (nonce : BitVec 256)
  | getMel
  | keyExchange (sid : BitVec 32) (mutAuth : Bool)
  | finish (sid : BitVec 32) (verified : Bool) (root : BitVec 256)
  | heartbeat (sid : BitVec 32)
  | keyUpdate (sid : BitVec 32)
  | endSession (sid : BitVec 32)
  | getEncapsulated (sid : BitVec 32)
  | deliverEncapsulated (sid : BitVec 32) (root : BitVec 256)
  | getCsr
  | setCertificate (slot : Nat) (chain : List (BitVec 8)) (leafKeyOk : Bool) (serialOk : Bool)
  | other
deriving DecidableEq, Repr

/-- A firmware image as FW_STAGE receives it: its header fields (Table 14-3) and the outcome of the checks of R442 that rest
on bytes outside those fields. -/
structure Image where
  magicOk : Bool
  reservedZero : Bool
  keyidx : Nat
  revoke : BitVec 4
  svn : Nat
  version : BitVec 64
  modulusHash : BitVec 256
  sigOk : Bool
  bodyOk : Bool
  digest : BitVec 256
deriving DecidableEq, Repr

/-- The failures that firmware recovers from (Table 13-5). -/
inductive Failure where
  | coreStore (core : Nat) (second : Bool)
  | coreInternal (core : Nat)
  | clm (cluster : Nat) (bank : Nat) (second : Bool)
  | clusterInternal (cluster : Nat)
  | poison (core : Nat) (pa : Nat)
deriving DecidableEq, Repr

/-- What JTAG internal debug reads (R459): a word of secure SRAM, a fuse field, or a register of a core. -/
inductive JtagTarget where
  | sram (offset : Nat)
  | fuse (field : Nat)
  | coreReg (core : Nat) (strand : Nat) (g : BitVec 5)
deriving DecidableEq, Repr

/-- Errors that a memory's code meets while it serves an access or a patrol pass (R209, R308, R309): the offsets, in units of 64
bytes of an external memory or of 8 bytes of a store, of corrected units and of units found uncorrectable. -/
structure Ecc where
  corr : List Nat := []
  unc : List Nat := []
deriving DecidableEq, Repr

/-- Who accesses register space (R29, R30, R233, R235, R249, R401): a strand of a compute core in S mode, Cheter firmware,
or the operator's DEBUG_WRITE. -/
inductive Agent where
  | strand (core : Nat)
  | firmware
  | debug
deriving DecidableEq, Repr

/-- The commands: one constructor per row of spec/opcode_table.json, in the table's order but for the Kilper commands, which come
first: compiled code can build only the first 245 constructors, and a scheduled command is held as data. -/
inductive Instr where
  | hello (h : KHdr)
  | sessionOpen (h : KHdr) (o : OpenOp)
  | sessionClose (h : KHdr)
  | queryInfo (h : KHdr) | queryHealth (h : KHdr)
  | memWrite (h : KHdr) (addr len : BitVec 64) (data : List (BitVec 64 × List (BitVec 8)))
  | memRead (h : KHdr) (addr len : BitVec 64)
  | memFill (h : KHdr) (addr len pattern : BitVec 64)
  | scrub (h : KHdr) (addr : BitVec 64) (pages : BitVec 32)
  | partCreate (h : KHdr) (part : BitVec 8) (clusters : BitVec 16) (interval : BitVec 32)
  | partDestroy (h : KHdr) (part : BitVec 8)
  | mapPages (h : KHdr) (o : MapOp)
  | unmapPages (h : KHdr) (part scrub : BitVec 8) (va : BitVec 64) (count : BitVec 32)
  | loadProgram (h : KHdr) (prog priv : BitVec 8) (entry code : BitVec 64) (codeLen : BitVec 32)
  | loadRoutes (h : KHdr) (image : BitVec 64) (entries : BitVec 32)
  | loadMicrocode (h : KHdr) (clusters : BitVec 16) (entry umode start nops : BitVec 8) (ops : List (BitVec 128))
  | launchStart (h : KHdr) (prog strands : BitVec 8) (clusters : BitVec 16) (args : List (BitVec 32))
  | launchWake (h : KHdr) (nctr : BitVec 16) (ctrs : List (BitVec 32 × BitVec 32))
  | signalAdd (h : KHdr) (n x : BitVec 32) | signalSet (h : KHdr) (n x : BitVec 32)
  | waitCounterWatch (h : KHdr) (n x timeout : BitVec 32) | waitCounterTake (h : KHdr) (n x timeout : BitVec 32)
  | waypointTake (h : KHdr) (part : BitVec 8)
  | waypointRestore (h : KHdr) (part : BitVec 8) (waypoint : BitVec 64)
  | clusterReset (h : KHdr) (cluster : BitVec 8)
  | coreRetire (h : KHdr) (core : BitVec 16)
  | timeStatus (h : KHdr)
  | scheduleList (h : KHdr) (session : BitVec 32)
  | scheduleCancel (h : KHdr) (tag : BitVec 16) (session : BitVec 32)
  | attest (h : KHdr) (r : SpdmReq)
  | keyInstallDdr5 (h : KHdr) (slot : BitVec 8) (k : KeyRecord)
  | keyInstallMacsecTx (h : KHdr) (an : BitVec 8) (k : KeyRecord)
  | keyInstallMacsecRx (h : KHdr) (an : BitVec 8) (k : KeyRecord)
  | keyRetireDdr5 (h : KHdr) (slot : BitVec 8) | keyRetireMacsec (h : KHdr) (rx : Bool) (an : BitVec 8)
  | fwStage (h : KHdr) (len : BitVec 32) (img : Image)
  | fwActivate (h : KHdr) (deadline : BitVec 16)
  | lifecycleProvisioned (h : KHdr) (confirm : BitVec 32)
  | lifecycleField (h : KHdr) (confirm : BitVec 32)
  | lifecycleReturn (h : KHdr) (confirm : BitVec 32)
  | debugHalt (h : KHdr) (core : BitVec 16) (strands : BitVec 8)
  | debugRead (h : KHdr) (addr : BitVec 64) (len : BitVec 32)
  | debugWrite (h : KHdr) (addr : BitVec 64) (len : BitVec 32) (bytes : List (BitVec 8))
  | traceConfig (h : KHdr) (o : TraceOp)
  | perfRead (h : KHdr) (count : BitVec 16) (addrs : List (BitVec 64))
  | linkConfig (h : KHdr) (devid : BitVec 16) (valid hops : BitVec 8) (en : BitVec 32) (maxw : BitVec 64)
  | windowOpen (h : KHdr) (o : WinOp)
  | windowClose (h : KHdr) (win : BitVec 8)
  | add (w : Who) (o : OpR) | sub (w : Who) (o : OpR) | and (w : Who) (o : OpR) | or (w : Who) (o : OpR)
  | xor (w : Who) (o : OpR) | shl (w : Who) (o : OpR) | shr (w : Who) (o : OpR) | sra (w : Who) (o : OpR)
  | slt (w : Who) (o : OpR) | sltu (w : Who) (o : OpR) | min (w : Who) (o : OpR) | max (w : Who) (o : OpR)
  | minu (w : Who) (o : OpR) | maxu (w : Who) (o : OpR) | mul (w : Who) (o : OpR) | mulh (w : Who) (o : OpR)
  | mulhu (w : Who) (o : OpR) | div (w : Who) (o : OpR) | divu (w : Who) (o : OpR) | rem (w : Who) (o : OpR)
  | remu (w : Who) (o : OpR) | jr (w : Who) (o : OpR) | jalr (w : Who) (o : OpR)
  | addi (w : Who) (o : OpI) | andi (w : Who) (o : OpI) | ori (w : Who) (o : OpI) | xori (w : Who) (o : OpI)
  | shi (w : Who) (o : OpI) | lui (w : Who) (o : OpI) | cmpi (w : Who) (o : OpI)
  | bc (w : Who) (cond : BitVec 4) (disp : BitVec 22)
  | jal (w : Who) (rd : BitVec 5) (disp : BitVec 21)
  | loop (w : Who) (o : OpL)
  | waitl (w : Who) (n : BitVec 4) | waitm (w : Who) (n : BitVec 4)
  | csrr (w : Who) (r : BitVec 5) (num : BitVec 12) | csrw (w : Who) (r : BitVec 5) (num : BitVec 12)
  | csrra (w : Who) (r : BitVec 5) (num : BitVec 12) | csrwa (w : Who) (r : BitVec 5) (num : BitVec 12)
  | xret (w : Who) | rstop (w : Who) | rkst (w : Who) (o : OpK) | rkld (w : Who) (o : OpK) | sexit (w : Who)
  | ldl (w : Who) (o : OpM) | stl (w : Who) (o : OpM) | ld (w : Who) (o : OpM) | st (w : Who) (o : OpM)
  | pref (w : Who) (o : OpM) | prefS (w : Who) (o : OpM) | cinv (w : Who) (o : OpM) | cinvAll (w : Who) (o : OpM)
  | dpick (w : Who) (o : OpM)
  | aaddi (w : Who) (ad as : BitVec 3) (imm : BitVec 18)
  | amod (w : Who) (ad as : BitVec 3) (imm : BitVec 18)
  | amov (w : Who) (ad : BitVec 3) (gl gh : BitVec 5)
  | aadd (w : Who) (ad as : BitVec 3) (g : BitVec 5)
  | sadd (w : Who) (o : OpS) | saddP (w : Who) (o : OpS) | stake (w : Who) (o : OpS) | swatch (w : Who) (o : OpS)
  | sset (w : Who) (o : OpS) | sread (w : Who) (o : OpS) | roll (w : Who) (o : OpS)
  | sendv (w : Who) (o : OpG) | sendf (w : Who) (o : OpG) | sendfG (w : Who) (o : OpG)
  | sendAccept (w : Who) | sendStalled (w : Who)
  | recvv (w : Who) (o : OpG) | recvf (w : Who) (o : OpG) | qrel (w : Who) (o : OpG) | qpoll (w : Who) (o : OpG)
  | vadd (w : Who) (o : OpV) | vsub (w : Who) (o : OpV) | vmul (w : Who) (o : OpV) | vfma (w : Who) (o : OpV)
  | vfms (w : Who) (o : OpV) | vneg (w : Who) (o : OpV) | vabs (w : Who) (o : OpV) | vmin (w : Who) (o : OpV)
  | vmax (w : Who) (o : OpV) | vrcpe (w : Who) (o : OpV) | vrsqe (w : Who) (o : OpV)
  | vcmpEq (w : Who) (o : OpV) | vcmpNe (w : Who) (o : OpV) | vcmpLt (w : Who) (o : OpV) | vcmpLe (w : Who) (o : OpV)
  | vcmpUn (w : Who) (o : OpV) | vsel (w : Who) (o : OpV)
  | viadd (w : Who) (o : OpV) | visub (w : Who) (o : OpV) | viadds (w : Who) (o : OpV) | visubs (w : Who) (o : OpV)
  | vimul (w : Who) (o : OpV) | vimin (w : Who) (o : OpV) | vimax (w : Who) (o : OpV) | vand (w : Who) (o : OpV)
  | vor (w : Who) (o : OpV) | vxor (w : Who) (o : OpV) | vshl (w : Who) (o : OpV) | vshrl (w : Who) (o : OpV)
  | vshra (w : Who) (o : OpV) | vmov (w : Who) (o : OpV) | vbcast (w : Who) (o : OpV) | vdup (w : Who) (o : OpV)
  | vperm (w : Who) (o : OpV) | vslide (w : Who) (o : OpV) | vmovg (w : Who) (o : OpV)
  | vrsum (w : Who) (o : OpV) | vrmax (w : Who) (o : OpV) | vrmin (w : Who) (o : OpV) | vrssq (w : Who) (o : OpV)
  | vrssqA (w : Who) (o : OpV)
  | vmom (w : Who) (o : OpVM) | vmomA (w : Who) (o : OpVM)
  | vmmrg (w : Who) (o : OpV) | vmred (w : Who) (o : OpV) | vmvar (w : Who) (o : OpV)
  | vact (w : Who) (o : OpV) | vtload (w : Who) (o : OpV) | vepc (w : Who) (o : OpV)
  | vfctlR (w : Who) (o : OpV) | vfctlW (w : Who) (o : OpV) | vfflag (w : Who) (o : OpV) | vfflagC (w : Who) (o : OpV)
  | vrseed (w : Who) (o : OpV) | vrctr (w : Who) (o : OpV) | vrgetS (w : Who) (o : OpV) | vrgetC (w : Who) (o : OpV)
  | vcvt (w : Who) (o : OpVC) | vepx (w : Who) (o : OpVE)
  | mma (w : Who) (o : OpMma) | mmaG (w : Who) (o : OpMma)
  | mdrain (w : Who) (o : OpDrain) | mdrainG (w : Who) (o : OpDrain)
  | tload (w : Who) (o : OpTile) | tstore (w : Who) (o : OpTile)
  | tileRow (w : Who)
  | runTransfer (core : Nat) | matrixComplete (core : Nat)
  | custom (w : Who) (o : OpCustom) | microOp (w : Who)
  | loadComplete (core strand : Nat) (k : Nat)
  | lineFill (core : Nat) (line : Nat)
  | instructionFill (w : Who) (va : BitVec 48)
  | storeQueueSend (core : Nat)
  | signalFenceRelease (core strand : Nat)
  | pageWalkEnd (cluster : Nat) (k : Nat)
  | exceptionEntry (w : Who) | restStopEntry (w : Who)
  | timerInterrupt (core strand cycle : Nat)
  | xirqSet (core strand : Nat)
  | resumeGo (core strand : Nat) (usepc : Bool) (pc : BitVec 48)
  | vfpCtlWrite (core strand : Nat) (v : BitVec 64)
  | bankEnable (b : BankId) | bankDisable (b : BankId) | bankStopping (b : BankId) | bankOff (b : BankId)
  | bankOn (b : BankId)
  | dinv (core : Nat) | iinv (core : Nat)
  | ucDecWrite (cluster e : Nat) (v : BitVec 64)
  | queueTableWrite (core q : Nat) (second : Bool) (v : BitVec 64)
  | mmuInvAll (cluster : Nat) | mmuInvVa (cluster : Nat) (va : BitVec 48) | invalidationDone (cluster : Nat)
  | fqRetry (cluster : Nat) | fqReject (cluster : Nat)
  | synValWrite (n : Nat) (v : BitVec 32) | shomeWrite (g : Nat) (hub : BitVec 4)
  | channelEnable (cluster n : Nat) | channelDisable (cluster n : Nat) | channelOn (cluster n : Nat)
  | channelOff (cluster n : Nat)
  | dmaGo (cluster n : Nat) (head : BitVec 20)
  | descriptorRead (cluster n : Nat)
  | burstStart (cluster : Nat)
  | burstComplete (cluster b : Nat)
  | descriptorBad (cluster n : Nat)
  | chkInit (cluster u : Nat)
  | routerArrival (node : Node) (out : Port)
  | rd (ep : BitVec 12) (ecc : Ecc) | wr (ep : BitVec 12) (ecc : Ecc)
  | amoAdd (ep : BitVec 12) | amoSet (ep : BitVec 12) | amoTake (ep : BitVec 12) | amoWatch (ep : BitVec 12)
  | amoRead (ep : BitVec 12) | amoCancel (ep : BitVec 12) | amoDpick (ep : BitVec 12)
  | sigAdd (ep : BitVec 12) | sigSet (ep : BitVec 12) | tok (ep : BitVec 12) | msg (ep : BitVec 12)
  | htl (ep : BitVec 12)
  | hamperFetch (core q : Nat)
  | rdr (ep : BitVec 12) | wrr (ep : BitVec 12) | err (ep : BitVec 12) | crd (ep : BitVec 12) | rls (ep : BitVec 12)
  | red (ep : BitVec 12)
  | patrolPass (m : ExtMem) (ecc : Ecc)
  | hbmScrubGo (n first count : Nat) | ddrScrubGo (n first count : Nat) | scrubComplete (m : ExtMem)
  | ddrMoveGo (n hpage dpage : Nat) (toHbm : Bool) | moveComplete (n : Nat)
  | tagAssign (n first count slot : Nat) | tagRelease (n first count : Nat) | tagCommandDone (n : Nat)
  | rekeyGo (src dst rate : Nat) | rekeyPage (n : Nat)
  | keySlotRetire (slot : Nat)
  | tieringMoveOut (part : Nat) (va : BitVec 48) (ddr dpage : Nat) (key : Nat)
  | pageBringBack (cluster : Nat) (hpage : Nat)
  | pageRetirement (pa : Nat)
  | trailPortEnable (p : Nat) | trailPortDisable (p : Nat) | trailPortStarted (p : Nat) | trailPortStopped (p : Nat)
  | trainingAttempt (p : Nat) | trainingDone (p : Nat) (lanes : BitVec 4) (peer : BitVec 16)
  | linkDown (p : Nat) | linkSilence (p : Nat)
  | laneFailure (p lane : Nat) | retrainDone (p : Nat) (peerLanes : BitVec 4)
  | flitSend (p : Nat)
  | dataFlit (p : Nat) (f : Flit) | idleFlit (p : Nat) (f : Flit) | retryRequest (p : Nat) (f : Flit)
  | endOfLink (p : Nat)
  | trailWr (p : Nat) | trailRd (p : Nat) | trailSig (p : Nat) | trailMsg (p : Nat) | trailRdr (p : Nat)
  | wack (p : Nat) | nak (p : Nat) | trailCrd (p : Nat) | trailRls (p : Nat) | trailRed (p : Nat) | trailTok (p : Nat)
  | hostPortEnable | hostPortDisable | hostPortStarted | hostPortStopped | hostTrainingRetry | hostLinkUp
  | hostFrame (f : Frame)
  | acknowledgement (session : BitVec 32)
  | kilperRetransmit (session : BitVec 32) (seq : BitVec 32)
  | keepExpiry (session : BitVec 32)
  | scheduledStart (k : Nat)
  | waitCounterTimeout (k : Nat)
  | clusterStopTimeout (cluster : Nat) | clusterOn (cluster : Nat)
  | spdmSessionTimeout (sid : BitVec 32)
  | handOver | imageCommit | deadlineExpiry | firmwareWatchdog
  | ppsInEdge | sampleTimeout | ppsOutRise | ppsOutFall
  | timeNowRead (ep : BitVec 12)
  | alarmFire (n : Nat)
  | waypointCapture (part : Nat) | captureAbandon (part : Nat) | captureDrained (part : Nat) (pauseUs : Nat)
  | waypointLocal (part : Nat) | waypointMirrored (part : Nat)
  | failureRecovery (f : Failure)
  | stackFailure (n : Nat)
  | pwrGoodRise | pwrGoodFall | resetNFall | resetNRise
  | resetEnd (slotA slotB : Option Image)
  | stageHostPort | reducedService | fullService | trainingDeadline
  | stackTrained (n : Nat)
  | sensorSample (temps : List (BitVec 8)) | hbmTempRead (n : Nat) (temp : BitVec 8)
  | thermalEvaluation | powerEvaluation (watts : Nat)
  | railFault | refclkLoss | hstrefLoss | trlrefLoss (south : Bool)
  | i3cPrivateWrite (bytes : List (BitVec 8)) | i3cPrivateRead (len : Nat)
  | setdasa (addr : BitVec 7) | enec
  | tapReset | bypass (tdi : List Bool) | samplePreload (capture scan : List Bool) | extest (capture scan : List Bool)
  | clamp | highz | extestPulse (scan : List Bool) | extestTrain (scan : List Bool)
  | internalDebug (t : JtagTarget)
  | registerWrite (agent : Agent) (addr : Nat) (v : BitVec 64)
  | hostLinkDown
deriving DecidableEq, Repr

end Sys2Proof
end

