-- ==== Sys2Proof/Machine/Bits.lean ====
section
/-! DEFINITION. Bit fields, sign extension, byte order (R5: little-endian) and the CRCs that the links use. -/

namespace Sys2Proof.Machine

/-- Bits [hi:lo] of a word, as a number. -/
def fld {n : Nat} (x : BitVec n) (hi lo : Nat) : Nat := (x.toNat >>> lo) % 2 ^ (hi + 1 - lo)

/-- One bit of a word. -/
def tb {n : Nat} (x : BitVec n) (i : Nat) : Bool := x.getLsbD i

/-- A word with bits [hi:lo] replaced by the low bits of v. -/
def setFld {n : Nat} (x : BitVec n) (hi lo v : Nat) : BitVec n :=
  let w := 2 ^ (hi + 1 - lo)
  BitVec.ofNat n (x.toNat - fld x hi lo * 2 ^ lo + v % w * 2 ^ lo)

/-- A word with one bit set or cleared. -/
def setBit {n : Nat} (x : BitVec n) (i : Nat) (b : Bool) : BitVec n :=
  if b then x ||| BitVec.ofNat n (2 ^ i) else x &&& ~~~ BitVec.ofNat n (2 ^ i)

/-- The low w bits of a number read as two's complement. -/
def signed (w x : Nat) : Int :=
  let y := x % 2 ^ w
  if y < 2 ^ (w - 1) then (y : Int) else (y : Int) - (2 ^ w : Nat)

/-- An integer in the low w bits, two's complement. -/
def wrap (w : Nat) (i : Int) : Nat := (i % ((2 ^ w : Nat) : Int)).toNat

/-- Sign extension of a word to 48 bits. -/
def sext48 {n : Nat} (x : BitVec n) : W48 := x.signExtend 48

/-- Byte i of a number stored little-endian (R5). -/
def byteOf (x i : Nat) : Byte := BitVec.ofNat 8 (x >>> (8 * i))

/-- The n low bytes of a number, lowest first (R5). -/
def toBytes (n x : Nat) : List Byte := (List.range n).map (byteOf x)

/-- The number that bytes hold, lowest first (R5). -/
def ofBytes : List Byte → Nat
  | [] => 0
  | b :: bs => b.toNat + 256 * ofBytes bs

/-- The n low bytes of a number, highest first (R5: network byte order on the host port). -/
def toBytesBE (n x : Nat) : List Byte := (toBytes n x).reverse

/-- The number that bytes hold, highest first. -/
def ofBytesBE (l : List Byte) : Nat := ofBytes l.reverse

/-- Element i of w bits of a packed number. -/
def elt (w x i : Nat) : Nat := (x >>> (w * i)) % 2 ^ w

/-- Numbers of w bits packed, element 0 lowest. -/
def packElts (w : Nat) : List Nat → Nat
  | [] => 0
  | x :: xs => x % 2 ^ w + 2 ^ w * packElts w xs

/-- A packed number with element i replaced. -/
def setElt (w x i v : Nat) : Nat := x - elt w x i * 2 ^ (w * i) + v % 2 ^ w * 2 ^ (w * i)

/-- floor(log2 m), 0 for 0. -/
def ilog2 (m : Nat) : Nat := Nat.log2 m

/-- x reversed within w bits (R157). -/
def revBits : Nat → Nat → Nat
  | 0, _ => 0
  | w + 1, x => x % 2 * 2 ^ w + revBits w (x / 2)

/-- CRC over bits taken least significant bit first, reflected polynomial. -/
def crcStep (poly : Nat) (crc : Nat) (b : Bool) : Nat :=
  let x := crc % 2 ^ 64
  if (x % 2 == 1) != b then (x / 2).xor poly else x / 2

/-- Reflected CRC of one byte from a value, and of bytes from an initial value. -/
def crcByte (poly crc : Nat) (b : Byte) : Nat := (List.range 8).foldl (fun a i => crcStep poly a (b.getLsbD i)) crc
def crcBytes (poly crc : Nat) (l : List Byte) : Nat := l.foldl (crcByte poly) crc

end Sys2Proof.Machine
end

