-- ==== Sys2Proof/Machine/Num.lean ====
section
/-! DEFINITION. Number formats, exact values, rounding and conversions (spec/02_number_formats.md). -/

namespace Sys2Proof.Machine

/-- An exact value: NaN (signalling or quiet), an infinity, or (-1)^neg * m * 2^e. A zero keeps its sign. -/
inductive Val where
  | nan (sig : Bool)
  | inf (neg : Bool)
  | fin (neg : Bool) (m : Nat) (e : Int)
deriving DecidableEq, Repr

/-- A binary float format: exponent bits and fraction bits (R34, Table 2-1). -/
structure FFmt where
  eb : Nat
  fb : Nat
deriving DecidableEq, Repr

def FFmt.bf16 : FFmt := ⟨8, 7⟩
def FFmt.fp16 : FFmt := ⟨5, 10⟩
def FFmt.fp32 : FFmt := ⟨8, 23⟩
def FFmt.fp64 : FFmt := ⟨11, 52⟩
/-- Width of an element. -/
def FFmt.width (f : FFmt) : Nat := 1 + f.eb + f.fb
def FFmt.bias (f : FFmt) : Nat := 2 ^ (f.eb - 1) - 1
/-- Exponent of the smallest normal. -/
def FFmt.emin (f : FFmt) : Int := 1 - (f.bias : Int)
/-- Exponent of the largest finite. -/
def FFmt.emax (f : FFmt) : Int := f.bias
/-- FP32 and FP64 follow the mode of the strand (R37, R38). -/
def FFmt.moded (f : FFmt) : Bool := f.eb == 11 || f.fb == 23
/-- The canonical NaN of Table 2-2. -/
def FFmt.canonNan (f : FFmt) : Nat := (2 ^ f.eb - 1) * 2 ^ f.fb + 2 ^ (f.fb - 1)
def FFmt.infBits (f : FFmt) (neg : Bool) : Nat := bit neg * 2 ^ (f.eb + f.fb) + (2 ^ f.eb - 1) * 2 ^ f.fb
def FFmt.maxBits (f : FFmt) (neg : Bool) : Nat := f.infBits neg - 1
def FFmt.zeroBits (f : FFmt) (neg : Bool) : Nat := bit neg * 2 ^ (f.eb + f.fb)

/-- The format codes of Table 2-1. -/
inductive Fmt where
  | bf16 | fp16 | s8 | u8 | s4 | u4 | yb8 | yb4 | fp32 | fp64 | s32 | s64
deriving DecidableEq, Repr

/-- The code of a 4-bit field; none for the reserved codes (R33). -/
def Fmt.ofCode (c : BitVec 4) : Option Fmt :=
  match c.toNat with
  | 0 => some .bf16 | 1 => some .fp16 | 2 => some .s8 | 3 => some .u8 | 4 => some .s4 | 5 => some .u4
  | 6 => some .yb8 | 7 => some .yb4 | 8 => some .fp32 | 9 => some .fp64 | 10 => some .s32 | 11 => some .s64
  | _ => none

/-- Element width in bits (Table 2-1). -/
def Fmt.width : Fmt → Nat
  | .bf16 | .fp16 => 16
  | .s8 | .u8 | .yb8 => 8
  | .s4 | .u4 | .yb4 => 4
  | .fp32 | .s32 => 32
  | .fp64 | .s64 => 64

def Fmt.float? : Fmt → Option FFmt
  | .bf16 => some .bf16 | .fp16 => some .fp16 | .fp32 => some .fp32 | .fp64 => some .fp64 | _ => none

/-- Integer formats: signedness and width (R39); block elements count as signed integers of their width. -/
def Fmt.int? : Fmt → Option (Bool × Nat)
  | .s8 => some (true, 8) | .u8 => some (false, 8) | .s4 => some (true, 4) | .u4 => some (false, 4)
  | .s32 => some (true, 32) | .s64 => some (true, 64) | _ => none

def Fmt.isBlock : Fmt → Bool
  | .yb8 | .yb4 => true
  | _ => false

/-- Group width g (R67). -/
def Fmt.group (f : Fmt) : Nat := 16 / f.width

/-- Block length of a block format (R40). -/
def Fmt.blockLen : Fmt → Nat
  | .yb4 => 32
  | _ => 16

/-- The sticky flags of Table 2-10 in the bits of CORE_VFP_FLAGS (Table 4-8). -/
abbrev FpFlags := BitVec 6
def FpFlags.nv : FpFlags := 1#6
def FpFlags.dz : FpFlags := 2#6
def FpFlags.of : FpFlags := 4#6
def FpFlags.uf : FpFlags := 8#6
def FpFlags.nx : FpFlags := 16#6
def FpFlags.inf : FpFlags := 32#6
/-- A flag set only when a condition holds. -/
def FpFlags.when (b : Bool) (f : FpFlags) : FpFlags := if b then f else 0#6

/-- The encoding of a float read without regard to the mode (R34, R37). -/
def FFmt.decode (f : FFmt) (w : Nat) : Val :=
  let neg := (w >>> (f.eb + f.fb)) % 2 == 1
  let x := (w >>> f.fb) % 2 ^ f.eb
  let fr := w % 2 ^ f.fb
  if x = 2 ^ f.eb - 1 then (if fr = 0 then .inf neg else .nan (f.moded && decide (fr < 2 ^ (f.fb - 1))))
  else if x = 0 then .fin neg fr (f.emin - f.fb)
  else .fin neg (2 ^ f.fb + fr) ((x : Int) - f.bias - f.fb)

/-- Whether an encoding is a subnormal. -/
def FFmt.isSub (f : FFmt) (w : Nat) : Bool := (w >>> f.fb) % 2 ^ f.eb == 0 && w % 2 ^ f.fb != 0

/-- A float operand read under the strand's mode (R36, R37): conf selects conformance mode. Also the flags the reading sets
for itself; a signalling NaN is left to the operation. -/
def FFmt.read (f : FFmt) (conf : Bool) (w : Nat) : Val × FpFlags :=
  if f.moded && !conf then
    if f.isSub w then (.fin ((w >>> (f.eb + f.fb)) % 2 == 1) 0 0, FpFlags.inf)
    else match f.decode w with
      | .nan _ => (.nan false, 0#6)
      | v => (v, 0#6)
  else (f.decode w, 0#6)

/-- Rounding modes as an operation uses them (Table 2-7, DYN resolved). -/
inductive Rm where
  | rne | rtz | rup | rdn | sr | rto
deriving DecidableEq, Repr

/-- The codes of the status word's rounding field (R55). -/
def Rm.ofCode (c : Nat) : Rm :=
  match c with
  | 1 => .rtz | 2 => .rup | 3 => .rdn | 4 => .sr | 5 => .rto | _ => .rne

/-- An instruction field naming a mode: 0b111 is the status word's field; 0b110 is reserved (R55). -/
def Rm.ofField (c : BitVec 3) (dyn : Rm) : Option Rm :=
  if c = 7#3 then some dyn else if c = 6#3 then none else some (Rm.ofCode c.toNat)

/-- m / 2^sh rounded to an integer magnitude (R55, R56); r is the 16 bits drawn for SR. -/
def roundMag (rm : Rm) (neg : Bool) (m sh r : Nat) : Nat :=
  let q := m >>> sh
  let rest := m % 2 ^ sh
  if rest = 0 then q
  else match rm with
    | .rne => if rest * 2 > 2 ^ sh || (rest * 2 == 2 ^ sh && q % 2 == 1) then q + 1 else q
    | .rtz => q
    | .rup => if neg then q else q + 1
    | .rdn => if neg then q + 1 else q
    | .sr =>
      let t := if 16 ≤ sh then (m >>> (sh - 16)) % 65536 else (m <<< (16 - sh)) % 65536
      if t + r ≥ 65536 then q + 1 else q
    | .rto => if q % 2 == 0 then q + 1 else q

/-- m * 2^e rounded to a multiple of 2^lsb: the multiplier and whether bits were discarded. -/
def roundTo (rm : Rm) (neg : Bool) (m : Nat) (e lsb : Int) (r : Nat) : Nat × Bool :=
  if lsb ≤ e then (m * 2 ^ (e - lsb).toNat, false)
  else let sh := (lsb - e).toNat
    (roundMag rm neg m sh r, m % 2 ^ sh != 0)

/-- The encoding of q * 2^lsb, known to be representable and finite. -/
def FFmt.pack (f : FFmt) (neg : Bool) (q : Nat) (lsb : Int) : Nat :=
  if q = 0 then f.zeroBits neg
  else
    let l : Int := (ilog2 q : Int) + lsb
    let s := bit neg * 2 ^ (f.eb + f.fb)
    if l < f.emin then s + (if lsb ≥ f.emin - f.fb then q * 2 ^ (lsb - (f.emin - f.fb)).toNat else q >>> ((f.emin - f.fb) - lsb).toNat)
    else
      let tl := l - f.fb
      let sig := if lsb ≥ tl then q * 2 ^ (lsb - tl).toNat else q >>> (tl - lsb).toNat
      s + ((l + f.bias).toNat) * 2 ^ f.fb + (sig - 2 ^ f.fb)

/-- Table 2-8: what an overflowing value becomes. sat is the output mode SAT. -/
def FFmt.overflow (f : FFmt) (rm : Rm) (sat neg : Bool) : Nat :=
  if sat then f.maxBits neg
  else match rm with
    | .rne | .sr | .rto => f.infBits neg
    | .rtz => f.maxBits neg
    | .rup => if neg then f.maxBits neg else f.infBits neg
    | .rdn => if neg then f.infBits neg else f.maxBits neg

/-- A value converted into a float format (R59, R60). keep: subnormal results are kept (BF16, FP16, conformance mode and the
mode-independent arithmetics); otherwise a tiny result becomes a zero of its sign (R37). -/
def FFmt.round (f : FFmt) (keep : Bool) (rm : Rm) (sat : Bool) (r : Nat) (v : Val) : Nat × FpFlags :=
  match v with
  | .nan sig => (f.canonNan, FpFlags.when sig FpFlags.nv)
  | .inf neg => (f.infBits neg, 0#6)
  | .fin neg m e =>
    if m = 0 then (f.zeroBits neg, 0#6)
    else
      let l : Int := (ilog2 m : Int) + e
      let lsb := l - f.fb
      let (q, nx) := roundTo rm neg m e lsb r
      let l' : Int := (ilog2 q : Int) + lsb
      if q ≠ 0 ∧ l' > f.emax then (f.overflow rm sat neg, FpFlags.of ||| FpFlags.nx)
      else if q = 0 ∨ l' < f.emin then
        if keep then
          let (q2, nx2) := roundTo rm neg m e (f.emin - f.fb) r
          (f.pack neg q2 (f.emin - f.fb), FpFlags.when nx2 (FpFlags.uf ||| FpFlags.nx))
        else (f.zeroBits neg, FpFlags.uf ||| FpFlags.nx)
      else (f.pack neg q lsb, FpFlags.when nx FpFlags.nx)

/-- Whether a format keeps subnormal results under a strand's mode (R36, R37). -/
def FFmt.keep (f : FFmt) (conf : Bool) : Bool := !f.moded || conf

/-- A float converted into an integer range (R61, Table 2-9). -/
def roundInt (sgn : Bool) (w : Nat) (rm : Rm) (r : Nat) (v : Val) : Nat × FpFlags :=
  let hi : Int := if sgn then (2 ^ (w - 1) : Nat) - 1 else (2 ^ w : Nat) - 1
  let lo : Int := if sgn then -((2 ^ (w - 1) : Nat) : Int) else 0
  match v with
  | .nan _ => (0, FpFlags.nv)
  | .inf neg => (wrap w (if neg then lo else hi), FpFlags.nv)
  | .fin neg m e =>
    let (q, nx) := roundTo rm neg m e 0 r
    let i : Int := if neg then -(q : Int) else q
    if i > hi then (wrap w hi, FpFlags.nv)
    else if i < lo then (wrap w lo, FpFlags.nv)
    else (wrap w i, FpFlags.when nx FpFlags.nx)

/-- An integer as an exact value. -/
def Val.ofInt (i : Int) : Val := .fin (i < 0) i.natAbs 0

/-- Zero with a sign. -/
def Val.zero (neg : Bool) : Val := .fin neg 0 0

def Val.isNan : Val → Bool
  | .nan _ => true
  | _ => false

def Val.isSig : Val → Bool
  | .nan s => s
  | _ => false

def Val.isZero : Val → Bool
  | .fin _ 0 _ => true
  | _ => false

def Val.isFin : Val → Bool
  | .fin _ _ _ => true
  | _ => false

def Val.neg? : Val → Bool
  | .nan _ => false
  | .inf n => n
  | .fin n _ _ => n

/-- The value with its sign changed (R100); a NaN stays. -/
def Val.negate : Val → Val
  | .nan s => .nan s
  | .inf n => .inf (!n)
  | .fin n m e => .fin (!n) m e

def Val.abs : Val → Val
  | .nan s => .nan s
  | .inf _ => .inf false
  | .fin _ m e => .fin false m e

/-- Signalling operands raise NV (R37). -/
def sigFlag (l : List Val) : FpFlags := FpFlags.when (l.any Val.isSig) FpFlags.nv

/-- The exact signed multiple of 2^e, for e at most the value's exponent. -/
def alignInt (neg : Bool) (m : Nat) (e lo : Int) : Int :=
  let x : Int := (m * 2 ^ (e - lo).toNat : Nat)
  if neg then -x else x

/-- The exact sum (R54, R100). A zero sum of operands of opposite sign is -0 when rdn holds, and +0 otherwise. -/
def Val.add (rdn : Bool) : Val → Val → Val × FpFlags
  | .nan s, y => (.nan false, sigFlag [.nan s, y])
  | x, .nan s => (.nan false, sigFlag [x, .nan s])
  | .inf a, .inf b => if a = b then (.inf a, 0#6) else (.nan false, FpFlags.nv)
  | .inf a, _ => (.inf a, 0#6)
  | _, .inf b => (.inf b, 0#6)
  | .fin a m e, .fin b n g =>
    if m = 0 ∧ n = 0 then (.fin (if a = b then a else rdn) 0 0, 0#6)
    else if m = 0 then (.fin b n g, 0#6)
    else if n = 0 then (.fin a m e, 0#6)
    else
      let lo := min e g
      let x := alignInt a m e lo + alignInt b n g lo
      if x = 0 then (.fin rdn 0 0, 0#6) else (.fin (x < 0) x.natAbs lo, 0#6)

/-- The exact product (Table 2-6). -/
def Val.mul : Val → Val → Val × FpFlags
  | .nan s, y => (.nan false, sigFlag [.nan s, y])
  | x, .nan s => (.nan false, sigFlag [x, .nan s])
  | .inf a, .inf b => (.inf (a != b), 0#6)
  | .inf a, .fin b n _ => if n = 0 then (.nan false, FpFlags.nv) else (.inf (a != b), 0#6)
  | .fin a m _, .inf b => if m = 0 then (.nan false, FpFlags.nv) else (.inf (a != b), 0#6)
  | .fin a m e, .fin b n g => (.fin (a != b) (m * n) (e + g), 0#6)

/-- The exact x * y + z, rounded later once (R100). -/
def Val.fma (rdn : Bool) (x y z : Val) : Val × FpFlags :=
  let (p, f) := Val.mul x y
  let (s, g) := Val.add rdn p z
  (s, f ||| g ||| sigFlag [z])

/-- x / y with 70 quotient bits and a sticky bit below, enough for any rounding to FP64 (R107, R108, R110, R126). Division of a
finite non-zero value by zero is infinite; the callers say which flag that sets. -/
def Val.div : Val → Val → Val × FpFlags
  | .nan s, y => (.nan false, sigFlag [.nan s, y])
  | x, .nan s => (.nan false, sigFlag [x, .nan s])
  | .inf a, .inf b => (.nan false, FpFlags.when (a || !a || b) FpFlags.nv)
  | .inf a, .fin b _ _ => (.inf (a != b), 0#6)
  | .fin a _ _, .inf b => (.fin (a != b) 0 0, 0#6)
  | .fin a m e, .fin b n g =>
    if n = 0 then (if m = 0 then (.nan false, FpFlags.nv) else (.inf (a != b), FpFlags.dz))
    else
      let k := 70 + ilog2 n
      let q := m * 2 ^ k / n
      let st := if m * 2 ^ k % n = 0 then 0 else 1
      (.fin (a != b) (2 * q + st) (e - g - k - 1), 0#6)

/-- floor(sqrt n) by digits, over fuel bits. -/
def isqrtAux : Nat → Nat → Nat → Nat
  | 0, _, x => x
  | f + 1, n, x => let y := x + 2 ^ f; isqrtAux f n (if y * y ≤ n then y else x)

def isqrt (n : Nat) : Nat := isqrtAux (ilog2 n / 2 + 1) n 0

/-- 1 / sqrt(m * 2^e) for m > 0, with enough bits and a sticky bit (R101). -/
def rsqrtFin (m : Nat) (e : Int) : Val :=
  let m2 := if e % 2 = 0 then m else 2 * m
  let e2 := if e % 2 = 0 then e else e - 1
  let k := 80 + ilog2 m2
  let n := 2 ^ (2 * k) / m2
  let q := isqrt n
  let st := if q * q * m2 = 2 ^ (2 * k) then 0 else 1
  .fin false (2 * q + st) (-(e2 / 2) - k - 1)

/-- Order of two values, NaN apart: -0 below +0 (R100, R104). -/
def Val.lt : Val → Val → Bool
  | .nan _, _ => false
  | _, .nan _ => false
  | .inf a, .inf b => a && !b
  | .inf a, .fin _ _ _ => a
  | .fin _ _ _, .inf b => !b
  | .fin a m e, .fin b n g =>
    if m = 0 ∧ n = 0 then a && !b
    else let lo := min e g; alignInt a m e lo < alignInt b n g lo

/-- Numeric equality (R102): the zeros are equal. -/
def Val.eqv : Val → Val → Bool
  | .nan _, _ => false
  | _, .nan _ => false
  | .inf a, .inf b => a == b
  | .fin a m e, .fin b n g =>
    if m = 0 ∧ n = 0 then true else let lo := min e g; alignInt a m e lo == alignInt b n g lo
  | _, _ => false

/-- FP64 arithmetic that no mode touches: RNE, subnormals kept, every NaN quiet (R51). -/
def ps64 (v : Val × FpFlags) : Nat × FpFlags :=
  let (b, f) := FFmt.fp64.round true .rne false 0 v.1
  (b, (v.2 ||| f) &&& FpFlags.nv)

/-- An FP64 encoding read with every NaN quiet (R51). -/
def quiet64 (w : Nat) : Val :=
  match FFmt.fp64.decode w with
  | .nan _ => .nan false
  | v => v

/-- Addition in a PS total (R51, R52): only NV can be set. -/
def ps64Add (x y : Nat) : Nat × FpFlags := ps64 (Val.add false (quiet64 x) (quiet64 y))

/-- A value rounded into FP64 by RNE and read back, flags dropped (R107 to R110). -/
def rne64 (v : Val) : Val := quiet64 (FFmt.fp64.round true .rne false 0 v).1

/-- The generator of R115. -/
def drawBits (seed ctr lane : Nat) : Nat :=
  let m := 2 ^ 64
  let z := (seed + ctr * 0x9E3779B97F4A7C15 + lane * 0xD1B54A32D192ED03) % m
  let z := (z.xor (z >>> 30)) * 0xBF58476D1CE4E5B9 % m
  let z := (z.xor (z >>> 27)) * 0x94D049BB133111EB % m
  let z := z.xor (z >>> 31)
  z % 65536

/-- Blocks encoded by R63: elements, scale byte and flags. vals holds one block; draws.1 and draws.2 give the SR bits of the first
pass and of a repeated pass by element. The last Bool says whether the pass was repeated. -/
def encodeBlock (yb4 : Bool) (rm : Rm) (sat : Bool) (d1 d2 : Nat → Nat) (vals : List Val) : List Nat × Nat × FpFlags × Bool :=
  let qmax := if yb4 then 7 else 127
  let g : Int := if yb4 then 2 else 6
  let n := vals.length
  let finite := vals.filter Val.isFin
  let tops : List Int := vals.filterMap (fun v => match v with
    | .fin _ m e => if m = 0 then none else some ((ilog2 m : Int) + e)
    | _ => none)
  let e0 : Int := match tops with
    | [] => 0x7F
    | t :: ts => max 1 ((ts.foldl max t) - g + 127)
  let pass (e : Int) (d : Nat → Nat) : List (Option (Bool × Nat × Bool)) := vals.zipIdx.map (fun (v, i) => match v with
    | .fin neg m x => let (q, nx) := roundTo rm neg m x (e - 127) (d i); some (neg, q, nx)
    | _ => none)
  let tooBig (l : List (Option (Bool × Nat × Bool))) := l.any (fun o => match o with | some (_, q, _) => decide (q > qmax) | none => false)
  let flagsOf (l : List (Option (Bool × Nat × Bool))) : FpFlags :=
    (l.zip vals).foldl (fun f (o, v) => match o, v with
      | some (_, q, nx), .fin _ m _ => f ||| FpFlags.when nx FpFlags.nx ||| FpFlags.when (q == 0 && m != 0) FpFlags.uf
      | _, _ => f) 0#6
  let nvs : FpFlags := vals.foldl (fun f v => match v with
    | .inf _ => f ||| FpFlags.nv
    | .nan s => f ||| FpFlags.when s FpFlags.nv
    | _ => f) 0#6
  let code (neg : Bool) (q : Nat) : Nat := wrap (if yb4 then 4 else 8) (if neg then -(q : Int) else q)
  let whole (f : FpFlags) (rep : Bool) := (List.replicate n 0, 0xFF, f, rep)
  if finite.length = n ∧ tops = [] then (List.replicate n 0, 0, 0#6, false)
  else
    let p1 := pass e0 d1
    let rep := tooBig p1
    let e1 := if rep then e0 + 1 else e0
    let p2 := if rep then pass e1 d2 else p1
    let fl := flagsOf p2 ||| nvs
    if e1 > 254 then
      let p3 := pass 254 (if rep then d2 else d1)
      let fl3 := fl ||| flagsOf p3 ||| FpFlags.of ||| FpFlags.nx
      if sat then
        if yb4 ∧ finite.length < n then whole fl3 rep
        else (p3.map (fun o => match o with | some (neg, q, _) => code neg (min q qmax) | none => 0x80), 254, fl3, rep)
      else if yb4 then whole fl3 rep
      else (p3.map (fun o => match o with | some (neg, q, _) => if q > qmax then 0x80 else code neg q | none => 0x80), 254, fl3, rep)
    else if finite.length = n ∧ p2.all (fun o => match o with | some (_, q, _) => q == 0 | none => false) then
      (List.replicate n 0, 0, fl, rep)
    else if yb4 ∧ finite.length < n then whole fl rep
    else (p2.map (fun o => match o with | some (neg, q, _) => code neg q | none => 0x80), e1.toNat, fl, rep)

end Sys2Proof.Machine
end

