-- ==== Sys2Proof/Config.lean ====
section
/-! DEFINITION. What the spec leaves to the implementation: free values (constants with no body, applied to the counter State.free
or to the operands they depend on) and the public algorithms that the spec names without repeating them. -/

namespace Sys2Proof

/-- What an SPDM response says (Table 14-5, R449 to R453); its bytes are those of the DMTF standards that the spec names. Measurement
blocks are index, DMTFSpecMeasurementValueType and value; a nonce stands where the response is signed. -/
inductive SpdmAnswer where
  | version | capabilities | algorithms | digests
  | certificate (chain : List Byte)
  | challengeAuth (nonce : BitVec 256)
  | measurements (blocks : List (Nat × Nat × List Byte)) (nonce : Option (BitVec 256))
  | log (records : List (List Byte))
  | keyExchange (sid : Nat) | finish (sid : Nat) | heartbeat (sid : Nat) | keyUpdate (sid : Nat) | endSession (sid : Nat)
  | encapsulated (sid : Nat) | encapsulatedAck (sid : Nat)
  | csr (serial : BitVec 64)
  | certificateSet
  | unsupportedRequest | invalidRequest | sessionLimit
deriving DecidableEq, Repr

namespace Config

/-- The n-th value that the spec does not define (R27, R92, R209, R309 and others); nothing constrains it. -/
opaque freeValue : Nat → Nat

/-- SHA-256 of a byte string (FIPS 180-4), R446 to R451. -/
opaque sha256 : List Byte → BitVec 256
/-- The bytes of an SPDM response (R450: SPDM 1.3, which the spec does not repeat). -/
opaque spdmBytes : SpdmAnswer → List Byte
/-- Set of the shared TLB that a page falls into, R232 gives 8 ways and no index. -/
opaque stlbSet : Nat → Nat
/-- The entry that a full TLB, cache of non-leaf entries or shared-TLB set replaces, R232 gives none. -/
opaque tlbVictim : Nat → Nat
/-- The result of an instruction-level agent of secure random numbers (R16, the true random generator). -/
opaque trueRandom : Nat → Nat
/-- ID_SERIAL as fused (R2: never zero), through the registers of Table 0-1. -/
opaque serial : BitVec 64
/-- Coefficient c of segment g of activation slot n after reset: R128 gives the functions and their accuracy, not the
coefficients. -/
opaque actDefault : Nat → Nat → Nat → BitVec 32
/-- The LEN code of a payload length that Table 8-4 does not list (R350). -/
opaque lenCode : Nat → BitVec 3
/-- What firmware sets in a register from the boot flash or the fuses at bring-up (Table 12-10, the fields marked trained or fused;
R435), by register offset. -/
opaque flashReg : Nat → BitVec 64
/-- VCORE (levels 0 to 3) and VSRAM (levels 0 to 3, at 4 to 7) of a clock level in mV, fused per device (R471). -/
opaque levelMv : Nat → BitVec 16
/-- The parameters of the boot ROM's record for MS0 (Table 14-4): its version with LCS, fused SVN, KEYREV and the slot; their form is the
ROM's. -/
opaque romRecord : Nat → Nat → Nat → Bool → List Byte
/-- SHA-256 of the device configuration region of the boot flash (Table 14-2). -/
opaque flashDigest : BitVec 256

end Config
end Sys2Proof
end

