-- ==== Sys2Proof/Machine/RegMap.lean ====
section
/-! DEFINITION. The register map: where each register of the spec's register tables stands in register space and where its fields
stand in it. An address here is an offset from 0xF_0000_0000_0000 (Table 1-5). -/

namespace Sys2Proof.Machine

/-- A field of a register: bits [hi:lo]. -/
structure Fld where
  hi : Nat
  lo : Nat
deriving DecidableEq, Repr

/-- The core block of a core by global number (Table 1-5). The steward cores 480 to 483 have the registers of a core too (R16);
the spec places no block for them, so the model keeps theirs at offsets of its own beyond register space (log entry 12). -/
def coreBase (c : Nat) : Nat :=
  if c < 480 then c / 40 * 0x1000000 + c % 40 * 0x10000 else 0x100000000 + (c - 480) * 0x10000
/-- The cluster block (Table 1-5). -/
def clusterBase (u : Nat) : Nat := u * 0x1000000 + 0x800000
/-- The device blocks (Table 1-5). -/
def deviceBase (b : Nat) : Nat := 0x10000000 + b * 0x100000
/-- A register of a device block by its offset. -/
def deviceReg (b o : Nat) : Nat := deviceBase b + o

/-- Table 0-1, R2. -/
def Reg.ID_PART : Nat := deviceBase 9 + 0x0
def Reg.ID_PART.VENDOR : Fld := ⟨63, 48⟩
def Reg.ID_PART.MODEL : Fld := ⟨47, 24⟩
def Reg.ID_PART.REV : Fld := ⟨23, 8⟩
/-- Table 0-1, R2. -/
def Reg.ID_SERIAL : Nat := deviceBase 9 + 0x8
def Reg.ID_SERIAL.SERIAL : Fld := ⟨63, 0⟩
/-- Table 1-6, R30. -/
def Reg.ID_CAPS : Nat := deviceBase 9 + 0x10
def Reg.ID_CAPS.CLUSTERS : Fld := ⟨7, 0⟩
def Reg.ID_CAPS.CORES_PER_CLUSTER : Fld := ⟨15, 8⟩
def Reg.ID_CAPS.STACKS : Fld := ⟨23, 16⟩
def Reg.ID_CAPS.DDR_CHANNELS : Fld := ⟨31, 24⟩
def Reg.ID_CAPS.TRAIL_PORTS : Fld := ⟨39, 32⟩
def Reg.ID_CAPS.PARTITIONS : Fld := ⟨47, 40⟩
def Reg.ID_CAPS.STEWARDS : Fld := ⟨55, 48⟩
/-- Table 1-6, R30. -/
def Reg.ID_MEM_LIVE : Nat := deviceBase 9 + 0x18
def Reg.ID_MEM_LIVE.HBM_LIVE : Fld := ⟨23, 0⟩
def Reg.ID_MEM_LIVE.DDR_LIVE : Fld := ⟨35, 24⟩
/-- Table 1-6, R30. -/
def Reg.ID_CLU_ASSIGN : Nat := deviceBase 9 + 0x20
def Reg.ID_CLU_ASSIGN.PART : Fld := ⟨47, 0⟩
/-- Table 1-6, R30. -/
def Reg.ID_CLU_STATE : Nat := deviceBase 9 + 0x28
def Reg.ID_CLU_STATE.CL : Fld := ⟨59, 0⟩
/-- Table 1-6, R30. -/
def Reg.ID_CORE_LIVE (j : Nat) : Nat := deviceBase 9 + 0x40 + 0x8 * j
def Reg.ID_CORE_LIVE.LIVE : Fld := ⟨63, 0⟩
/-- Table 3-8, R96. -/
def Reg.CORE_MX_STATUS (c : Nat) : Nat := coreBase c + 0x800
def Reg.CORE_MX_STATUS.OUT : Fld := ⟨7, 0⟩
def Reg.CORE_MX_STATUS.BUSY : Fld := ⟨8, 8⟩
def Reg.CORE_MX_STATUS.ICLS : Fld := ⟨12, 9⟩
/-- Table 3-8, R96. -/
def Reg.CORE_MX_SHAPE (c s : Nat) : Nat := coreBase c + 0x808 + 0x8 * s
def Reg.CORE_MX_SHAPE.REASON : Fld := ⟨7, 0⟩
def Reg.CORE_MX_SHAPE.OP : Fld := ⟨11, 8⟩
/-- Table 3-8, R96. -/
def Reg.CORE_MX_STEPS (c : Nat) : Nat := coreBase c + 0x828
def Reg.CORE_MX_STEPS.STEPS : Fld := ⟨63, 0⟩
/-- Table 3-8, R96. -/
def Reg.CORE_MX_STALL (c : Nat) : Nat := coreBase c + 0x830
def Reg.CORE_MX_STALL.PROMO : Fld := ⟨31, 0⟩
def Reg.CORE_MX_STALL.BANK : Fld := ⟨63, 32⟩
/-- Table 4-8, R130. -/
def Reg.CORE_VFP_CTL (c s : Nat) : Nat := coreBase c + 0x900 + 0x8 * s
def Reg.CORE_VFP_CTL.CONF : Fld := ⟨0, 0⟩
def Reg.CORE_VFP_CTL.TE_NV : Fld := ⟨1, 1⟩
def Reg.CORE_VFP_CTL.TE_OF : Fld := ⟨2, 2⟩
def Reg.CORE_VFP_CTL.TSRC : Fld := ⟨5, 4⟩
/-- Table 4-8, R130. -/
def Reg.CORE_VFP_FLAGS (c s : Nat) : Nat := coreBase c + 0x920 + 0x8 * s
def Reg.CORE_VFP_FLAGS.NV : Fld := ⟨0, 0⟩
def Reg.CORE_VFP_FLAGS.DZ : Fld := ⟨1, 1⟩
def Reg.CORE_VFP_FLAGS.OF : Fld := ⟨2, 2⟩
def Reg.CORE_VFP_FLAGS.UF : Fld := ⟨3, 3⟩
def Reg.CORE_VFP_FLAGS.NX : Fld := ⟨4, 4⟩
def Reg.CORE_VFP_FLAGS.IF : Fld := ⟨5, 5⟩
/-- Table 4-8, R130. -/
def Reg.CORE_EPI_CTL (c s : Nat) : Nat := coreBase c + 0x940 + 0x8 * s
def Reg.CORE_EPI_CTL.SEN : Fld := ⟨0, 0⟩
def Reg.CORE_EPI_CTL.SFMT : Fld := ⟨1, 1⟩
def Reg.CORE_EPI_CTL.VS : Fld := ⟨6, 2⟩
def Reg.CORE_EPI_CTL.BEN : Fld := ⟨7, 7⟩
def Reg.CORE_EPI_CTL.BFMT : Fld := ⟨8, 8⟩
def Reg.CORE_EPI_CTL.VB : Fld := ⟨13, 9⟩
def Reg.CORE_EPI_CTL.AEN : Fld := ⟨14, 14⟩
def Reg.CORE_EPI_CTL.ASLOT : Fld := ⟨17, 15⟩
/-- Table 4-8, R130. -/
def Reg.CORE_RNG_SEED (c : Nat) : Nat := coreBase c + 0x960
def Reg.CORE_RNG_SEED.SEED : Fld := ⟨63, 0⟩
/-- Table 4-8, R130. -/
def Reg.CORE_RNG_CTR (c : Nat) : Nat := coreBase c + 0x968
def Reg.CORE_RNG_CTR.CTR : Fld := ⟨63, 0⟩
/-- Table 4-8, R130. -/
def Reg.CORE_ACT_VALID (c : Nat) : Nat := coreBase c + 0x970
def Reg.CORE_ACT_VALID.VALID : Fld := ⟨7, 0⟩
/-- Table 4-8, R130. -/
def Reg.CORE_VEC_INSNS (c : Nat) : Nat := coreBase c + 0x978
def Reg.CORE_VEC_INSNS.INSNS : Fld := ⟨63, 0⟩
/-- Table 4-8, R130. -/
def Reg.CORE_EPI_ROWS (c : Nat) : Nat := coreBase c + 0x980
def Reg.CORE_EPI_ROWS.ROWS : Fld := ⟨63, 0⟩
/-- Table 5-15, R164. -/
def Reg.CORE_ID (c : Nat) : Nat := coreBase c + 0x0
def Reg.CORE_ID.K : Fld := ⟨5, 0⟩
def Reg.CORE_ID.C : Fld := ⟨11, 8⟩
def Reg.CORE_ID.GLOBAL : Fld := ⟨24, 16⟩
/-- Table 5-15, R164. -/
def Reg.CORE_CYCLE (c : Nat) : Nat := coreBase c + 0x8
def Reg.CORE_CYCLE.CYCLE : Fld := ⟨63, 0⟩
/-- Table 5-15, R164. -/
def Reg.CORE_STRAND (c s : Nat) : Nat := coreBase c + 0x10 + 0x8 * s
def Reg.CORE_STRAND.STATE : Fld := ⟨2, 0⟩
def Reg.CORE_STRAND.LOADS : Fld := ⟨6, 3⟩
def Reg.CORE_STRAND.MATRIX : Fld := ⟨8, 7⟩
def Reg.CORE_STRAND.PC : Fld := ⟨63, 16⟩
/-- Table 5-15, R164. -/
def Reg.CORE_ISSUE (c s : Nat) : Nat := coreBase c + 0x30 + 0x8 * s
def Reg.CORE_ISSUE.ISSUED : Fld := ⟨63, 0⟩
/-- Table 5-15, R164. -/
def Reg.CORE_WAIT (c s : Nat) : Nat := coreBase c + 0x50 + 0x8 * s
def Reg.CORE_WAIT.LOADW : Fld := ⟨31, 0⟩
def Reg.CORE_WAIT.MATW : Fld := ⟨63, 32⟩
/-- Table 6-11, R198. -/
def Reg.CORE_XIRQ (c s : Nat) : Nat := coreBase c + 0x200 + 0x8 * s
def Reg.CORE_XIRQ.SET : Fld := ⟨0, 0⟩
/-- Table 6-11, R198. -/
def Reg.CORE_RSTOP (c s : Nat) : Nat := coreBase c + 0x220 + 0x8 * s
def Reg.CORE_RSTOP.REASON : Fld := ⟨1, 0⟩
def Reg.CORE_RSTOP.CODE : Fld := ⟨6, 2⟩
def Reg.CORE_RSTOP.ORIG : Fld := ⟨11, 7⟩
def Reg.CORE_RSTOP.PC : Fld := ⟨63, 16⟩
/-- Table 6-11, R198. -/
def Reg.CORE_RESUME (c s : Nat) : Nat := coreBase c + 0x240 + 0x8 * s
def Reg.CORE_RESUME.GO : Fld := ⟨0, 0⟩
def Reg.CORE_RESUME.USEPC : Fld := ⟨1, 1⟩
def Reg.CORE_RESUME.PC : Fld := ⟨63, 16⟩
/-- Table 6-11, R198. -/
def Reg.CORE_XCOUNT (c s : Nat) : Nat := coreBase c + 0x260 + 0x8 * s
def Reg.CORE_XCOUNT.EXC : Fld := ⟨31, 0⟩
def Reg.CORE_XCOUNT.RSTOPS : Fld := ⟨63, 32⟩
/-- Table 6-12, R199. -/
def Reg.CLU_UC_DEC (u e : Nat) : Nat := clusterBase u + 0x50000 + 0x8 * e
def Reg.CLU_UC_DEC.VALID : Fld := ⟨0, 0⟩
def Reg.CLU_UC_DEC.UMODE : Fld := ⟨1, 1⟩
def Reg.CLU_UC_DEC.START : Fld := ⟨9, 2⟩
def Reg.CLU_UC_DEC.LEN : Fld := ⟨14, 10⟩
def Reg.CLU_UC_DEC.EPOCH : Fld := ⟨15, 15⟩
/-- Table 6-12, R199. -/
def Reg.CLU_UC_BUSY (u : Nat) : Nat := clusterBase u + 0x50080
def Reg.CLU_UC_BUSY.BUSY : Fld := ⟨31, 0⟩
/-- Table 6-12, R199. -/
def Reg.CLU_UC_FAULTS (u : Nat) : Nat := clusterBase u + 0x50088
def Reg.CLU_UC_FAULTS.FAULTS : Fld := ⟨31, 0⟩
/-- Table 6-12, R199. -/
def Reg.CLU_UC_OPA (u m : Nat) : Nat := clusterBase u + 0x51000 + 0x10 * m
def Reg.CLU_UC_OPA.W0 : Fld := ⟨31, 0⟩
def Reg.CLU_UC_OPA.W1 : Fld := ⟨63, 32⟩
/-- Table 6-12, R199. -/
def Reg.CLU_UC_OPB (u m : Nat) : Nat := clusterBase u + 0x51008 + 0x10 * m
def Reg.CLU_UC_OPB.CTL : Fld := ⟨31, 0⟩
/-- Table 7-3, R222. -/
def Reg.CORE_LS_EN (c : Nat) : Nat := coreBase c + 0x400
def Reg.CORE_LS_EN.WS_EN : Fld := ⟨15, 0⟩
def Reg.CORE_LS_EN.AS_EN : Fld := ⟨31, 16⟩
def Reg.CORE_LS_EN.PS_EN : Fld := ⟨39, 32⟩
/-- Table 7-3, R222. -/
def Reg.CORE_LS_STATE0 (c : Nat) : Nat := coreBase c + 0x408
def Reg.CORE_LS_STATE0.WS_ST : Fld := ⟨31, 0⟩
def Reg.CORE_LS_STATE0.AS_ST : Fld := ⟨63, 32⟩
/-- Table 7-3, R222. -/
def Reg.CORE_LS_STATE1 (c : Nat) : Nat := coreBase c + 0x410
def Reg.CORE_LS_STATE1.PS_ST : Fld := ⟨15, 0⟩
/-- Table 7-3, R222. -/
def Reg.CORE_LS_PEND (c : Nat) : Nat := coreBase c + 0x418
def Reg.CORE_LS_PEND.PENDING_ON : Fld := ⟨39, 0⟩
/-- Table 7-3, R222. -/
def Reg.CORE_L1_CTL (c : Nat) : Nat := coreBase c + 0x420
def Reg.CORE_L1_CTL.DINV : Fld := ⟨0, 0⟩
def Reg.CORE_L1_CTL.IINV : Fld := ⟨1, 1⟩
def Reg.CORE_L1_CTL.PFDIST : Fld := ⟨5, 2⟩
/-- Table 7-3, R222. -/
def Reg.CORE_L1_HITS (c : Nat) : Nat := coreBase c + 0x428
def Reg.CORE_L1_HITS.HITS : Fld := ⟨63, 0⟩
/-- Table 7-3, R222. -/
def Reg.CORE_L1_MISSES (c : Nat) : Nat := coreBase c + 0x430
def Reg.CORE_L1_MISSES.MISSES : Fld := ⟨63, 0⟩
/-- Table 7-3, R222. -/
def Reg.CORE_L1_PFUSE (c : Nat) : Nat := coreBase c + 0x438
def Reg.CORE_L1_PFUSE.PFUSE : Fld := ⟨63, 0⟩
/-- Table 7-3, R222. -/
def Reg.CORE_IC_MISSES (c : Nat) : Nat := coreBase c + 0x440
def Reg.CORE_IC_MISSES.MISSES : Fld := ⟨31, 0⟩
def Reg.CORE_IC_MISSES.WAIT : Fld := ⟨63, 32⟩
/-- Table 7-3, R222. -/
def Reg.CORE_LS_RETRY (c : Nat) : Nat := coreBase c + 0x448
def Reg.CORE_LS_RETRY.RETRY : Fld := ⟨31, 0⟩
def Reg.CORE_LS_RETRY.STQ : Fld := ⟨63, 32⟩
/-- Table 7-3, R222. -/
def Reg.CORE_ECC (c : Nat) : Nat := coreBase c + 0x450
def Reg.CORE_ECC.CORR : Fld := ⟨31, 0⟩
def Reg.CORE_ECC.UNCOR : Fld := ⟨47, 32⟩
def Reg.CORE_ECC.STORE : Fld := ⟨50, 48⟩
/-- Table 7-3, R222. -/
def Reg.CORE_ECC_ADDR (c : Nat) : Nat := coreBase c + 0x458
def Reg.CORE_ECC_ADDR.OFFSET : Fld := ⟨23, 0⟩
/-- Table 7-4, R224. -/
def Reg.CLU_CLM_EN (u : Nat) : Nat := clusterBase u + 0x40000
def Reg.CLU_CLM_EN.EN : Fld := ⟨47, 0⟩
/-- Table 7-4, R224. -/
def Reg.CLU_CLM_STATE0 (u : Nat) : Nat := clusterBase u + 0x40008
def Reg.CLU_CLM_STATE0.ST : Fld := ⟨63, 0⟩
/-- Table 7-4, R224. -/
def Reg.CLU_CLM_STATE1 (u : Nat) : Nat := clusterBase u + 0x40010
def Reg.CLU_CLM_STATE1.ST : Fld := ⟨31, 0⟩
/-- Table 7-4, R224. -/
def Reg.CLU_CLM_PEND (u : Nat) : Nat := clusterBase u + 0x40018
def Reg.CLU_CLM_PEND.PENDING_ON : Fld := ⟨47, 0⟩
/-- Table 7-4, R224. -/
def Reg.CLU_CLM_ECC (u : Nat) : Nat := clusterBase u + 0x40020
def Reg.CLU_CLM_ECC.CORR : Fld := ⟨31, 0⟩
def Reg.CLU_CLM_ECC.UNCOR : Fld := ⟨47, 32⟩
/-- Table 7-4, R224. -/
def Reg.CLU_CLM_ECC_ADDR (u : Nat) : Nat := clusterBase u + 0x40028
def Reg.CLU_CLM_ECC_ADDR.OFFSET : Fld := ⟨25, 0⟩
/-- Table 7-4, R224. -/
def Reg.CLU_CLM_PICKS (u : Nat) : Nat := clusterBase u + 0x40030
def Reg.CLU_CLM_PICKS.PICKS : Fld := ⟨63, 0⟩
/-- Table 7-8, R235. -/
def Reg.MMU_ROOT (u : Nat) : Nat := clusterBase u + 0x0
def Reg.MMU_ROOT.EN : Fld := ⟨0, 0⟩
def Reg.MMU_ROOT.ROOT : Fld := ⟨51, 12⟩
/-- Table 7-8, R235. -/
def Reg.MMU_INV (u : Nat) : Nat := clusterBase u + 0x8
def Reg.MMU_INV.GO : Fld := ⟨0, 0⟩
def Reg.MMU_INV.SCOPE : Fld := ⟨2, 1⟩
def Reg.MMU_INV.VA : Fld := ⟨47, 16⟩
def Reg.MMU_INV.BUSY : Fld := ⟨48, 48⟩
/-- Table 7-8, R235. -/
def Reg.MMU_FQ_STAT (u : Nat) : Nat := clusterBase u + 0x10
def Reg.MMU_FQ_STAT.COUNT : Fld := ⟨6, 0⟩
def Reg.MMU_FQ_STAT.FULL : Fld := ⟨7, 7⟩
/-- Table 7-8, R235. -/
def Reg.MMU_FQ_HEAD (u : Nat) : Nat := clusterBase u + 0x18
def Reg.MMU_FQ_HEAD.WRITE : Fld := ⟨0, 0⟩
def Reg.MMU_FQ_HEAD.FETCH : Fld := ⟨1, 1⟩
def Reg.MMU_FQ_HEAD.SRC : Fld := ⟨7, 2⟩
def Reg.MMU_FQ_HEAD.VA : Fld := ⟨47, 16⟩
/-- Table 7-8, R235. -/
def Reg.MMU_FQ_ACK (u : Nat) : Nat := clusterBase u + 0x20
def Reg.MMU_FQ_ACK.RETRY : Fld := ⟨0, 0⟩
def Reg.MMU_FQ_ACK.REJECT : Fld := ⟨1, 1⟩
/-- Table 7-8, R235. -/
def Reg.MMU_WALKS (u : Nat) : Nat := clusterBase u + 0x28
def Reg.MMU_WALKS.WALKS : Fld := ⟨63, 0⟩
/-- Table 7-8, R235. -/
def Reg.MMU_STLB_MISS (u : Nat) : Nat := clusterBase u + 0x30
def Reg.MMU_STLB_MISS.MISSES : Fld := ⟨63, 0⟩
/-- Table 8-7, R247. -/
def Reg.CLU_RT_SEND (u k n : Nat) : Nat := clusterBase u + 0x30000 + 0x500 * k + 0x8 * n
def Reg.CLU_RT_SEND.VALID : Fld := ⟨0, 0⟩
def Reg.CLU_RT_SEND.KIND : Fld := ⟨2, 1⟩
def Reg.CLU_RT_SEND.MSZ : Fld := ⟨3, 3⟩
def Reg.CLU_RT_SEND.CHID : Fld := ⟨19, 4⟩
def Reg.CLU_RT_SEND.DST : Fld := ⟨31, 20⟩
def Reg.CLU_RT_SEND.GROUP : Fld := ⟨36, 32⟩
def Reg.CLU_RT_SEND.ROP : Fld := ⟨40, 37⟩
def Reg.CLU_RT_SEND.WIN : Fld := ⟨51, 41⟩
def Reg.CLU_RT_SEND.HSLOT : Fld := ⟨54, 52⟩
/-- Table 8-7, R247. -/
def Reg.CLU_RT_QA (u k q : Nat) : Nat := clusterBase u + 0x30200 + 0x500 * k + 0x10 * q
def Reg.CLU_RT_QA.EN : Fld := ⟨0, 0⟩
def Reg.CLU_RT_QA.KIND : Fld := ⟨1, 1⟩
def Reg.CLU_RT_QA.MSZ : Fld := ⟨2, 2⟩
def Reg.CLU_RT_QA.CHID : Fld := ⟨18, 3⟩
def Reg.CLU_RT_QA.BASE : Fld := ⟨28, 19⟩
def Reg.CLU_RT_QA.NPL : Fld := ⟨39, 29⟩
def Reg.CLU_RT_QA.SEP : Fld := ⟨51, 40⟩
def Reg.CLU_RT_QA.GROUP : Fld := ⟨56, 52⟩
def Reg.CLU_RT_QA.ROP : Fld := ⟨60, 57⟩
def Reg.CLU_RT_QA.HEN : Fld := ⟨61, 61⟩
/-- Table 8-7, R247. -/
def Reg.CLU_RT_QB (u k q : Nat) : Nat := clusterBase u + 0x30208 + 0x500 * k + 0x10 * q
def Reg.CLU_RT_QB.HBASE : Fld := ⟨44, 0⟩
def Reg.CLU_RT_QB.HLINES : Fld := ⟨62, 45⟩
def Reg.CLU_RT_QB.EXPECT : Fld := ⟨15, 0⟩
/-- Table 8-7, R247. -/
def Reg.CLU_RT_HS (u k h : Nat) : Nat := clusterBase u + 0x30400 + 0x500 * k + 0x8 * h
def Reg.CLU_RT_HS.V : Fld := ⟨0, 0⟩
def Reg.CLU_RT_HS.HBASE : Fld := ⟨45, 1⟩
def Reg.CLU_RT_HS.HLINES : Fld := ⟨63, 46⟩
/-- Table 8-8, R248. -/
def Reg.CLU_RT_GRP (u r g : Nat) : Nat := clusterBase u + 0x3c800 + 0x100 * r + 0x8 * g
def Reg.CLU_RT_GRP.V : Fld := ⟨0, 0⟩
def Reg.CLU_RT_GRP.OUT : Fld := ⟨5, 1⟩
def Reg.CLU_RT_GRP.PARENT : Fld := ⟨8, 6⟩
/-- Table 8-8, R248. -/
def Reg.CLU_RT_HGRP (u g : Nat) : Nat := clusterBase u + 0x3f000 + 0x8 * g
def Reg.CLU_RT_HGRP.V : Fld := ⟨0, 0⟩
def Reg.CLU_RT_HGRP.CPORT : Fld := ⟨8, 1⟩
def Reg.CLU_RT_HGRP.BOUT : Fld := ⟨13, 9⟩
def Reg.CLU_RT_HGRP.PARENT : Fld := ⟨17, 14⟩
/-- Table 8-13, R266. -/
def Reg.CORE_MSG_CTL (c : Nat) : Nat := coreBase c + 0x1000
def Reg.CORE_MSG_CTL.TIMEOUT : Fld := ⟨31, 0⟩
/-- Table 8-13, R266. -/
def Reg.CORE_MSG_SENT (c : Nat) : Nat := coreBase c + 0x1008
def Reg.CORE_MSG_SENT.SENT : Fld := ⟨63, 0⟩
/-- Table 8-13, R266. -/
def Reg.CORE_MSG_RECV (c : Nat) : Nat := coreBase c + 0x1010
def Reg.CORE_MSG_RECV.RECV : Fld := ⟨63, 0⟩
/-- Table 8-13, R266. -/
def Reg.CORE_MSG_ERR (c : Nat) : Nat := coreBase c + 0x1018
def Reg.CORE_MSG_ERR.ERRS : Fld := ⟨31, 0⟩
def Reg.CORE_MSG_ERR.UNBOUND : Fld := ⟨47, 32⟩
def Reg.CORE_MSG_ERR.OVER : Fld := ⟨63, 48⟩
/-- Table 8-13, R266. -/
def Reg.CORE_MSG_STALL (c : Nat) : Nat := coreBase c + 0x1020
def Reg.CORE_MSG_STALL.STALLS : Fld := ⟨31, 0⟩
def Reg.CORE_MSG_STALL.WAITS : Fld := ⟨63, 32⟩
/-- Table 8-13, R266. -/
def Reg.CORE_MSG_SSA (c n : Nat) : Nat := coreBase c + 0x1100 + 0x10 * n
def Reg.CORE_MSG_SSA.SENT : Fld := ⟨31, 0⟩
def Reg.CORE_MSG_SSA.REL : Fld := ⟨63, 32⟩
/-- Table 8-13, R266. -/
def Reg.CORE_MSG_SSB (c n : Nat) : Nat := coreBase c + 0x1108 + 0x10 * n
def Reg.CORE_MSG_SSB.FETCHED : Fld := ⟨31, 0⟩
def Reg.CORE_MSG_SSB.TPOS : Fld := ⟨49, 32⟩
def Reg.CORE_MSG_SSB.TLAP : Fld := ⟨50, 50⟩
def Reg.CORE_MSG_SSB.SPILL : Fld := ⟨51, 51⟩
def Reg.CORE_MSG_SSB.ERR : Fld := ⟨52, 52⟩
/-- Table 8-13, R266. -/
def Reg.CORE_MSG_QSA (c q : Nat) : Nat := coreBase c + 0x1500 + 0x10 * q
def Reg.CORE_MSG_QSA.REL : Fld := ⟨31, 0⟩
def Reg.CORE_MSG_QSA.FETCHED : Fld := ⟨63, 32⟩
/-- Table 8-13, R266. -/
def Reg.CORE_MSG_QSB (c q : Nat) : Nat := coreBase c + 0x1508 + 0x10 * q
def Reg.CORE_MSG_QSB.READY : Fld := ⟨10, 0⟩
def Reg.CORE_MSG_QSB.CLAIMED : Fld := ⟨21, 11⟩
def Reg.CORE_MSG_QSB.OVER : Fld := ⟨22, 22⟩
def Reg.CORE_MSG_QSB.HPOS : Fld := ⟨41, 24⟩
def Reg.CORE_MSG_QSB.HLAP : Fld := ⟨42, 42⟩
def Reg.CORE_MSG_QSB.TPOS : Fld := ⟨60, 43⟩
def Reg.CORE_MSG_QSB.TLAP : Fld := ⟨61, 61⟩
/-- Table 8-14, R267. -/
def Reg.MESH_ISO_ERR (u : Nat) : Nat := clusterBase u + 0x3f800
def Reg.MESH_ISO_ERR.COUNT : Fld := ⟨31, 0⟩
def Reg.MESH_ISO_ERR.PART : Fld := ⟨35, 32⟩
def Reg.MESH_ISO_ERR.SRC : Fld := ⟨47, 36⟩
def Reg.MESH_ISO_ERR.KIND : Fld := ⟨51, 48⟩
/-- Table 8-14, R267. -/
def Reg.MESH_HUB_IN (u : Nat) : Nat := clusterBase u + 0x3f808
def Reg.MESH_HUB_IN.BYTES : Fld := ⟨63, 0⟩
/-- Table 8-14, R267. -/
def Reg.MESH_HUB_OUT (u : Nat) : Nat := clusterBase u + 0x3f810
def Reg.MESH_HUB_OUT.BYTES : Fld := ⟨63, 0⟩
/-- Table 8-14, R267. -/
def Reg.MESH_RED_COMB (u : Nat) : Nat := clusterBase u + 0x3f818
def Reg.MESH_RED_COMB.COMB : Fld := ⟨63, 0⟩
/-- Table 8-15, R268. -/
def Reg.MESH_BB_FWD (l : Nat) : Nat := deviceBase 0 + 0x0 + 0x10 * l
def Reg.MESH_BB_FWD.BYTES : Fld := ⟨63, 0⟩
/-- Table 8-15, R268. -/
def Reg.MESH_BB_REV (l : Nat) : Nat := deviceBase 0 + 0x8 + 0x10 * l
def Reg.MESH_BB_REV.BYTES : Fld := ⟨63, 0⟩
/-- Table 8-15, R268. -/
def Reg.MESH_IO_OUT (i : Nat) : Nat := deviceBase 0 + 0x200 + 0x10 * i
def Reg.MESH_IO_OUT.BYTES : Fld := ⟨63, 0⟩
/-- Table 8-15, R268. -/
def Reg.MESH_IO_IN (i : Nat) : Nat := deviceBase 0 + 0x208 + 0x10 * i
def Reg.MESH_IO_IN.BYTES : Fld := ⟨63, 0⟩
/-- Table 9-10, R298. -/
def Reg.SYN_VAL (u k i : Nat) : Nat := clusterBase u + 0x20000 + 0x200 * k + 0x10 * i
def Reg.SYN_VAL.VALUE : Fld := ⟨31, 0⟩
/-- Table 9-10, R298. -/
def Reg.SYN_CTL (u k i : Nat) : Nat := clusterBase u + 0x20008 + 0x200 * k + 0x10 * i
def Reg.SYN_CTL.MODE : Fld := ⟨0, 0⟩
def Reg.SYN_CTL.OVF : Fld := ⟨1, 1⟩
def Reg.SYN_CTL.UNF : Fld := ⟨2, 2⟩
def Reg.SYN_CTL.WAITERS : Fld := ⟨15, 4⟩
def Reg.SYN_CTL.LIMIT : Fld := ⟨63, 32⟩
/-- Table 9-10, R298. -/
def Reg.SYN_POOL (u : Nat) : Nat := clusterBase u + 0x28000
def Reg.SYN_POOL.USED : Fld := ⟨11, 0⟩
/-- Table 9-10, R298. -/
def Reg.SYN_OPS (u : Nat) : Nat := clusterBase u + 0x28008
def Reg.SYN_OPS.OPS : Fld := ⟨63, 0⟩
/-- Table 9-10, R298. -/
def Reg.SYN_ERR (u : Nat) : Nat := clusterBase u + 0x28010
def Reg.SYN_ERR.ERRS : Fld := ⟨63, 0⟩
/-- Table 9-11, R299. -/
def Reg.SYN_SVAL (n : Nat) : Nat := deviceBase 0 + 0x1000 + 0x10 * n
def Reg.SYN_SVAL.VALUE : Fld := ⟨31, 0⟩
/-- Table 9-11, R299. -/
def Reg.SYN_SCTL (n : Nat) : Nat := deviceBase 0 + 0x1008 + 0x10 * n
def Reg.SYN_SCTL.MODE : Fld := ⟨0, 0⟩
def Reg.SYN_SCTL.OVF : Fld := ⟨1, 1⟩
def Reg.SYN_SCTL.UNF : Fld := ⟨2, 2⟩
def Reg.SYN_SCTL.WAITERS : Fld := ⟨15, 4⟩
def Reg.SYN_SCTL.OWNER : Fld := ⟨19, 16⟩
def Reg.SYN_SCTL.LIMIT : Fld := ⟨63, 32⟩
/-- Table 9-11, R299. -/
def Reg.SYN_SHOME (g : Nat) : Nat := deviceBase 0 + 0x5000 + 0x8 * g
def Reg.SYN_SHOME.HUB : Fld := ⟨3, 0⟩
/-- Table 9-12, R301. -/
def Reg.DMA_CH_CFG (u n : Nat) : Nat := clusterBase u + 0x10000 + 0x20 * n
def Reg.DMA_CH_CFG.EN : Fld := ⟨0, 0⟩
def Reg.DMA_CH_CFG.PRIO : Fld := ⟨3, 1⟩
def Reg.DMA_CH_CFG.ESIG : Fld := ⟨4, 4⟩
def Reg.DMA_CH_CFG.ECNT : Fld := ⟨18, 5⟩
/-- Table 9-12, R301. -/
def Reg.DMA_CH_HEAD (u n : Nat) : Nat := clusterBase u + 0x10008 + 0x20 * n
def Reg.DMA_CH_HEAD.GO : Fld := ⟨0, 0⟩
def Reg.DMA_CH_HEAD.HEAD : Fld := ⟨25, 6⟩
/-- Table 9-12, R301. -/
def Reg.DMA_CH_STAT (u n : Nat) : Nat := clusterBase u + 0x10010 + 0x20 * n
def Reg.DMA_CH_STAT.STATE : Fld := ⟨1, 0⟩
def Reg.DMA_CH_STAT.PENDING_ON : Fld := ⟨2, 2⟩
def Reg.DMA_CH_STAT.BUSY : Fld := ⟨3, 3⟩
def Reg.DMA_CH_STAT.CUR : Fld := ⟨25, 6⟩
def Reg.DMA_CH_STAT.BADS : Fld := ⟨63, 32⟩
/-- Table 9-12, R301. -/
def Reg.DMA_BYTES (u : Nat) : Nat := clusterBase u + 0x10800
def Reg.DMA_BYTES.BYTES : Fld := ⟨63, 0⟩
/-- Table 9-12, R301. -/
def Reg.DMA_ERRS (u : Nat) : Nat := clusterBase u + 0x10808
def Reg.DMA_ERRS.ERRS : Fld := ⟨63, 0⟩
/-- Table 9-13, R302. -/
def Reg.CHK_CFG (u m : Nat) : Nat := clusterBase u + 0x60000 + 0x20 * m
def Reg.CHK_CFG.EN : Fld := ⟨0, 0⟩
def Reg.CHK_CFG.CHAN : Fld := ⟨6, 1⟩
def Reg.CHK_CFG.SIDE : Fld := ⟨7, 7⟩
def Reg.CHK_CFG.ALG : Fld := ⟨9, 8⟩
def Reg.CHK_CFG.ERR : Fld := ⟨10, 10⟩
def Reg.CHK_CFG.INIT : Fld := ⟨11, 11⟩
/-- Table 9-13, R302. -/
def Reg.CHK_STATE (u m : Nat) : Nat := clusterBase u + 0x60008 + 0x20 * m
def Reg.CHK_STATE.STATE : Fld := ⟨63, 0⟩
/-- Table 9-13, R302. -/
def Reg.CHK_RESULT (u m : Nat) : Nat := clusterBase u + 0x60010 + 0x20 * m
def Reg.CHK_RESULT.RESULT : Fld := ⟨63, 0⟩
/-- Table 10-4, R328. -/
def Reg.HBM_STAT (n : Nat) : Nat := deviceBase 1 + 0x0 + 0x100 * n
def Reg.HBM_STAT.LIVE : Fld := ⟨0, 0⟩
def Reg.HBM_STAT.FAILED : Fld := ⟨1, 1⟩
def Reg.HBM_STAT.TEMP : Fld := ⟨9, 2⟩
/-- Table 10-4, R328. -/
def Reg.HBM_ECC (n : Nat) : Nat := deviceBase 1 + 0x8 + 0x100 * n
def Reg.HBM_ECC.CORR : Fld := ⟨31, 0⟩
def Reg.HBM_ECC.UNCOR : Fld := ⟨47, 32⟩
def Reg.HBM_ECC.POISON_RD : Fld := ⟨63, 48⟩
/-- Table 10-4, R328. -/
def Reg.HBM_ERR_ADDR (n : Nat) : Nat := deviceBase 1 + 0x10 + 0x100 * n
def Reg.HBM_ERR_ADDR.OFFSET : Fld := ⟨35, 0⟩
def Reg.HBM_ERR_ADDR.PC : Fld := ⟨41, 36⟩
def Reg.HBM_ERR_ADDR.PATROL : Fld := ⟨42, 42⟩
/-- Table 10-4, R328. -/
def Reg.HBM_PATROL (n : Nat) : Nat := deviceBase 1 + 0x18 + 0x100 * n
def Reg.HBM_PATROL.HOURS : Fld := ⟨7, 0⟩
def Reg.HBM_PATROL.PASSES : Fld := ⟨63, 32⟩
/-- Table 10-4, R328. -/
def Reg.HBM_SCR_A (n : Nat) : Nat := deviceBase 1 + 0x20 + 0x100 * n
def Reg.HBM_SCR_A.FIRST : Fld := ⟨19, 0⟩
def Reg.HBM_SCR_A.COUNT : Fld := ⟨40, 20⟩
def Reg.HBM_SCR_A.GO : Fld := ⟨41, 41⟩
def Reg.HBM_SCR_A.BUSY : Fld := ⟨42, 42⟩
/-- Table 10-4, R328. -/
def Reg.HBM_SCR_B (n : Nat) : Nat := deviceBase 1 + 0x28 + 0x100 * n
def Reg.HBM_SCR_B.DONE : Fld := ⟨20, 0⟩
/-- Table 10-5, R329. -/
def Reg.DDR_STAT (n : Nat) : Nat := deviceBase 2 + 0x0 + 0x100 * n
def Reg.DDR_STAT.LIVE : Fld := ⟨0, 0⟩
def Reg.DDR_STAT.DIMMS : Fld := ⟨2, 1⟩
def Reg.DDR_STAT.SPEED : Fld := ⟨4, 3⟩
def Reg.DDR_STAT.CAP : Fld := ⟨9, 5⟩
/-- Table 10-5, R329. -/
def Reg.DDR_ECC (n : Nat) : Nat := deviceBase 2 + 0x8 + 0x100 * n
def Reg.DDR_ECC.CORR : Fld := ⟨31, 0⟩
def Reg.DDR_ECC.UNCOR : Fld := ⟨47, 32⟩
def Reg.DDR_ECC.POISON_RD : Fld := ⟨63, 48⟩
/-- Table 10-5, R329. -/
def Reg.DDR_ERR_ADDR (n : Nat) : Nat := deviceBase 2 + 0x10 + 0x100 * n
def Reg.DDR_ERR_ADDR.OFFSET : Fld := ⟨38, 0⟩
def Reg.DDR_ERR_ADDR.DIMM : Fld := ⟨39, 39⟩
def Reg.DDR_ERR_ADDR.SUB : Fld := ⟨40, 40⟩
def Reg.DDR_ERR_ADDR.PATROL : Fld := ⟨41, 41⟩
/-- Table 10-5, R329. -/
def Reg.DDR_PATROL (n : Nat) : Nat := deviceBase 2 + 0x18 + 0x100 * n
def Reg.DDR_PATROL.HOURS : Fld := ⟨7, 0⟩
def Reg.DDR_PATROL.PASSES : Fld := ⟨63, 32⟩
/-- Table 10-5, R329. -/
def Reg.DDR_SCR_A (n : Nat) : Nat := deviceBase 2 + 0x20 + 0x100 * n
def Reg.DDR_SCR_A.FIRST : Fld := ⟨22, 0⟩
def Reg.DDR_SCR_A.COUNT : Fld := ⟨46, 23⟩
def Reg.DDR_SCR_A.GO : Fld := ⟨47, 47⟩
def Reg.DDR_SCR_A.BUSY : Fld := ⟨48, 48⟩
def Reg.DDR_SCR_A.ERR : Fld := ⟨49, 49⟩
/-- Table 10-5, R329. -/
def Reg.DDR_SCR_B (n : Nat) : Nat := deviceBase 2 + 0x28 + 0x100 * n
def Reg.DDR_SCR_B.DONE : Fld := ⟨23, 0⟩
/-- Table 10-5, R329. -/
def Reg.DDR_MOVE (n : Nat) : Nat := deviceBase 2 + 0x30 + 0x100 * n
def Reg.DDR_MOVE.HPAGE : Fld := ⟨24, 0⟩
def Reg.DDR_MOVE.DPAGE : Fld := ⟨47, 25⟩
def Reg.DDR_MOVE.DIR : Fld := ⟨48, 48⟩
def Reg.DDR_MOVE.GO : Fld := ⟨49, 49⟩
def Reg.DDR_MOVE.BUSY : Fld := ⟨50, 50⟩
def Reg.DDR_MOVE.ERR : Fld := ⟨51, 51⟩
/-- Table 10-5, R329. -/
def Reg.DDR_TAG_CMD (n : Nat) : Nat := deviceBase 2 + 0x38 + 0x100 * n
def Reg.DDR_TAG_CMD.FIRST : Fld := ⟨22, 0⟩
def Reg.DDR_TAG_CMD.COUNT : Fld := ⟨46, 23⟩
def Reg.DDR_TAG_CMD.SLOT : Fld := ⟨52, 47⟩
def Reg.DDR_TAG_CMD.OP : Fld := ⟨53, 53⟩
def Reg.DDR_TAG_CMD.GO : Fld := ⟨54, 54⟩
def Reg.DDR_TAG_CMD.BUSY : Fld := ⟨55, 55⟩
def Reg.DDR_TAG_CMD.ERR : Fld := ⟨56, 56⟩
/-- Table 10-5, R329. -/
def Reg.DDR_TAG_BASE : Nat := deviceReg 2 0x2000
def Reg.DDR_TAG_BASE.EN : Fld := ⟨0, 0⟩
def Reg.DDR_TAG_BASE.BASE : Fld := ⟨51, 20⟩
/-- Table 10-5, R329. -/
def Reg.DDR_RK_CTL : Nat := deviceReg 2 0x2008
def Reg.DDR_RK_CTL.FROM : Fld := ⟨5, 0⟩
def Reg.DDR_RK_CTL.TO : Fld := ⟨11, 6⟩
def Reg.DDR_RK_CTL.GO : Fld := ⟨12, 12⟩
def Reg.DDR_RK_CTL.BUSY : Fld := ⟨13, 13⟩
def Reg.DDR_RK_CTL.ERR : Fld := ⟨14, 14⟩
def Reg.DDR_RK_CTL.RATE : Fld := ⟨31, 16⟩
def Reg.DDR_RK_CTL.DONE : Fld := ⟨63, 32⟩
/-- Table 10-5, R329. -/
def Reg.DDR_TAG_MIR : Nat := deviceReg 2 0x2010
def Reg.DDR_TAG_MIR.EN : Fld := ⟨0, 0⟩
def Reg.DDR_TAG_MIR.BASE : Fld := ⟨51, 20⟩
/-- Table 10-6, R330. -/
def Reg.KEY_CTL (s : Nat) : Nat := deviceBase 8 + 0x0 + 0x10 * s
def Reg.KEY_CTL.VALID : Fld := ⟨0, 0⟩
def Reg.KEY_CTL.RETIRE : Fld := ⟨1, 1⟩
def Reg.KEY_CTL.REFUSED : Fld := ⟨2, 2⟩
def Reg.KEY_CTL.PAGES : Fld := ⟨34, 8⟩
/-- Table 11-8, R375. -/
def Reg.TRL_DEVID : Nat := deviceBase 3 + 0x0
def Reg.TRL_DEVID.DEVID : Fld := ⟨15, 0⟩
def Reg.TRL_DEVID.VALID : Fld := ⟨16, 16⟩
/-- Table 11-8, R375. -/
def Reg.TRL_CTL : Nat := deviceBase 3 + 0x8
def Reg.TRL_CTL.HOPS : Fld := ⟨7, 0⟩
/-- Table 11-8, R375. -/
def Reg.TRL_CFG (p : Nat) : Nat := deviceBase 3 + 0x1000 + 0x100 * p
def Reg.TRL_CFG.EN : Fld := ⟨0, 0⟩
def Reg.TRL_CFG.MAXW : Fld := ⟨2, 1⟩
/-- Table 11-8, R375. -/
def Reg.TRL_STAT (p : Nat) : Nat := deviceBase 3 + 0x1008 + 0x100 * p
def Reg.TRL_STAT.STATE : Fld := ⟨1, 0⟩
def Reg.TRL_STAT.PENDING_ON : Fld := ⟨2, 2⟩
def Reg.TRL_STAT.LINK : Fld := ⟨4, 3⟩
def Reg.TRL_STAT.WIDTH : Fld := ⟨6, 5⟩
def Reg.TRL_STAT.LANES_OK : Fld := ⟨10, 7⟩
def Reg.TRL_STAT.PEER : Fld := ⟨26, 11⟩
def Reg.TRL_STAT.PEERV : Fld := ⟨27, 27⟩
/-- Table 11-8, R375. -/
def Reg.TRL_FLITS (p : Nat) : Nat := deviceBase 3 + 0x1010 + 0x100 * p
def Reg.TRL_FLITS.DATA : Fld := ⟨63, 0⟩
/-- Table 11-8, R375. -/
def Reg.TRL_ERR (p : Nat) : Nat := deviceBase 3 + 0x1018 + 0x100 * p
def Reg.TRL_ERR.CRCERR : Fld := ⟨31, 0⟩
def Reg.TRL_ERR.REPLAYS : Fld := ⟨47, 32⟩
def Reg.TRL_ERR.RETRAINS : Fld := ⟨63, 48⟩
/-- Table 11-8, R375. -/
def Reg.TRL_FEC (p : Nat) : Nat := deviceBase 3 + 0x1020 + 0x100 * p
def Reg.TRL_FEC.CORR : Fld := ⟨31, 0⟩
def Reg.TRL_FEC.UNCOR : Fld := ⟨63, 32⟩
/-- Table 11-8, R375. -/
def Reg.TRL_REFUSE (p : Nat) : Nat := deviceBase 3 + 0x1028 + 0x100 * p
def Reg.TRL_REFUSE.NAKS : Fld := ⟨31, 0⟩
def Reg.TRL_REFUSE.DROPS : Fld := ⟨63, 32⟩
/-- Table 11-8, R375. -/
def Reg.TRL_SPOILS (p : Nat) : Nat := deviceBase 3 + 0x1030 + 0x100 * p
def Reg.TRL_SPOILS.COUNT : Fld := ⟨8, 0⟩
def Reg.TRL_SPOILS.FULL : Fld := ⟨9, 9⟩
def Reg.TRL_SPOILS.REFUSED : Fld := ⟨63, 32⟩
/-- Table 11-8, R375. -/
def Reg.TRL_ROUTE (r : Nat) : Nat := deviceBase 3 + 0x10000 + 0x8 * r
def Reg.TRL_ROUTE.PORT : Fld := ⟨63, 0⟩
/-- Table 11-9, R375. -/
def Reg.TRL_WINA (w : Nat) : Nat := deviceBase 3 + 0x20000 + 0x20 * w
def Reg.TRL_WINA.OPEN : Fld := ⟨0, 0⟩
def Reg.TRL_WINA.KIND : Fld := ⟨1, 1⟩
def Reg.TRL_WINA.RD : Fld := ⟨2, 2⟩
def Reg.TRL_WINA.WR : Fld := ⟨3, 3⟩
def Reg.TRL_WINA.SIGOK : Fld := ⟨4, 4⟩
def Reg.TRL_WINA.TOKOK : Fld := ⟨5, 5⟩
def Reg.TRL_WINA.SPOIL : Fld := ⟨6, 6⟩
def Reg.TRL_WINA.PART : Fld := ⟨11, 8⟩
def Reg.TRL_WINA.EPOCH : Fld := ⟨23, 16⟩
/-- Table 11-9, R375. -/
def Reg.TRL_WINB (w : Nat) : Nat := deviceBase 3 + 0x20008 + 0x20 * w
def Reg.TRL_WINB.BASE : Fld := ⟨51, 0⟩
/-- Table 11-9, R375. -/
def Reg.TRL_WINC (w : Nat) : Nat := deviceBase 3 + 0x20010 + 0x20 * w
def Reg.TRL_WINC.SIZE : Fld := ⟨21, 0⟩
def Reg.TRL_WINC.SRCDEV : Fld := ⟨47, 32⟩
def Reg.TRL_WINC.SRCMASK : Fld := ⟨63, 48⟩
/-- Table 11-9, R375. -/
def Reg.TRL_WIND (w : Nat) : Nat := deviceBase 3 + 0x20018 + 0x20 * w
def Reg.TRL_WIND.REFUSED : Fld := ⟨31, 0⟩
/-- Table 11-9, R375. -/
def Reg.TRL_APTA (a : Nat) : Nat := deviceBase 3 + 0x30000 + 0x20 * a
def Reg.TRL_APTA.EN : Fld := ⟨0, 0⟩
def Reg.TRL_APTA.KIND : Fld := ⟨1, 1⟩
def Reg.TRL_APTA.ROLL : Fld := ⟨2, 2⟩
def Reg.TRL_APTA.GV : Fld := ⟨3, 3⟩
def Reg.TRL_APTA.PART : Fld := ⟨7, 4⟩
def Reg.TRL_APTA.BASE : Fld := ⟨43, 8⟩
/-- Table 11-9, R375. -/
def Reg.TRL_APTB (a : Nat) : Nat := deviceBase 3 + 0x30008 + 0x20 * a
def Reg.TRL_APTB.PAGES : Fld := ⟨21, 0⟩
def Reg.TRL_APTB.DDEV : Fld := ⟨47, 32⟩
def Reg.TRL_APTB.WIN : Fld := ⟨55, 48⟩
def Reg.TRL_APTB.EPOCH : Fld := ⟨63, 56⟩
/-- Table 11-9, R375. -/
def Reg.TRL_APTC (a : Nat) : Nat := deviceBase 3 + 0x30010 + 0x20 * a
def Reg.TRL_APTC.WOFF : Fld := ⟨21, 0⟩
def Reg.TRL_APTC.GWIN : Fld := ⟨39, 32⟩
def Reg.TRL_APTC.GEPOCH : Fld := ⟨47, 40⟩
/-- Table 11-9, R375. -/
def Reg.TRL_APTD (a : Nat) : Nat := deviceBase 3 + 0x30018 + 0x20 * a
def Reg.TRL_APTD.NAKS : Fld := ⟨31, 0⟩
/-- Table 11-10, R375. -/
def Reg.TRL_CHOA (e : Nat) : Nat := deviceBase 3 + 0x40000 + 0x10 * e
def Reg.TRL_CHOA.V : Fld := ⟨0, 0⟩
def Reg.TRL_CHOA.PART : Fld := ⟨4, 1⟩
def Reg.TRL_CHOA.CHID : Fld := ⟨20, 5⟩
def Reg.TRL_CHOA.DDEV : Fld := ⟨36, 21⟩
def Reg.TRL_CHOA.RCHID : Fld := ⟨52, 37⟩
/-- Table 11-10, R375. -/
def Reg.TRL_CHOB (e : Nat) : Nat := deviceBase 3 + 0x40008 + 0x10 * e
def Reg.TRL_CHOB.SEP : Fld := ⟨11, 0⟩
def Reg.TRL_CHOB.GROUP : Fld := ⟨16, 12⟩
def Reg.TRL_CHOB.GV : Fld := ⟨17, 17⟩
/-- Table 11-10, R375. -/
def Reg.TRL_CHIA (i : Nat) : Nat := deviceBase 3 + 0x50000 + 0x10 * i
def Reg.TRL_CHIA.V : Fld := ⟨0, 0⟩
def Reg.TRL_CHIA.PART : Fld := ⟨4, 1⟩
def Reg.TRL_CHIA.CHID : Fld := ⟨20, 5⟩
def Reg.TRL_CHIA.DST : Fld := ⟨32, 21⟩
def Reg.TRL_CHIA.GROUP : Fld := ⟨37, 33⟩
def Reg.TRL_CHIA.GV : Fld := ⟨38, 38⟩
def Reg.TRL_CHIA.SDEV : Fld := ⟨54, 39⟩
/-- Table 11-10, R375. -/
def Reg.TRL_CHIB (i : Nat) : Nat := deviceBase 3 + 0x50008 + 0x10 * i
def Reg.TRL_CHIB.DELIVERED : Fld := ⟨63, 0⟩
/-- Table 12-10, R407. -/
def Reg.HST_CFG : Nat := deviceBase 4 + 0x0
def Reg.HST_CFG.EN : Fld := ⟨0, 0⟩
def Reg.HST_CFG.MSREQ : Fld := ⟨1, 1⟩
def Reg.HST_CFG.V4 : Fld := ⟨2, 2⟩
def Reg.HST_CFG.V6 : Fld := ⟨3, 3⟩
def Reg.HST_CFG.VREQ : Fld := ⟨4, 4⟩
def Reg.HST_CFG.UDPPORT : Fld := ⟨31, 16⟩
/-- Table 12-10, R407. -/
def Reg.HST_STAT : Nat := deviceBase 4 + 0x8
def Reg.HST_STAT.STATE : Fld := ⟨1, 0⟩
def Reg.HST_STAT.PENDING_ON : Fld := ⟨2, 2⟩
def Reg.HST_STAT.LINK : Fld := ⟨4, 3⟩
def Reg.HST_STAT.MSON : Fld := ⟨5, 5⟩
def Reg.HST_STAT.PHY : Fld := ⟨7, 6⟩
/-- Table 12-10, R407. -/
def Reg.HST_MAC : Nat := deviceBase 4 + 0x10
def Reg.HST_MAC.MAC : Fld := ⟨47, 0⟩
/-- Table 12-10, R407. -/
def Reg.HST_VLAN : Nat := deviceBase 4 + 0x18
def Reg.HST_VLAN.VID : Fld := ⟨11, 0⟩
def Reg.HST_VLAN.PCP : Fld := ⟨14, 12⟩
/-- Table 12-10, R407. -/
def Reg.HST_IP4 : Nat := deviceBase 4 + 0x20
def Reg.HST_IP4.ADDR : Fld := ⟨31, 0⟩
/-- Table 12-10, R407. -/
def Reg.HST_IP6H : Nat := deviceBase 4 + 0x28
def Reg.HST_IP6H.ADDR : Fld := ⟨63, 0⟩
/-- Table 12-10, R407. -/
def Reg.HST_IP6L : Nat := deviceBase 4 + 0x30
def Reg.HST_IP6L.ADDR : Fld := ⟨63, 0⟩
/-- Table 12-10, R407. -/
def Reg.HST_SESS : Nat := deviceBase 4 + 0x38
def Reg.HST_SESS.OPEN : Fld := ⟨6, 0⟩
/-- Table 12-10, R407. -/
def Reg.HST_MSEC : Nat := deviceBase 4 + 0x40
def Reg.HST_MSEC.TXAN : Fld := ⟨1, 0⟩
def Reg.HST_MSEC.TXV : Fld := ⟨2, 2⟩
def Reg.HST_MSEC.RXV : Fld := ⟨11, 8⟩
/-- Table 12-10, R407. -/
def Reg.HST_TXPN : Nat := deviceBase 4 + 0x48
def Reg.HST_TXPN.PN : Fld := ⟨63, 0⟩
/-- Table 12-10, R407. -/
def Reg.HST_RXF : Nat := deviceReg 4 0x100
def Reg.HST_RXF.FRAMES : Fld := ⟨63, 0⟩
/-- Table 12-10, R407. -/
def Reg.HST_TXF : Nat := deviceReg 4 0x108
def Reg.HST_TXF.FRAMES : Fld := ⟨63, 0⟩
/-- Table 12-10, R407. -/
def Reg.HST_DROP0 : Nat := deviceReg 4 0x110
def Reg.HST_DROP0.MACSEC : Fld := ⟨31, 0⟩
def Reg.HST_DROP0.FRAME : Fld := ⟨63, 32⟩
/-- Table 12-10, R407. -/
def Reg.HST_DROP1 : Nat := deviceReg 4 0x118
def Reg.HST_DROP1.ADDR : Fld := ⟨31, 0⟩
def Reg.HST_DROP1.KILPER : Fld := ⟨63, 32⟩
/-- Table 12-10, R407. -/
def Reg.HST_KSTAT : Nat := deviceReg 4 0x120
def Reg.HST_KSTAT.RETX : Fld := ⟨31, 0⟩
def Reg.HST_KSTAT.LOST : Fld := ⟨63, 32⟩
/-- Table 13-9, R437. -/
def Reg.TIME_NOW : Nat := deviceBase 5 + 0x0
def Reg.TIME_NOW.NS : Fld := ⟨31, 0⟩
def Reg.TIME_NOW.SEC : Fld := ⟨63, 32⟩
/-- Table 13-9, R437. -/
def Reg.TIME_NOWX : Nat := deviceBase 5 + 0x8
def Reg.TIME_NOWX.SECHI : Fld := ⟨15, 0⟩
def Reg.TIME_NOWX.FRAC : Fld := ⟨31, 16⟩
/-- Table 13-9, R437. -/
def Reg.TIME_STAT : Nat := deviceBase 5 + 0x10
def Reg.TIME_STAT.LOCK : Fld := ⟨1, 0⟩
def Reg.TIME_STAT.SOURCE : Fld := ⟨3, 2⟩
def Reg.TIME_STAT.HOLD : Fld := ⟨4, 4⟩
def Reg.TIME_STAT.OFFSET : Fld := ⟨63, 32⟩
/-- Table 13-9, R437. -/
def Reg.TIME_CFG : Nat := deviceBase 5 + 0x18
def Reg.TIME_CFG.SRC : Fld := ⟨1, 0⟩
def Reg.TIME_CFG.DOMAIN : Fld := ⟨9, 2⟩
def Reg.TIME_CFG.PPSW : Fld := ⟨19, 10⟩
/-- Table 13-9, R437. -/
def Reg.TIME_SETSEC : Nat := deviceBase 5 + 0x20
def Reg.TIME_SETSEC.SEC : Fld := ⟨47, 0⟩
/-- Table 13-9, R437. -/
def Reg.TIME_GM : Nat := deviceBase 5 + 0x28
def Reg.TIME_GM.GMID : Fld := ⟨63, 0⟩
/-- Table 13-9, R437. -/
def Reg.TIME_EVT : Nat := deviceBase 5 + 0x30
def Reg.TIME_EVT.STEPS : Fld := ⟨31, 0⟩
def Reg.TIME_EVT.LOSSES : Fld := ⟨63, 32⟩
/-- Table 13-9, R437. -/
def Reg.TIME_WPA (p : Nat) : Nat := deviceBase 5 + 0x100 + 0x20 * p
def Reg.TIME_WPA.EN : Fld := ⟨0, 0⟩
def Reg.TIME_WPA.STATE : Fld := ⟨2, 1⟩
def Reg.TIME_WPA.DEFER : Fld := ⟨3, 3⟩
def Reg.TIME_WPA.MIR : Fld := ⟨4, 4⟩
def Reg.TIME_WPA.INTERVAL : Fld := ⟨31, 16⟩
def Reg.TIME_WPA.ABANDONED : Fld := ⟨63, 32⟩
/-- Table 13-9, R437. -/
def Reg.TIME_WPB (p : Nat) : Nat := deviceBase 5 + 0x108 + 0x20 * p
def Reg.TIME_WPB.LAST : Fld := ⟨63, 0⟩
/-- Table 13-9, R437. -/
def Reg.TIME_WPC (p : Nat) : Nat := deviceBase 5 + 0x110 + 0x20 * p
def Reg.TIME_WPC.TIME : Fld := ⟨63, 0⟩
/-- Table 13-9, R437. -/
def Reg.TIME_WPD (p : Nat) : Nat := deviceBase 5 + 0x118 + 0x20 * p
def Reg.TIME_WPD.RESTORES : Fld := ⟨31, 0⟩
def Reg.TIME_WPD.PAUSE : Fld := ⟨47, 32⟩
/-- Table 13-9, R437. -/
def Reg.TIME_ALA (n : Nat) : Nat := deviceBase 5 + 0x1000 + 0x10 * n
def Reg.TIME_ALA.EN : Fld := ⟨0, 0⟩
def Reg.TIME_ALA.ACT : Fld := ⟨1, 1⟩
def Reg.TIME_ALA.N : Fld := ⟨15, 2⟩
def Reg.TIME_ALA.AMT : Fld := ⟨47, 16⟩
/-- Table 13-9, R437. -/
def Reg.TIME_ALB (n : Nat) : Nat := deviceBase 5 + 0x1008 + 0x10 * n
def Reg.TIME_ALB.TIME : Fld := ⟨63, 0⟩
/-- Table 14-12, R465. -/
def Reg.CHT_LC : Nat := deviceBase 6 + 0x0
def Reg.CHT_LC.STATE : Fld := ⟨1, 0⟩
def Reg.CHT_LC.SVNFUSE : Fld := ⟨8, 2⟩
def Reg.CHT_LC.KEYREV : Fld := ⟨12, 9⟩
def Reg.CHT_LC.OPROOT : Fld := ⟨13, 13⟩
/-- Table 14-12, R465. -/
def Reg.CHT_BOOT : Nat := deviceBase 6 + 0x8
def Reg.CHT_BOOT.STAGE : Fld := ⟨2, 0⟩
def Reg.CHT_BOOT.SLOT : Fld := ⟨3, 3⟩
def Reg.CHT_BOOT.SVNRUN : Fld := ⟨10, 4⟩
def Reg.CHT_BOOT.STAGED : Fld := ⟨11, 11⟩
def Reg.CHT_BOOT.UNCOMMITTED : Fld := ⟨12, 12⟩
def Reg.CHT_BOOT.DBG : Fld := ⟨13, 13⟩
/-- Table 14-12, R465. -/
def Reg.CHT_FWVER : Nat := deviceBase 6 + 0x10
def Reg.CHT_FWVER.VERSION : Fld := ⟨63, 0⟩
/-- Table 14-12, R465. -/
def Reg.CHT_MBOX : Nat := deviceBase 6 + 0x18
def Reg.CHT_MBOX.RECV : Fld := ⟨31, 0⟩
def Reg.CHT_MBOX.DISC : Fld := ⟨63, 32⟩
/-- Table 14-12, R465. -/
def Reg.CHT_SPDM : Nat := deviceBase 6 + 0x20
def Reg.CHT_SPDM.SESSIONS : Fld := ⟨4, 0⟩
/-- Table 14-12, R465. -/
def Reg.CHT_TRACE (n : Nat) : Nat := deviceBase 6 + 0x100 + 0x10 * n
def Reg.CHT_TRACE.EN : Fld := ⟨0, 0⟩
def Reg.CHT_TRACE.WPOS : Fld := ⟨63, 32⟩
/-- Table 14-12, R465. -/
def Reg.CHT_TRLOST (n : Nat) : Nat := deviceBase 6 + 0x108 + 0x10 * n
def Reg.CHT_TRLOST.LOST : Fld := ⟨63, 0⟩
/-- Table 15-11, R488. -/
def Reg.PWR_CLK : Nat := deviceBase 7 + 0x0
def Reg.PWR_CLK.LEVEL : Fld := ⟨11, 0⟩
def Reg.PWR_CLK.THERM : Fld := ⟨17, 12⟩
def Reg.PWR_CLK.CAPPED : Fld := ⟨18, 18⟩
def Reg.PWR_CLK.THROTTLE : Fld := ⟨19, 19⟩
/-- Table 15-11, R488. -/
def Reg.PWR_CAP : Nat := deviceBase 7 + 0x8
def Reg.PWR_CAP.WATTS : Fld := ⟨11, 0⟩
/-- Table 15-11, R488. -/
def Reg.PWR_POWER : Nat := deviceBase 7 + 0x10
def Reg.PWR_POWER.WATTS : Fld := ⟨15, 0⟩
def Reg.PWR_POWER.VCORE_MV : Fld := ⟨31, 16⟩
def Reg.PWR_POWER.VCORE_A : Fld := ⟨47, 32⟩
def Reg.PWR_POWER.VSRAM_MV : Fld := ⟨63, 48⟩
/-- Table 15-11, R488. -/
def Reg.PWR_HOT : Nat := deviceBase 7 + 0x18
def Reg.PWR_HOT.HOTJ : Fld := ⟨7, 0⟩
def Reg.PWR_HOT.HOTSEN : Fld := ⟨13, 8⟩
def Reg.PWR_HOT.HOTHBM : Fld := ⟨23, 16⟩
def Reg.PWR_HOT.HOTSTK : Fld := ⟨28, 24⟩
/-- Table 15-11, R488. -/
def Reg.PWR_FAULT : Nat := deviceBase 7 + 0x20
def Reg.PWR_FAULT.CAUSE : Fld := ⟨7, 0⟩
def Reg.PWR_FAULT.ALERT : Fld := ⟨8, 8⟩
def Reg.PWR_FAULT.TRIP : Fld := ⟨9, 9⟩
def Reg.PWR_FAULT.SEEN : Fld := ⟨20, 16⟩
/-- Table 15-11, R488. -/
def Reg.PWR_THR : Nat := deviceBase 7 + 0x28
def Reg.PWR_THR.STEPS : Fld := ⟨31, 0⟩
def Reg.PWR_THR.MS : Fld := ⟨63, 32⟩
/-- Table 15-11, R488. -/
def Reg.PWR_TEMP (n : Nat) : Nat := deviceBase 7 + 0x100 + 0x8 * n
def Reg.PWR_TEMP.TEMP : Fld := ⟨7, 0⟩
def Reg.PWR_TEMP.VALID : Fld := ⟨8, 8⟩

end Sys2Proof.Machine
end

