-- ==== Sys2Proof/Machine/RegTable.lean ====
section
/-! DEFINITION. The register tables of the spec as data: access type and reset value of every field (R6, R7), and what a register
reads as after reset. Fields that the spec resets to "trained" or "fused" read 0 here until bring-up or the fuses set them
(log entry 13). -/

namespace Sys2Proof.Machine

/-- Access types (Table 0-3; the tables of the spec use no RC field). -/
inductive Acc where
  | ro | rw | w1c | wo
deriving DecidableEq, Repr

/-- A field with its access type and reset value. -/
structure RegField where
  hi : Nat
  lo : Nat
  acc : Acc
  reset : Nat
deriving DecidableEq, Repr

/-- One index of a register array: step, first index, count. -/
structure Stride where
  step : Nat
  first : Nat
  count : Nat
deriving DecidableEq, Repr

/-- A row of a register table: offset in its block, indices, fields. -/
structure RegRow where
  base : Nat
  strides : List Stride
  fields : List RegField
deriving DecidableEq, Repr

/-- The kinds of block of Table 1-5. -/
inductive Blk where
  | core | cluster | device (b : Nat)
deriving DecidableEq, Repr

/-- Whether an offset from a row's base is one of the row's indices; outer index first, its step the larger. -/
def strideHit : List Stride → Nat → Bool
  | [], o => o == 0
  | s :: ss, o => decide (s.first ≤ o / s.step) && decide (o / s.step < s.first + s.count) && strideHit ss (o % s.step)

def RegRow.hits (r : RegRow) (o : Nat) : Bool := decide (r.base ≤ o) && strideHit r.strides (o - r.base)

def regsDevice9a : List RegRow := [
  -- ID_PART
  ⟨0x0, [], [⟨63, 48, .ro, 0x5956⟩, ⟨47, 24, .ro, 0x584d31⟩, ⟨23, 8, .ro, 0x4131⟩]⟩,
  -- ID_SERIAL
  ⟨0x8, [], [⟨63, 0, .ro, 0x0⟩]⟩,
  -- ID_CAPS
  ⟨0x10, [], [⟨7, 0, .ro, 0xc⟩, ⟨15, 8, .ro, 0x28⟩, ⟨23, 16, .ro, 0x18⟩, ⟨31, 24, .ro, 0xc⟩, ⟨39, 32, .ro, 0x12⟩, ⟨47, 40, .ro, 0xc⟩, ⟨55, 48, .ro, 0x4⟩]⟩,
  -- ID_MEM_LIVE
  ⟨0x18, [], [⟨23, 0, .ro, 0x0⟩, ⟨35, 24, .ro, 0x0⟩]⟩,
  -- ID_CLU_ASSIGN
  ⟨0x20, [], [⟨47, 0, .ro, 0xffffffffffff⟩]⟩,
  -- ID_CLU_STATE
  ⟨0x28, [], [⟨59, 0, .ro, 0x0⟩]⟩,
  -- ID_CORE_LIVE
  ⟨0x40, [⟨0x8, 0, 8⟩], [⟨63, 0, .ro, 0x0⟩]⟩]

def regsDevice9 : List RegRow := regsDevice9a

def regsCorea : List RegRow := [
  -- CORE_MX_STATUS
  ⟨0x800, [], [⟨7, 0, .ro, 0x0⟩, ⟨8, 8, .ro, 0x0⟩, ⟨12, 9, .ro, 0x0⟩]⟩,
  -- CORE_MX_SHAPE
  ⟨0x808, [⟨0x8, 0, 4⟩], [⟨7, 0, .ro, 0x0⟩, ⟨11, 8, .ro, 0x0⟩]⟩,
  -- CORE_MX_STEPS
  ⟨0x828, [], [⟨63, 0, .ro, 0x0⟩]⟩,
  -- CORE_MX_STALL
  ⟨0x830, [], [⟨31, 0, .ro, 0x0⟩, ⟨63, 32, .ro, 0x0⟩]⟩,
  -- CORE_VFP_CTL
  ⟨0x900, [⟨0x8, 0, 4⟩], [⟨0, 0, .rw, 0x0⟩, ⟨1, 1, .rw, 0x0⟩, ⟨2, 2, .rw, 0x0⟩, ⟨5, 4, .ro, 0x0⟩]⟩,
  -- CORE_VFP_FLAGS
  ⟨0x920, [⟨0x8, 0, 4⟩], [⟨0, 0, .w1c, 0x0⟩, ⟨1, 1, .w1c, 0x0⟩, ⟨2, 2, .w1c, 0x0⟩, ⟨3, 3, .w1c, 0x0⟩, ⟨4, 4, .w1c, 0x0⟩, ⟨5, 5, .w1c, 0x0⟩]⟩,
  -- CORE_EPI_CTL
  ⟨0x940, [⟨0x8, 0, 4⟩], [⟨0, 0, .rw, 0x0⟩, ⟨1, 1, .rw, 0x0⟩, ⟨6, 2, .rw, 0x0⟩, ⟨7, 7, .rw, 0x0⟩, ⟨8, 8, .rw, 0x0⟩, ⟨13, 9, .rw, 0x0⟩, ⟨14, 14, .rw, 0x0⟩, ⟨17, 15, .rw, 0x0⟩]⟩,
  -- CORE_RNG_SEED
  ⟨0x960, [], [⟨63, 0, .rw, 0x0⟩]⟩,
  -- CORE_RNG_CTR
  ⟨0x968, [], [⟨63, 0, .rw, 0x0⟩]⟩,
  -- CORE_ACT_VALID
  ⟨0x970, [], [⟨7, 0, .ro, 0x3f⟩]⟩,
  -- CORE_VEC_INSNS
  ⟨0x978, [], [⟨63, 0, .ro, 0x0⟩]⟩,
  -- CORE_EPI_ROWS
  ⟨0x980, [], [⟨63, 0, .ro, 0x0⟩]⟩]

def regsCoreb : List RegRow := [
  -- CORE_ID
  ⟨0x0, [], [⟨5, 0, .ro, 0x0⟩, ⟨11, 8, .ro, 0x0⟩, ⟨24, 16, .ro, 0x0⟩]⟩,
  -- CORE_CYCLE
  ⟨0x8, [], [⟨63, 0, .ro, 0x0⟩]⟩,
  -- CORE_STRAND
  ⟨0x10, [⟨0x8, 0, 4⟩], [⟨2, 0, .ro, 0x0⟩, ⟨6, 3, .ro, 0x0⟩, ⟨8, 7, .ro, 0x0⟩, ⟨63, 16, .ro, 0x0⟩]⟩,
  -- CORE_ISSUE
  ⟨0x30, [⟨0x8, 0, 4⟩], [⟨63, 0, .ro, 0x0⟩]⟩,
  -- CORE_WAIT
  ⟨0x50, [⟨0x8, 0, 4⟩], [⟨31, 0, .ro, 0x0⟩, ⟨63, 32, .ro, 0x0⟩]⟩,
  -- CORE_XIRQ
  ⟨0x200, [⟨0x8, 0, 4⟩], [⟨0, 0, .wo, 0x0⟩]⟩,
  -- CORE_RSTOP
  ⟨0x220, [⟨0x8, 0, 4⟩], [⟨1, 0, .ro, 0x0⟩, ⟨6, 2, .ro, 0x0⟩, ⟨11, 7, .ro, 0x0⟩, ⟨63, 16, .ro, 0x0⟩]⟩,
  -- CORE_RESUME
  ⟨0x240, [⟨0x8, 0, 4⟩], [⟨0, 0, .wo, 0x0⟩, ⟨1, 1, .wo, 0x0⟩, ⟨63, 16, .wo, 0x0⟩]⟩,
  -- CORE_XCOUNT
  ⟨0x260, [⟨0x8, 0, 4⟩], [⟨31, 0, .ro, 0x0⟩, ⟨63, 32, .ro, 0x0⟩]⟩,
  -- CORE_LS_EN
  ⟨0x400, [], [⟨15, 0, .rw, 0xffff⟩, ⟨31, 16, .rw, 0xffff⟩, ⟨39, 32, .rw, 0xff⟩]⟩,
  -- CORE_LS_STATE0
  ⟨0x408, [], [⟨31, 0, .ro, 0xaaaaaaaa⟩, ⟨63, 32, .ro, 0xaaaaaaaa⟩]⟩,
  -- CORE_LS_STATE1
  ⟨0x410, [], [⟨15, 0, .ro, 0xaaaa⟩]⟩]

def regsCorec : List RegRow := [
  -- CORE_LS_PEND
  ⟨0x418, [], [⟨39, 0, .ro, 0x0⟩]⟩,
  -- CORE_L1_CTL
  ⟨0x420, [], [⟨0, 0, .wo, 0x0⟩, ⟨1, 1, .wo, 0x0⟩, ⟨5, 2, .rw, 0x4⟩]⟩,
  -- CORE_L1_HITS
  ⟨0x428, [], [⟨63, 0, .ro, 0x0⟩]⟩,
  -- CORE_L1_MISSES
  ⟨0x430, [], [⟨63, 0, .ro, 0x0⟩]⟩,
  -- CORE_L1_PFUSE
  ⟨0x438, [], [⟨63, 0, .ro, 0x0⟩]⟩,
  -- CORE_IC_MISSES
  ⟨0x440, [], [⟨31, 0, .ro, 0x0⟩, ⟨63, 32, .ro, 0x0⟩]⟩,
  -- CORE_LS_RETRY
  ⟨0x448, [], [⟨31, 0, .ro, 0x0⟩, ⟨63, 32, .ro, 0x0⟩]⟩,
  -- CORE_ECC
  ⟨0x450, [], [⟨31, 0, .ro, 0x0⟩, ⟨47, 32, .ro, 0x0⟩, ⟨50, 48, .ro, 0x0⟩]⟩,
  -- CORE_ECC_ADDR
  ⟨0x458, [], [⟨23, 0, .ro, 0x0⟩]⟩,
  -- CORE_MSG_CTL
  ⟨0x1000, [], [⟨31, 0, .rw, 0x100000⟩]⟩,
  -- CORE_MSG_SENT
  ⟨0x1008, [], [⟨63, 0, .ro, 0x0⟩]⟩,
  -- CORE_MSG_RECV
  ⟨0x1010, [], [⟨63, 0, .ro, 0x0⟩]⟩]

def regsCored : List RegRow := [
  -- CORE_MSG_ERR
  ⟨0x1018, [], [⟨31, 0, .ro, 0x0⟩, ⟨47, 32, .ro, 0x0⟩, ⟨63, 48, .ro, 0x0⟩]⟩,
  -- CORE_MSG_STALL
  ⟨0x1020, [], [⟨31, 0, .ro, 0x0⟩, ⟨63, 32, .ro, 0x0⟩]⟩,
  -- CORE_MSG_SSA
  ⟨0x1100, [⟨0x10, 0, 64⟩], [⟨31, 0, .ro, 0x0⟩, ⟨63, 32, .ro, 0x0⟩]⟩,
  -- CORE_MSG_SSB
  ⟨0x1108, [⟨0x10, 0, 64⟩], [⟨31, 0, .ro, 0x0⟩, ⟨49, 32, .ro, 0x0⟩, ⟨50, 50, .ro, 0x0⟩, ⟨51, 51, .ro, 0x0⟩, ⟨52, 52, .w1c, 0x0⟩]⟩,
  -- CORE_MSG_QSA
  ⟨0x1500, [⟨0x10, 0, 32⟩], [⟨31, 0, .ro, 0x0⟩, ⟨63, 32, .ro, 0x0⟩]⟩,
  -- CORE_MSG_QSB
  ⟨0x1508, [⟨0x10, 0, 32⟩], [⟨10, 0, .ro, 0x0⟩, ⟨21, 11, .ro, 0x0⟩, ⟨22, 22, .w1c, 0x0⟩, ⟨41, 24, .ro, 0x0⟩, ⟨42, 42, .ro, 0x0⟩, ⟨60, 43, .ro, 0x0⟩, ⟨61, 61, .ro, 0x0⟩]⟩]

def regsCore : List RegRow := regsCorea ++ regsCoreb ++ regsCorec ++ regsCored

def regsClustera : List RegRow := [
  -- CLU_UC_DEC
  ⟨0x50000, [⟨0x8, 0, 16⟩], [⟨0, 0, .rw, 0x0⟩, ⟨1, 1, .rw, 0x0⟩, ⟨9, 2, .rw, 0x0⟩, ⟨14, 10, .rw, 0x0⟩, ⟨15, 15, .ro, 0x0⟩]⟩,
  -- CLU_UC_BUSY
  ⟨0x50080, [], [⟨31, 0, .ro, 0x0⟩]⟩,
  -- CLU_UC_FAULTS
  ⟨0x50088, [], [⟨31, 0, .ro, 0x0⟩]⟩,
  -- CLU_UC_OPA
  ⟨0x51000, [⟨0x10, 0, 256⟩], [⟨31, 0, .rw, 0x0⟩, ⟨63, 32, .rw, 0x0⟩]⟩,
  -- CLU_UC_OPB
  ⟨0x51008, [⟨0x10, 0, 256⟩], [⟨31, 0, .rw, 0x0⟩]⟩,
  -- CLU_CLM_EN
  ⟨0x40000, [], [⟨47, 0, .rw, 0xffffffffffff⟩]⟩,
  -- CLU_CLM_STATE0
  ⟨0x40008, [], [⟨63, 0, .ro, 0xaaaaaaaaaaaaaaaa⟩]⟩,
  -- CLU_CLM_STATE1
  ⟨0x40010, [], [⟨31, 0, .ro, 0xaaaaaaaa⟩]⟩,
  -- CLU_CLM_PEND
  ⟨0x40018, [], [⟨47, 0, .ro, 0x0⟩]⟩,
  -- CLU_CLM_ECC
  ⟨0x40020, [], [⟨31, 0, .ro, 0x0⟩, ⟨47, 32, .ro, 0x0⟩]⟩,
  -- CLU_CLM_ECC_ADDR
  ⟨0x40028, [], [⟨25, 0, .ro, 0x0⟩]⟩,
  -- CLU_CLM_PICKS
  ⟨0x40030, [], [⟨63, 0, .ro, 0x0⟩]⟩]

def regsClusterb : List RegRow := [
  -- MMU_ROOT
  ⟨0x0, [], [⟨0, 0, .ro, 0x0⟩, ⟨51, 12, .ro, 0x0⟩]⟩,
  -- MMU_INV
  ⟨0x8, [], [⟨0, 0, .wo, 0x0⟩, ⟨2, 1, .wo, 0x0⟩, ⟨47, 16, .wo, 0x0⟩, ⟨48, 48, .ro, 0x0⟩]⟩,
  -- MMU_FQ_STAT
  ⟨0x10, [], [⟨6, 0, .ro, 0x0⟩, ⟨7, 7, .ro, 0x0⟩]⟩,
  -- MMU_FQ_HEAD
  ⟨0x18, [], [⟨0, 0, .ro, 0x0⟩, ⟨1, 1, .ro, 0x0⟩, ⟨7, 2, .ro, 0x0⟩, ⟨47, 16, .ro, 0x0⟩]⟩,
  -- MMU_FQ_ACK
  ⟨0x20, [], [⟨0, 0, .wo, 0x0⟩, ⟨1, 1, .wo, 0x0⟩]⟩,
  -- MMU_WALKS
  ⟨0x28, [], [⟨63, 0, .ro, 0x0⟩]⟩,
  -- MMU_STLB_MISS
  ⟨0x30, [], [⟨63, 0, .ro, 0x0⟩]⟩,
  -- CLU_RT_SEND
  ⟨0x30000, [⟨0x500, 0, 40⟩, ⟨0x8, 0, 64⟩], [⟨0, 0, .ro, 0x0⟩, ⟨2, 1, .ro, 0x0⟩, ⟨3, 3, .ro, 0x0⟩, ⟨19, 4, .ro, 0x0⟩, ⟨31, 20, .ro, 0x0⟩, ⟨36, 32, .ro, 0x0⟩, ⟨40, 37, .ro, 0x0⟩, ⟨51, 41, .ro, 0x0⟩, ⟨54, 52, .ro, 0x0⟩]⟩,
  -- CLU_RT_QA
  ⟨0x30200, [⟨0x500, 0, 40⟩, ⟨0x10, 0, 32⟩], [⟨0, 0, .ro, 0x0⟩, ⟨1, 1, .ro, 0x0⟩, ⟨2, 2, .ro, 0x0⟩, ⟨18, 3, .ro, 0x0⟩, ⟨28, 19, .ro, 0x0⟩, ⟨39, 29, .ro, 0x0⟩, ⟨51, 40, .ro, 0x0⟩, ⟨56, 52, .ro, 0x0⟩, ⟨60, 57, .ro, 0x0⟩, ⟨61, 61, .ro, 0x0⟩]⟩,
  -- CLU_RT_QB
  ⟨0x30208, [⟨0x500, 0, 40⟩, ⟨0x10, 0, 32⟩], [⟨44, 0, .ro, 0x0⟩, ⟨62, 45, .ro, 0x0⟩, ⟨15, 0, .ro, 0x0⟩]⟩,
  -- CLU_RT_HS
  ⟨0x30400, [⟨0x500, 0, 40⟩, ⟨0x8, 1, 7⟩], [⟨0, 0, .ro, 0x0⟩, ⟨45, 1, .ro, 0x0⟩, ⟨63, 46, .ro, 0x0⟩]⟩,
  -- CLU_RT_GRP
  ⟨0x3c800, [⟨0x100, 0, 40⟩, ⟨0x8, 0, 32⟩], [⟨0, 0, .ro, 0x0⟩, ⟨5, 1, .ro, 0x0⟩, ⟨8, 6, .ro, 0x0⟩]⟩]

def regsClusterc : List RegRow := [
  -- CLU_RT_HGRP
  ⟨0x3f000, [⟨0x8, 0, 32⟩], [⟨0, 0, .ro, 0x0⟩, ⟨8, 1, .ro, 0x0⟩, ⟨13, 9, .ro, 0x0⟩, ⟨17, 14, .ro, 0x0⟩]⟩,
  -- MESH_ISO_ERR
  ⟨0x3f800, [], [⟨31, 0, .ro, 0x0⟩, ⟨35, 32, .ro, 0x0⟩, ⟨47, 36, .ro, 0x0⟩, ⟨51, 48, .ro, 0x0⟩]⟩,
  -- MESH_HUB_IN
  ⟨0x3f808, [], [⟨63, 0, .ro, 0x0⟩]⟩,
  -- MESH_HUB_OUT
  ⟨0x3f810, [], [⟨63, 0, .ro, 0x0⟩]⟩,
  -- MESH_RED_COMB
  ⟨0x3f818, [], [⟨63, 0, .ro, 0x0⟩]⟩,
  -- SYN_VAL
  ⟨0x20000, [⟨0x200, 0, 40⟩, ⟨0x10, 0, 32⟩], [⟨31, 0, .rw, 0x0⟩]⟩,
  -- SYN_CTL
  ⟨0x20008, [⟨0x200, 0, 40⟩, ⟨0x10, 0, 32⟩], [⟨0, 0, .rw, 0x0⟩, ⟨1, 1, .w1c, 0x0⟩, ⟨2, 2, .w1c, 0x0⟩, ⟨15, 4, .ro, 0x0⟩, ⟨63, 32, .rw, 0xffffffff⟩]⟩,
  -- SYN_POOL
  ⟨0x28000, [], [⟨11, 0, .ro, 0x0⟩]⟩,
  -- SYN_OPS
  ⟨0x28008, [], [⟨63, 0, .ro, 0x0⟩]⟩,
  -- SYN_ERR
  ⟨0x28010, [], [⟨63, 0, .ro, 0x0⟩]⟩,
  -- DMA_CH_CFG
  ⟨0x10000, [⟨0x20, 0, 64⟩], [⟨0, 0, .rw, 0x0⟩, ⟨3, 1, .rw, 0x0⟩, ⟨4, 4, .rw, 0x0⟩, ⟨18, 5, .rw, 0x0⟩]⟩,
  -- DMA_CH_HEAD
  ⟨0x10008, [⟨0x20, 0, 64⟩], [⟨0, 0, .wo, 0x0⟩, ⟨25, 6, .rw, 0x0⟩]⟩]

def regsClusterd : List RegRow := [
  -- DMA_CH_STAT
  ⟨0x10010, [⟨0x20, 0, 64⟩], [⟨1, 0, .ro, 0x0⟩, ⟨2, 2, .ro, 0x0⟩, ⟨3, 3, .ro, 0x0⟩, ⟨25, 6, .ro, 0x0⟩, ⟨63, 32, .ro, 0x0⟩]⟩,
  -- DMA_BYTES
  ⟨0x10800, [], [⟨63, 0, .ro, 0x0⟩]⟩,
  -- DMA_ERRS
  ⟨0x10808, [], [⟨63, 0, .ro, 0x0⟩]⟩,
  -- CHK_CFG
  ⟨0x60000, [⟨0x20, 0, 4⟩], [⟨0, 0, .rw, 0x0⟩, ⟨6, 1, .rw, 0x0⟩, ⟨7, 7, .rw, 0x0⟩, ⟨9, 8, .rw, 0x0⟩, ⟨10, 10, .w1c, 0x0⟩, ⟨11, 11, .wo, 0x0⟩]⟩,
  -- CHK_STATE
  ⟨0x60008, [⟨0x20, 0, 4⟩], [⟨63, 0, .rw, 0x0⟩]⟩,
  -- CHK_RESULT
  ⟨0x60010, [⟨0x20, 0, 4⟩], [⟨63, 0, .ro, 0xffffffff⟩]⟩]

def regsCluster : List RegRow := regsClustera ++ regsClusterb ++ regsClusterc ++ regsClusterd

def regsDevice0a : List RegRow := [
  -- MESH_BB_FWD
  ⟨0x0, [⟨0x10, 0, 17⟩], [⟨63, 0, .ro, 0x0⟩]⟩,
  -- MESH_BB_REV
  ⟨0x8, [⟨0x10, 0, 17⟩], [⟨63, 0, .ro, 0x0⟩]⟩,
  -- MESH_IO_OUT
  ⟨0x200, [⟨0x10, 0, 8⟩], [⟨63, 0, .ro, 0x0⟩]⟩,
  -- MESH_IO_IN
  ⟨0x208, [⟨0x10, 0, 8⟩], [⟨63, 0, .ro, 0x0⟩]⟩,
  -- SYN_SVAL
  ⟨0x1000, [⟨0x10, 0, 1024⟩], [⟨31, 0, .rw, 0x0⟩]⟩,
  -- SYN_SCTL
  ⟨0x1008, [⟨0x10, 0, 1024⟩], [⟨0, 0, .rw, 0x0⟩, ⟨1, 1, .w1c, 0x0⟩, ⟨2, 2, .w1c, 0x0⟩, ⟨15, 4, .ro, 0x0⟩, ⟨19, 16, .rw, 0xf⟩, ⟨63, 32, .rw, 0xffffffff⟩]⟩,
  -- SYN_SHOME
  ⟨0x5000, [⟨0x8, 0, 12⟩], [⟨3, 0, .rw, 0x0⟩]⟩]

def regsDevice0 : List RegRow := regsDevice0a

def regsDevice1a : List RegRow := [
  -- HBM_STAT
  ⟨0x0, [⟨0x100, 0, 24⟩], [⟨0, 0, .ro, 0x0⟩, ⟨1, 1, .ro, 0x0⟩, ⟨9, 2, .ro, 0x0⟩]⟩,
  -- HBM_ECC
  ⟨0x8, [⟨0x100, 0, 24⟩], [⟨31, 0, .ro, 0x0⟩, ⟨47, 32, .ro, 0x0⟩, ⟨63, 48, .ro, 0x0⟩]⟩,
  -- HBM_ERR_ADDR
  ⟨0x10, [⟨0x100, 0, 24⟩], [⟨35, 0, .ro, 0x0⟩, ⟨41, 36, .ro, 0x0⟩, ⟨42, 42, .ro, 0x0⟩]⟩,
  -- HBM_PATROL
  ⟨0x18, [⟨0x100, 0, 24⟩], [⟨7, 0, .rw, 0x18⟩, ⟨63, 32, .ro, 0x0⟩]⟩,
  -- HBM_SCR_A
  ⟨0x20, [⟨0x100, 0, 24⟩], [⟨19, 0, .rw, 0x0⟩, ⟨40, 20, .rw, 0x0⟩, ⟨41, 41, .wo, 0x0⟩, ⟨42, 42, .ro, 0x0⟩]⟩,
  -- HBM_SCR_B
  ⟨0x28, [⟨0x100, 0, 24⟩], [⟨20, 0, .ro, 0x0⟩]⟩]

def regsDevice1 : List RegRow := regsDevice1a

def regsDevice2a : List RegRow := [
  -- DDR_STAT
  ⟨0x0, [⟨0x100, 0, 12⟩], [⟨0, 0, .ro, 0x0⟩, ⟨2, 1, .ro, 0x0⟩, ⟨4, 3, .ro, 0x0⟩, ⟨9, 5, .ro, 0x0⟩]⟩,
  -- DDR_ECC
  ⟨0x8, [⟨0x100, 0, 12⟩], [⟨31, 0, .ro, 0x0⟩, ⟨47, 32, .ro, 0x0⟩, ⟨63, 48, .ro, 0x0⟩]⟩,
  -- DDR_ERR_ADDR
  ⟨0x10, [⟨0x100, 0, 12⟩], [⟨38, 0, .ro, 0x0⟩, ⟨39, 39, .ro, 0x0⟩, ⟨40, 40, .ro, 0x0⟩, ⟨41, 41, .ro, 0x0⟩]⟩,
  -- DDR_PATROL
  ⟨0x18, [⟨0x100, 0, 12⟩], [⟨7, 0, .rw, 0x18⟩, ⟨63, 32, .ro, 0x0⟩]⟩,
  -- DDR_SCR_A
  ⟨0x20, [⟨0x100, 0, 12⟩], [⟨22, 0, .rw, 0x0⟩, ⟨46, 23, .rw, 0x0⟩, ⟨47, 47, .wo, 0x0⟩, ⟨48, 48, .ro, 0x0⟩, ⟨49, 49, .w1c, 0x0⟩]⟩,
  -- DDR_SCR_B
  ⟨0x28, [⟨0x100, 0, 12⟩], [⟨23, 0, .ro, 0x0⟩]⟩,
  -- DDR_MOVE
  ⟨0x30, [⟨0x100, 0, 12⟩], [⟨24, 0, .rw, 0x0⟩, ⟨47, 25, .rw, 0x0⟩, ⟨48, 48, .rw, 0x0⟩, ⟨49, 49, .wo, 0x0⟩, ⟨50, 50, .ro, 0x0⟩, ⟨51, 51, .w1c, 0x0⟩]⟩,
  -- DDR_TAG_CMD
  ⟨0x38, [⟨0x100, 0, 12⟩], [⟨22, 0, .rw, 0x0⟩, ⟨46, 23, .rw, 0x0⟩, ⟨52, 47, .rw, 0x0⟩, ⟨53, 53, .rw, 0x0⟩, ⟨54, 54, .wo, 0x0⟩, ⟨55, 55, .ro, 0x0⟩, ⟨56, 56, .w1c, 0x0⟩]⟩,
  -- DDR_TAG_BASE
  ⟨0x2000, [], [⟨0, 0, .rw, 0x0⟩, ⟨51, 20, .rw, 0x0⟩]⟩,
  -- DDR_RK_CTL
  ⟨0x2008, [], [⟨5, 0, .rw, 0x0⟩, ⟨11, 6, .rw, 0x0⟩, ⟨12, 12, .wo, 0x0⟩, ⟨13, 13, .ro, 0x0⟩, ⟨14, 14, .w1c, 0x0⟩, ⟨31, 16, .rw, 0x0⟩, ⟨63, 32, .ro, 0x0⟩]⟩,
  -- DDR_TAG_MIR
  ⟨0x2010, [], [⟨0, 0, .rw, 0x0⟩, ⟨51, 20, .rw, 0x0⟩]⟩]

def regsDevice2 : List RegRow := regsDevice2a

def regsDevice8a : List RegRow := [
  -- KEY_CTL
  ⟨0x0, [⟨0x10, 0, 64⟩], [⟨0, 0, .ro, 0x0⟩, ⟨1, 1, .wo, 0x0⟩, ⟨2, 2, .w1c, 0x0⟩, ⟨34, 8, .ro, 0x0⟩]⟩]

def regsDevice8 : List RegRow := regsDevice8a

def regsDevice3a : List RegRow := [
  -- TRL_DEVID
  ⟨0x0, [], [⟨15, 0, .ro, 0x0⟩, ⟨16, 16, .ro, 0x0⟩]⟩,
  -- TRL_CTL
  ⟨0x8, [], [⟨7, 0, .ro, 0x8⟩]⟩,
  -- TRL_CFG
  ⟨0x1000, [⟨0x100, 0, 18⟩], [⟨0, 0, .ro, 0x0⟩, ⟨2, 1, .ro, 0x0⟩]⟩,
  -- TRL_STAT
  ⟨0x1008, [⟨0x100, 0, 18⟩], [⟨1, 0, .ro, 0x0⟩, ⟨2, 2, .ro, 0x0⟩, ⟨4, 3, .ro, 0x0⟩, ⟨6, 5, .ro, 0x3⟩, ⟨10, 7, .ro, 0x0⟩, ⟨26, 11, .ro, 0x0⟩, ⟨27, 27, .ro, 0x0⟩]⟩,
  -- TRL_FLITS
  ⟨0x1010, [⟨0x100, 0, 18⟩], [⟨63, 0, .ro, 0x0⟩]⟩,
  -- TRL_ERR
  ⟨0x1018, [⟨0x100, 0, 18⟩], [⟨31, 0, .ro, 0x0⟩, ⟨47, 32, .ro, 0x0⟩, ⟨63, 48, .ro, 0x0⟩]⟩,
  -- TRL_FEC
  ⟨0x1020, [⟨0x100, 0, 18⟩], [⟨31, 0, .ro, 0x0⟩, ⟨63, 32, .ro, 0x0⟩]⟩,
  -- TRL_REFUSE
  ⟨0x1028, [⟨0x100, 0, 18⟩], [⟨31, 0, .ro, 0x0⟩, ⟨63, 32, .ro, 0x0⟩]⟩,
  -- TRL_SPOILS
  ⟨0x1030, [⟨0x100, 0, 18⟩], [⟨8, 0, .ro, 0x0⟩, ⟨9, 9, .ro, 0x0⟩, ⟨63, 32, .ro, 0x0⟩]⟩,
  -- TRL_ROUTE
  ⟨0x10000, [⟨0x8, 0, 8192⟩], [⟨63, 0, .ro, 0xffffffffffffffff⟩]⟩,
  -- TRL_WINA
  ⟨0x20000, [⟨0x20, 0, 256⟩], [⟨0, 0, .ro, 0x0⟩, ⟨1, 1, .ro, 0x0⟩, ⟨2, 2, .ro, 0x0⟩, ⟨3, 3, .ro, 0x0⟩, ⟨4, 4, .ro, 0x0⟩, ⟨5, 5, .ro, 0x0⟩, ⟨6, 6, .ro, 0x0⟩, ⟨11, 8, .ro, 0xf⟩, ⟨23, 16, .ro, 0x0⟩]⟩,
  -- TRL_WINB
  ⟨0x20008, [⟨0x20, 0, 256⟩], [⟨51, 0, .ro, 0x0⟩]⟩]

def regsDevice3b : List RegRow := [
  -- TRL_WINC
  ⟨0x20010, [⟨0x20, 0, 256⟩], [⟨21, 0, .ro, 0x0⟩, ⟨47, 32, .ro, 0x0⟩, ⟨63, 48, .ro, 0x0⟩]⟩,
  -- TRL_WIND
  ⟨0x20018, [⟨0x20, 0, 256⟩], [⟨31, 0, .ro, 0x0⟩]⟩,
  -- TRL_APTA
  ⟨0x30000, [⟨0x20, 0, 64⟩], [⟨0, 0, .ro, 0x0⟩, ⟨1, 1, .ro, 0x0⟩, ⟨2, 2, .ro, 0x0⟩, ⟨3, 3, .ro, 0x0⟩, ⟨7, 4, .ro, 0xf⟩, ⟨43, 8, .ro, 0x0⟩]⟩,
  -- TRL_APTB
  ⟨0x30008, [⟨0x20, 0, 64⟩], [⟨21, 0, .ro, 0x0⟩, ⟨47, 32, .ro, 0x0⟩, ⟨55, 48, .ro, 0x0⟩, ⟨63, 56, .ro, 0x0⟩]⟩,
  -- TRL_APTC
  ⟨0x30010, [⟨0x20, 0, 64⟩], [⟨21, 0, .ro, 0x0⟩, ⟨39, 32, .ro, 0x0⟩, ⟨47, 40, .ro, 0x0⟩]⟩,
  -- TRL_APTD
  ⟨0x30018, [⟨0x20, 0, 64⟩], [⟨31, 0, .ro, 0x0⟩]⟩,
  -- TRL_CHOA
  ⟨0x40000, [⟨0x10, 0, 256⟩], [⟨0, 0, .ro, 0x0⟩, ⟨4, 1, .ro, 0xf⟩, ⟨20, 5, .ro, 0x0⟩, ⟨36, 21, .ro, 0x0⟩, ⟨52, 37, .ro, 0x0⟩]⟩,
  -- TRL_CHOB
  ⟨0x40008, [⟨0x10, 0, 256⟩], [⟨11, 0, .ro, 0x0⟩, ⟨16, 12, .ro, 0x0⟩, ⟨17, 17, .ro, 0x0⟩]⟩,
  -- TRL_CHIA
  ⟨0x50000, [⟨0x10, 0, 256⟩], [⟨0, 0, .ro, 0x0⟩, ⟨4, 1, .ro, 0xf⟩, ⟨20, 5, .ro, 0x0⟩, ⟨32, 21, .ro, 0x0⟩, ⟨37, 33, .ro, 0x0⟩, ⟨38, 38, .ro, 0x0⟩, ⟨54, 39, .ro, 0x0⟩]⟩,
  -- TRL_CHIB
  ⟨0x50008, [⟨0x10, 0, 256⟩], [⟨63, 0, .ro, 0x0⟩]⟩]

def regsDevice3 : List RegRow := regsDevice3a ++ regsDevice3b

def regsDevice4a : List RegRow := [
  -- HST_CFG
  ⟨0x0, [], [⟨0, 0, .ro, 0x0⟩, ⟨1, 1, .ro, 0x0⟩, ⟨2, 2, .ro, 0x0⟩, ⟨3, 3, .ro, 0x1⟩, ⟨4, 4, .ro, 0x0⟩, ⟨31, 16, .ro, 0xb84c⟩]⟩,
  -- HST_STAT
  ⟨0x8, [], [⟨1, 0, .ro, 0x0⟩, ⟨2, 2, .ro, 0x0⟩, ⟨4, 3, .ro, 0x0⟩, ⟨5, 5, .ro, 0x0⟩, ⟨7, 6, .ro, 0x0⟩]⟩,
  -- HST_MAC
  ⟨0x10, [], [⟨47, 0, .ro, 0x0⟩]⟩,
  -- HST_VLAN
  ⟨0x18, [], [⟨11, 0, .ro, 0x0⟩, ⟨14, 12, .ro, 0x0⟩]⟩,
  -- HST_IP4
  ⟨0x20, [], [⟨31, 0, .ro, 0x0⟩]⟩,
  -- HST_IP6H
  ⟨0x28, [], [⟨63, 0, .ro, 0x0⟩]⟩,
  -- HST_IP6L
  ⟨0x30, [], [⟨63, 0, .ro, 0x0⟩]⟩,
  -- HST_SESS
  ⟨0x38, [], [⟨6, 0, .ro, 0x0⟩]⟩,
  -- HST_MSEC
  ⟨0x40, [], [⟨1, 0, .ro, 0x0⟩, ⟨2, 2, .ro, 0x0⟩, ⟨11, 8, .ro, 0x0⟩]⟩,
  -- HST_TXPN
  ⟨0x48, [], [⟨63, 0, .ro, 0x1⟩]⟩,
  -- HST_RXF
  ⟨0x100, [], [⟨63, 0, .ro, 0x0⟩]⟩,
  -- HST_TXF
  ⟨0x108, [], [⟨63, 0, .ro, 0x0⟩]⟩]

def regsDevice4b : List RegRow := [
  -- HST_DROP0
  ⟨0x110, [], [⟨31, 0, .ro, 0x0⟩, ⟨63, 32, .ro, 0x0⟩]⟩,
  -- HST_DROP1
  ⟨0x118, [], [⟨31, 0, .ro, 0x0⟩, ⟨63, 32, .ro, 0x0⟩]⟩,
  -- HST_KSTAT
  ⟨0x120, [], [⟨31, 0, .ro, 0x0⟩, ⟨63, 32, .ro, 0x0⟩]⟩]

def regsDevice4 : List RegRow := regsDevice4a ++ regsDevice4b

def regsDevice5a : List RegRow := [
  -- TIME_NOW
  ⟨0x0, [], [⟨31, 0, .ro, 0x0⟩, ⟨63, 32, .ro, 0x0⟩]⟩,
  -- TIME_NOWX
  ⟨0x8, [], [⟨15, 0, .ro, 0x0⟩, ⟨31, 16, .ro, 0x0⟩]⟩,
  -- TIME_STAT
  ⟨0x10, [], [⟨1, 0, .ro, 0x0⟩, ⟨3, 2, .ro, 0x0⟩, ⟨4, 4, .ro, 0x0⟩, ⟨63, 32, .ro, 0x0⟩]⟩,
  -- TIME_CFG
  ⟨0x18, [], [⟨1, 0, .rw, 0x0⟩, ⟨9, 2, .rw, 0x0⟩, ⟨19, 10, .rw, 0x64⟩]⟩,
  -- TIME_SETSEC
  ⟨0x20, [], [⟨47, 0, .wo, 0x0⟩]⟩,
  -- TIME_GM
  ⟨0x28, [], [⟨63, 0, .ro, 0x0⟩]⟩,
  -- TIME_EVT
  ⟨0x30, [], [⟨31, 0, .ro, 0x0⟩, ⟨63, 32, .ro, 0x0⟩]⟩,
  -- TIME_WPA
  ⟨0x100, [⟨0x20, 0, 12⟩], [⟨0, 0, .ro, 0x0⟩, ⟨2, 1, .ro, 0x0⟩, ⟨3, 3, .ro, 0x0⟩, ⟨4, 4, .ro, 0x0⟩, ⟨31, 16, .ro, 0x3e8⟩, ⟨63, 32, .ro, 0x0⟩]⟩,
  -- TIME_WPB
  ⟨0x108, [⟨0x20, 0, 12⟩], [⟨63, 0, .ro, 0x0⟩]⟩,
  -- TIME_WPC
  ⟨0x110, [⟨0x20, 0, 12⟩], [⟨63, 0, .ro, 0x0⟩]⟩,
  -- TIME_WPD
  ⟨0x118, [⟨0x20, 0, 12⟩], [⟨31, 0, .ro, 0x0⟩, ⟨47, 32, .ro, 0x0⟩]⟩,
  -- TIME_ALA
  ⟨0x1000, [⟨0x10, 0, 64⟩], [⟨0, 0, .ro, 0x0⟩, ⟨1, 1, .ro, 0x0⟩, ⟨15, 2, .ro, 0x0⟩, ⟨47, 16, .ro, 0x0⟩]⟩]

def regsDevice5b : List RegRow := [
  -- TIME_ALB
  ⟨0x1008, [⟨0x10, 0, 64⟩], [⟨63, 0, .ro, 0x0⟩]⟩]

def regsDevice5 : List RegRow := regsDevice5a ++ regsDevice5b

def regsDevice6a : List RegRow := [
  -- CHT_LC
  ⟨0x0, [], [⟨1, 0, .ro, 0x0⟩, ⟨8, 2, .ro, 0x0⟩, ⟨12, 9, .ro, 0x0⟩, ⟨13, 13, .ro, 0x0⟩]⟩,
  -- CHT_BOOT
  ⟨0x8, [], [⟨2, 0, .ro, 0x1⟩, ⟨3, 3, .ro, 0x0⟩, ⟨10, 4, .ro, 0x0⟩, ⟨11, 11, .ro, 0x0⟩, ⟨12, 12, .ro, 0x0⟩, ⟨13, 13, .ro, 0x0⟩]⟩,
  -- CHT_FWVER
  ⟨0x10, [], [⟨63, 0, .ro, 0x0⟩]⟩,
  -- CHT_MBOX
  ⟨0x18, [], [⟨31, 0, .ro, 0x0⟩, ⟨63, 32, .ro, 0x0⟩]⟩,
  -- CHT_SPDM
  ⟨0x20, [], [⟨4, 0, .ro, 0x0⟩]⟩,
  -- CHT_TRACE
  ⟨0x100, [⟨0x10, 0, 8⟩], [⟨0, 0, .ro, 0x0⟩, ⟨63, 32, .ro, 0x0⟩]⟩,
  -- CHT_TRLOST
  ⟨0x108, [⟨0x10, 0, 8⟩], [⟨63, 0, .ro, 0x0⟩]⟩]

def regsDevice6 : List RegRow := regsDevice6a

def regsDevice7a : List RegRow := [
  -- PWR_CLK
  ⟨0x0, [], [⟨11, 0, .ro, 0x0⟩, ⟨17, 12, .ro, 0x0⟩, ⟨18, 18, .ro, 0x0⟩, ⟨19, 19, .ro, 0x0⟩]⟩,
  -- PWR_CAP
  ⟨0x8, [], [⟨11, 0, .rw, 0x834⟩]⟩,
  -- PWR_POWER
  ⟨0x10, [], [⟨15, 0, .ro, 0x0⟩, ⟨31, 16, .ro, 0x0⟩, ⟨47, 32, .ro, 0x0⟩, ⟨63, 48, .ro, 0x0⟩]⟩,
  -- PWR_HOT
  ⟨0x18, [], [⟨7, 0, .ro, 0x0⟩, ⟨13, 8, .ro, 0x0⟩, ⟨23, 16, .ro, 0x0⟩, ⟨28, 24, .ro, 0x0⟩]⟩,
  -- PWR_FAULT
  ⟨0x20, [], [⟨7, 0, .ro, 0x0⟩, ⟨8, 8, .ro, 0x0⟩, ⟨9, 9, .ro, 0x0⟩, ⟨20, 16, .ro, 0x0⟩]⟩,
  -- PWR_THR
  ⟨0x28, [], [⟨31, 0, .ro, 0x0⟩, ⟨63, 32, .ro, 0x0⟩]⟩,
  -- PWR_TEMP
  ⟨0x100, [⟨0x8, 0, 56⟩], [⟨7, 0, .ro, 0x0⟩, ⟨8, 8, .ro, 0x0⟩]⟩]

def regsDevice7 : List RegRow := regsDevice7a

/-- The rows of a block. -/
def regRows : Blk → List RegRow
  | .core => regsCore
  | .cluster => regsCluster
  | .device 9 => regsDevice9
  | .device 0 => regsDevice0
  | .device 1 => regsDevice1
  | .device 2 => regsDevice2
  | .device 8 => regsDevice8
  | .device 3 => regsDevice3
  | .device 4 => regsDevice4
  | .device 5 => regsDevice5
  | .device 6 => regsDevice6
  | .device 7 => regsDevice7
  | .device _ => []
/-- The block that holds an offset of register space, the offset within it and the number of its unit (R28, Table 1-5). -/
def blkOf (a : Nat) : Option (Blk × Nat × Nat) :=
  if a < 0xC000000 then
    let c := a / 0x1000000
    let r := a % 0x1000000
    if r < 0x280000 then some (.core, r % 0x10000, 40 * c + r / 0x10000)
    else if r ≥ 0x800000 then some (.cluster, r - 0x800000, c)
    else none
  else if a < 0x10000000 then none
  else if a < 0x10A00000 then some (.device ((a - 0x10000000) / 0x100000), a % 0x100000, 0)
  else if 0x100000000 ≤ a ∧ a < 0x100040000 then some (.core, a % 0x10000, 480 + (a - 0x100000000) / 0x10000)
  else none

/-- The row of the register tables that lists an offset of register space; none for offsets that no table lists (R7). -/
def regRowAt (a : Nat) : Option RegRow :=
  match blkOf a with
  | none => none
  | some (b, o, _) => (regRows b).find? (fun r => r.hits o)

/-- The fields' reset values put together. -/
def RegRow.resetValue (r : RegRow) : W64 :=
  r.fields.foldl (fun v f => setFld v f.hi f.lo f.reset) 0#64

/-- What a register holds after reset (R6): the tables' values, with the numbers that differ by unit (Table 5-15 CORE_ID,
Table 9-11 SYN_SHOME) and the fused serial number (R2). -/
def regReset (a : Nat) : W64 :=
  match blkOf a with
  | none => 0#64
  | some (b, o, n) =>
    if b = .core ∧ o = 0 then
      (if n < 480 then BitVec.ofNat 64 (n % 40 + n / 40 * 2 ^ 8 + n * 2 ^ 16) else BitVec.ofNat 64 (n * 2 ^ 16))
    else if b = .device 9 ∧ o = 8 then Config.serial
    else if b = .device 0 ∧ 0x5000 ≤ o ∧ o < 0x5060 ∧ o % 8 = 0 then BitVec.ofNat 64 ((o - 0x5000) / 8)
    else match (regRows b).find? (fun r => r.hits o) with
      | none => 0#64
      | some r => r.resetValue

/-- A write by an agent under the access types of the row's fields (R6, R7): RW fields are set, a 1 clears a W1C bit, RO and WO
fields keep what they hold. -/
def RegRow.write (r : RegRow) (old v : W64) : W64 :=
  r.fields.foldl (fun x f => match f.acc with
    | .rw => setFld x f.hi f.lo (fld v f.hi f.lo)
    | .w1c => setFld x f.hi f.lo (fld old f.hi f.lo &&& (2 ^ (f.hi + 1 - f.lo) - 1 - fld v f.hi f.lo))
    | .ro => x
    | .wo => x) old

end Sys2Proof.Machine
end

