-- ==== Sys2Proof/Machine/CoreState.lean ====
section
/-! DEFINITION. What a strand and a core hold (Table 5-3, Table 6-4, R66, R125, R200 to R219, R232). -/

namespace Sys2Proof.Machine

/-- The scalar flags (R140). -/
structure Flags where
  z : Bool := false
  n : Bool := false
  c : Bool := false
  v : Bool := false
deriving DecidableEq, Repr

/-- A hardware loop (R153); inactive when count is 0. -/
structure LoopReg where
  first : W48 := 0
  last : W48 := 0
  count : W32 := 0
deriving DecidableEq, Repr

/-- A result not yet written (R143). v writes the bits of x that the mask names. fp carries sticky flags, whether a trap is raised
(R114) and the unit (TSRC). epi is EPICTL (R119). -/
inductive Eff where
  | g (r : BitVec 5) (x : W32)
  | v (r : BitVec 5) (x mask : VReg)
  | fp (flags : FpFlags) (trap : Bool) (unit : BitVec 2)
  | epi (x : BitVec 18)
deriving DecidableEq, Repr

/-- A result with the cycle at whose end it is written (R143). -/
structure Pend where
  due : Nat
  eff : Eff
deriving DecidableEq, Repr

/-- A mode write still in its shadow (R189): MASK, PRECISE and RM of STATUS, or CONF, TE_NV and TE_OF (R111). -/
inductive ModeWrite where
  | status (mask precise : Bool) (rm : BitVec 3)
  | fp (ctl : BitVec 3)
deriving DecidableEq, Repr

/-- A mode write and how many following instructions still use the old mode. -/
structure Shadow where
  left : Nat
  write : ModeWrite
deriving DecidableEq, Repr

/-- Where a counted load writes (R148, Table 5-14). -/
inductive LoadDst where
  | g (r : BitVec 5) (sgn : Bool)
  | a (r : BitVec 3)
  | v (r : BitVec 5)
  | frag (strand : Nat) (f : BitVec 3) (row off : Nat)
deriving DecidableEq, Repr

/-- Where the data of a part stands: in a line being fetched (the fetch's tag and how many merged stores came before it, R214),
waiting for one of the 16 line fetches (R213), asked for outside the cache, a DPICK not yet sent, in a register (R29), or here.
`age` orders a part among the core's stores and fetches, as their tags do (R146, R215). -/
inductive PartState where
  | fetching (tag : Nat) (after : Nat)
  | wantFetch (line : Nat) (age : Nat)
  | asked (tag : Nat)
  | wantPick (age : Nat)
  | register (addr : Nat)
  | ready (data : Nat)
  | written
deriving DecidableEq, Repr

/-- One memory access of a counted instruction: bytes and destination. -/
structure Part where
  pa : Nat
  size : Nat
  dst : LoadDst
  key : Option Nat
  st : PartState
deriving DecidableEq, Repr

/-- A counted instruction outstanding (R147): whether it is still issuing rows, and its parts. -/
structure Load where
  issuing : Bool := false
  parts : List Part := []
deriving DecidableEq, Repr

/-- A TLOAD or TSTORE whose rows are being issued (R84): its operands as read in the first slot. -/
structure TileRun where
  store : Bool
  o : OpTile
  base : W48
  stride : W32
  inDelay : Bool
deriving DecidableEq, Repr

/-- A CUSTOM sequence in flight (R193): entry, epoch, first micro-op, index of the next one, length and operands. -/
structure MicroRun where
  sel : Nat
  epoch : Bool
  start : Nat
  next : Nat
  len : Nat
  o : OpCustom
deriving DecidableEq, Repr

/-- A branch whose delay slot comes next (R151, R152): its address, its target when taken (otherwise the instruction after the
delay slot follows), the link register that still names that instruction, and the registers that the delay slot must not
write. -/
structure Delay where
  branch : W48
  next : Option W48
  link : Option (BitVec 5)
  guards : List (BitVec 5)
deriving DecidableEq, Repr

/-- A counter: a core's own (by global core number) or a shared one (Table 9-1). -/
inductive CounterId where
  | core (k i : Nat)
  | shared (n : Nat)
deriving DecidableEq, Repr

/-- Why a strand is Waiting (Table 5-1, R150, R147, R88, R161, R214, R219, R234). -/
inductive WaitWhy where
  | loads (n : Nat)
  | matrix (n : Nat)
  | loadLimit
  | matrixLimit
  | translation
  | fetch
  | storeQueue
  | answer
  | fence
  | send
  | serial
deriving DecidableEq, Repr

/-- Why a strand is Sleeping (Table 5-1, R276, R252). -/
inductive SleepWhy where
  | counter (c : CounterId)
  | queue (q : Nat)
deriving DecidableEq, Repr

/-- Where the slots that a waiting strand loses are counted (Table 5-15, Table 7-3, Table 8-13). -/
inductive Lost where
  | loads | matrix | icache | storeQueue | send
deriving DecidableEq, Repr

/-- A send that waits (R251, R259): SENDV, SENDF or SENDF.G, its register and channel, its first word, and the first slot in which it
was tried. -/
structure SendRun where
  fn : Nat
  r : BitVec 5
  ch : Nat
  word : Nat
  first : Nat
deriving DecidableEq, Repr

/-- The strand states of Table 5-1. -/
inductive Run where
  | off
  | running
  | waiting (w : WaitWhy)
  | sleeping (w : SleepWhy)
  | restStop
deriving DecidableEq, Repr

/-- The counter operations (Table 9-3, Table 9-5). -/
inductive CtrOp where
  | add | set | take | watch | read
deriving DecidableEq, Repr

/-- A counter operation that a strand has issued and that is not yet answered (R274, R280, R281): the operation, its counter and
operand, the tag of its packet once it has left, and what is done when it is answered. -/
structure SyncOp where
  op : CtrOp
  ctr : CounterId
  x : W32
  rd : BitVec 5
  inv : Bool
  tag : Option Nat
  fence : List Nat
  cancel : Option Nat
deriving DecidableEq, Repr

/-- A strand (Table 5-3, Table 6-4). -/
structure Strand where
  run : Run := .off
  pc : W48 := 0
  delay : Option Delay := none
  g : Vector W32 32 := Vector.replicate 32 0
  flags : Flags := {}
  a : Vector W48 8 := Vector.replicate 8 0
  abase : Vector W32 8 := Vector.replicate 8 0
  actl : Vector W32 8 := Vector.replicate 8 0
  hint : Vector W32 8 := Vector.replicate 8 0
  lastLine : Vector (Option Nat) 8 := Vector.replicate 8 none
  l0 : LoopReg := {}
  l1 : LoopReg := {}
  v : Vector VReg 32 := Vector.replicate 32 0
  f : Vector FReg 8 := Vector.replicate 8 0
  loads : List Load := []
  matrix : Nat := 0
  status : W32 := 0x3#32
  fpctl : BitVec 6 := 0
  fpflags : FpFlags := 0
  epictl : BitVec 18 := 0
  tstart : BitVec 6 := 0
  xpc : W48 := 0
  xstatus : W32 := 0
  xcause : W32 := 0
  xtval : W48 := 0
  xvec : W48 := 0
  rucksack : W32 := 0
  xscratch : W32 := 0
  xtstart : BitVec 6 := 0
  xl0 : LoopReg := {}
  xl1 : LoopReg := {}
  ienable : W32 := 0
  mbox : Bool := false
  fpt : Bool := false
  timecmp : W64 := BitVec.allOnes 64
  sxen : W32 := 0
  cycleHi : W32 := 0
  pend : List Pend := []
  shadow : List Shadow := []
  nextSlot : Nat := 0
  waitFrom : Option (Nat × Lost) := none
  ptrap : Option W48 := none
  exiting : Bool := false
  haltReq : Bool := false
  tile : Option TileRun := none
  micro : Option MicroRun := none
  send : Option SendRun := none
  syncOp : Option SyncOp := none
  invDrop : Bool := false
deriving DecidableEq, Repr

/-- A line held by a cache: its address in lines and its 128 bytes. -/
structure Line where
  line : Nat
  data : VReg
deriving DecidableEq, Repr

/-- A set of a cache: its ways and the bits of the tree pseudo-LRU order (R211, R219). -/
structure CSet where
  ways : List (Option Line)
  plru : Nat
deriving DecidableEq, Repr

/-- A store merged into a line when it arrives (R214): offset in the line and bytes. -/
structure Merge where
  off : Nat
  bytes : List Byte
deriving DecidableEq, Repr

/-- A line fetch (R213, R216): whether it is for the cache or only for the side buffer, whether it has left for memory (R215),
whether its line is still to be kept (R162), the KEY of its leaf (R317), the tag of its request, the merges, and the data once it
has arrived. An error response (R27) leaves `failed`. -/
structure Fetch where
  line : Nat
  demand : Bool
  sent : Bool
  keep : Bool
  key : Option Nat
  tag : Nat
  merges : List Merge
  data : Option VReg
  failed : Bool
deriving DecidableEq, Repr

/-- Where an entry of the store queue goes: memory at a physical address with its leaf's KEY, a register (R29), or a counter, for
SADD.P (R281). -/
inductive StoreTo where
  | mem (pa : Nat) (key : Option Nat)
  | reg (addr : Nat)
  | sig (c : CounterId) (x : W32)
deriving DecidableEq, Repr

/-- A store in the store queue (R214), or sent and not yet accepted (R215, R281). -/
structure StoreEnt where
  strand : Nat
  dst : StoreTo
  bytes : List Byte
  tag : Nat
deriving DecidableEq, Repr

/-- What a translated access does (Table 7-7): fetch, read, write, DPICK, CINV, or the row of a TLOAD or TSTORE. -/
inductive Access where
  | fetch | load | store | pick | inv | rowLoad | rowStore
deriving DecidableEq, Repr

/-- A TLB entry: virtual page (VA over the page size), log2 of the page size, the leaf, and where the leaf lies in memory. -/
structure TlbEnt where
  page : Nat
  size : Nat
  leaf : W64
  at_ : Nat
deriving DecidableEq, Repr

/-- What an MMA reads of one strand at issue (R78): the bank, its PS slot, the AS offset of A and the register of A's scales. -/
structure MmaBank where
  bank : Nat
  ps : Nat
  aoff : Nat
  scales : VReg
deriving DecidableEq, Repr

/-- What a matrix instruction in the unit's queue took at issue (R89, R112): its strand, address, PRECISE and FPCTL, what the code of
a store meets while it executes (R209), and the flags raised so far by bank: in the unit, and in the epilogue path. -/
structure MxBase where
  strand : Nat
  pc : W48
  precise : Bool
  fpctl : BitVec 6
  ecc : Option Bool
  flags : List (Nat × FpFlags × FpFlags)
deriving DecidableEq, Repr

/-- An MMA: its operands, the WS offset of B and of its scales, and the next K-step. -/
structure MmaRun where
  base : MxBase
  o : OpMma
  b : Nat
  sb : Nat
  banks : List MmaBank
  step : Nat
deriving DecidableEq, Repr

/-- What a drain reads of one strand at issue (R78, R119, R129). -/
structure DrainBank where
  bank : Nat
  ps : Nat
  doff : Nat
  foff : Nat
  epictl : BitVec 18
deriving DecidableEq, Repr

/-- An activation slot (Table 4-6): what VTLOAD loaded, its 1,056 bytes as a number. none: the default contents of R128. -/
structure ActSlot where
  bytes : Option (BitVec 8448)
deriving DecidableEq, Repr

/-- An MDRAIN: its operands, rounding mode, the activation table as it was at issue, and whether its rows have been drained. -/
structure DrainRun where
  base : MxBase
  o : OpDrain
  rm : Rm
  banks : List DrainBank
  act : Vector ActSlot 8
  worked : Bool
deriving DecidableEq, Repr

inductive MxRun where
  | mma (r : MmaRun)
  | drain (r : DrainRun)
deriving DecidableEq, Repr

/-- A bank of the array (R46, R65, R75): its 1,024 cells, row-major, empty while every cell holds zero, and whether its pair was an
integer pair. A cell holds an exact value of the cell format, or an integer. -/
structure Bank where
  cells : List Val := []
  integer : Bool := false
deriving DecidableEq, Repr

/-- The state of a power unit (R205, R286). -/
inductive PowerState where
  | off | starting | on | stopping
deriving DecidableEq, Repr

/-- A write of SEED (seed true) or CTR, made at the end of cycle due (R117, R143). -/
structure GenWrite where
  due : Nat
  seed : Bool
  value : W64
deriving DecidableEq, Repr

/-- A core (R16, R211 to R219, R232, R115, R125). -/
structure Core where
  strands : Vector Strand 4 := Vector.replicate 4 {}
  cycle : Nat := 0
  l1 : List (Nat × CSet) := []
  side : List Line := []
  icache : List (Nat × CSet) := []
  fetches : List Fetch := []
  storeq : List StoreEnt := []
  unacked : List StoreEnt := []
  dtlb : List TlbEnt := []
  itlb : List TlbEnt := []
  mx : List MxRun := []
  banks : Vector Bank 4 := Vector.replicate 4 {}
  seed : W64 := 0
  ctr : W64 := 0
  gen : List GenWrite := []
  act : Vector ActSlot 8 := Vector.replicate 8 ⟨none⟩
deriving DecidableEq, Repr

end Sys2Proof.Machine
end

