-- ==== Sys2Proof/Machine/NetState.lean ====
section
/-! DEFINITION. What the mesh, the queues, the counters, the MMU, the DMA engine and the external memories hold beside their
registers (spec/08 to spec/10). -/

namespace Sys2Proof.Machine

/-- Packet kinds (Table 8-6). -/
inductive PKind where
  | rd | wr | amo | sig | msg | htl | rdr | wrr | err | crd | rls | red | tok
deriving DecidableEq, Repr

/-- The code of a kind (Table 8-6). -/
def PKind.code : PKind → Nat
  | .rd => 0 | .wr => 1 | .amo => 2 | .sig => 3 | .msg => 4 | .htl => 5 | .rdr => 8 | .wrr => 9 | .err => 0xA | .crd => 0xB
  | .rls => 0xC | .red => 0xD | .tok => 0xF

/-- The virtual channel of a kind (Table 8-3). -/
def PKind.vc : PKind → Nat
  | .rd | .wr | .amo | .sig | .msg | .htl => 0
  | .rdr | .wrr | .err | .crd | .rls => 1
  | .red => 2
  | .tok => 3

/-- A packet (Table 8-4). `size` is the bytes that an RD asks for and `key` the KEY of the leaf that a memory access went through
(R317), which the header names nowhere; they travel with the request. -/
structure Packet where
  kind : PKind
  part : Nat
  mc : Bool := false
  dst : Nat
  src : Nat
  tag : Nat := 0
  flg : BitVec 3 := 0
  group : Nat := 0
  addr : Nat := 0
  chid : Nat := 0
  round : Nat := 0
  cnt : Nat := 0
  rop : Nat := 0
  code : Nat := 0
  size : Nat := 0
  key : Option Nat := none
  payload : List Byte := []
deriving DecidableEq, Repr

/-- A packet in an input buffer of a node, with the outputs that a copy still has to leave by (R248). -/
structure NetPkt where
  p : Packet
  node : Node
  inp : Port
  outs : List Port
deriving DecidableEq, Repr

/-- A waiter entry (R276): taker or watcher, its target, and who waits: a strand of the counter's own core, or the request of an
endpoint, whose PART its answer carries. -/
structure Waiter where
  ctr : CounterId
  take : Bool
  x : W32
  own : Option Nat
  src : Nat
  tag : Nat
  part : Nat
deriving DecidableEq, Repr

/-- An accumulator of a reduction queue (R262): its full round number, contributions and flags, and whether the round is ready. -/
structure Round where
  round : Nat
  cnt : Nat
  flg : BitVec 3
  ready : Bool
deriving DecidableEq, Repr

/-- A hamper fetch in progress (R258): the place it will fill, the tags of the reads not yet answered with their offsets in the
message, and the bytes that have arrived; failed once an error has answered one. -/
structure HFetch where
  place : Nat
  asked : List (Nat × Nat)
  got : List (Nat × List Byte)
  failed : Bool
deriving DecidableEq, Repr

/-- A receive queue beside its registers (R252, R253, R262): places of ready messages in order of arrival, claimed places in order of
claim, sleeping strands in FIFO order, ready messages held for woken sleepers (strand, place), rounds in progress, the place that
the next arrival takes when it is free, and whether its messages come along a multicast tree. -/
structure Queue where
  ready : List Nat := []
  claimed : List Nat := []
  sleepers : List Nat := []
  held : List (Nat × Nat) := []
  rounds : List Round := []
  cursor : Nat := 0
  mc : Bool := false
  fetch : Option HFetch := none
deriving DecidableEq, Repr

/-- A spilled message whose ring writes are not all answered (R258): send channel, the writes' tags, and the tail to announce. -/
structure SpillWrite where
  ch : Nat
  tags : List Nat
  tpos : Nat
  tlap : Bool
deriving DecidableEq, Repr

/-- What the message unit of a core holds beside its registers (R255). -/
structure MsgUnit where
  queues : List (Nat × Queue) := []
  dir : List (Nat × Nat) := []
  hhead : List (Nat × (Nat × Bool)) := []
  spills : List SpillWrite := []
deriving DecidableEq, Repr

/-- Who waits for a translation (R225, R232, R234): a strand's access, or a DMA channel's burst. -/
inductive Walker where
  | strand (core strand : Nat) (acc : Access) (va : Nat)
  | dma (chan run : Nat) (write : Bool) (va : Nat)
deriving DecidableEq, Repr

/-- A walk in progress (R228, R232): its 64 KiB page and the accesses that share it. stale: an invalidation was written while it
was in progress, so that it does not install its result (R233). -/
structure Walk where
  page : Nat
  who : List Walker
  stale : Bool
deriving DecidableEq, Repr

/-- An entry of the firmware fault queue (R234). -/
structure FqEnt where
  page : Nat
  who : List Walker
deriving DecidableEq, Repr

/-- A non-leaf entry cached by the MMU (R232): level, the VA above the table's reach, and the table's address. -/
structure NonLeaf where
  level : Nat
  idx : Nat
  table : Nat
deriving DecidableEq, Repr

/-- A descriptor as the engine reads it (Table 9-7). -/
structure Desc where
  w0 : W64
  w1 : W64
  src : W64
  sl : W64
  sc : W64
  dst : W64
  dl : W64
  dc : W64
deriving DecidableEq, Repr

/-- A descriptor in progress (R290 to R293): a number of its own, its CLM offset, the bytes whose bursts have started, the bytes whose
writes have completed as runs (start, length), the code once it has failed, and for the check units (R295) the bytes absorbed and
those of completed bursts that wait for earlier ones. -/
structure DescRun where
  id : Nat
  off : Nat
  d : Desc
  issued : Nat := 0
  done : List (Nat × Nat) := []
  bad : Option Nat := none
  absorbed : Nat := 0
  held : List (Nat × List Byte) := []
deriving DecidableEq, Repr

/-- Where a burst stands: its bytes are being read, or written, or it has been answered, perhaps with a code of Table 9-8. -/
inductive BurstState where
  | reading
  | writing
  | answered (bad : Option Nat)
deriving DecidableEq, Repr

/-- A burst outstanding (R291): channel, descriptor, position in the transfer, length, physical addresses with the KEY of their
leaves, the order number of its start, the tag of its request, and the bytes read. -/
structure Burst where
  chan : Nat
  run : Nat
  pos : Nat
  len : Nat
  src : Nat
  dst : Nat
  skey : Option Nat
  dkey : Option Nat
  age : Nat
  tag : Nat
  st : BurstState
  bytes : List Byte := []
deriving DecidableEq, Repr

/-- A DMA channel beside its registers: the next descriptor to read, the descriptors started, oldest first, whether a translation
holds it (R291), and whether a disable came while it was Starting (R286). -/
structure Chan where
  next : Option Nat := none
  runs : List DescRun := []
  waiting : Bool := false
  stop : Bool := false
deriving DecidableEq, Repr

/-- A cluster's MMU and DMA engine beside their registers. `inv` is the invalidation in progress (R233): the accesses that it still
waits for are those older than a tag, through pages (physical base, length) that it removed. -/
structure Cluster where
  stlb : List TlbEnt := []
  nonleaf : List NonLeaf := []
  walks : List Walk := []
  fq : List FqEnt := []
  chans : List (Nat × Chan) := []
  bursts : List Burst := []
  inv : Option (Nat × List (Nat × Nat)) := none
  rr : Vector Nat 8 := Vector.replicate 8 63
deriving DecidableEq, Repr

/-- The mesh: packets in node buffers, packets that have reached their endpoint and wait to be served, arbiter pointers by output
and virtual channel (R241), and the credits that routers of multicast trees keep by branch (R254). `tags` is the next tag that no
request has used; a message, a reduction and a tail update carry the number of their send channel, 0 to 63, as tag. `paused` are the clusters in a capture pause (R418). -/
structure Net where
  flight : List NetPkt := []
  sinks : List (Nat × Packet) := []
  ptrs : List ((Node × Port × Nat) × Nat) := []
  treeRel : List ((Node × Nat × Port) × Nat) := []
  treeUp : List ((Node × Nat) × Nat) := []
  tags : Nat := 64
  paused : List Nat := []
deriving DecidableEq, Repr

/-- A key slot's key (R314): K1 and K2. -/
structure XtsKey where
  k1 : BitVec 256
  k2 : BitVec 256
deriving DecidableEq, Repr

/-- A scrub at work, or behind another of its engine (R326): a number of its own, first page and pages. -/
structure ScrubJob where
  id : Nat
  m : ExtMem
  first : Nat
  count : Nat
deriving DecidableEq, Repr

/-- A page copy of a mover (R323). -/
structure MoveJob where
  n : Nat
  hpage : Nat
  dpage : Nat
  toHbm : Bool
deriving DecidableEq, Repr

/-- The external memories beside their registers: poisoned 64-byte units by physical address / 64 (R309), the key that each
DDR5 unit was last encrypted under (R314; a unit not listed holds raw bytes), the key slots (R319), scrubs and moves at work, the next
page of each channel in a re-key job (R321), retired pages (R313), corrected errors by page and network time (R313), the pages
that firmware has given to a partition or keeps itself (partition 15), and the guarded pages and asides of waypoints (R420) by
partition. Pages are physical addresses / 64 KiB. -/
structure ExtState where
  poison : List Nat := []
  unitKey : List (Nat × Option XtsKey) := []
  keys : Vector (Option XtsKey) 64 := Vector.replicate 64 none
  scrubs : List ScrubJob := []
  moves : List MoveJob := []
  rekey : List (Nat × Nat) := []
  retired : List Nat := []
  corrLog : List (Nat × Nat) := []
  owned : List (Nat × Nat) := []
  guards : List (Nat × Nat) := []
  asides : List (Nat × Nat × Nat) := []
deriving DecidableEq, Repr

/-- Kinds of trail packets (Table 11-5). -/
inductive TKind where
  | wr | rd | sig | msg | rdr | wack | nak | crd | rls | red | tok
deriving DecidableEq, Repr

/-- A trail packet (Table 11-4); `size` is the length that LEN codes. `answers` is a WR of a ROLL aperture that is answered when the
token leaves (R364). -/
structure TPkt where
  kind : TKind
  size : Nat := 0
  ddev : Nat
  sdev : Nat
  hops : Nat
  sep : Nat
  win : Nat := 0
  epoch : Nat := 0
  tag : Nat := 0
  off : Nat := 0
  idx : Nat := 0
  gwin : Nat := 0
  gepoch : Nat := 0
  gv : Bool := false
  code : Nat := 0
  chid : Nat := 0
  round : Nat := 0
  cnt : Nat := 0
  rop : Nat := 0
  flg : Nat := 0
  payload : List Byte := []
  answers : Option (Packet × Nat) := none
deriving DecidableEq, Repr

/-- A request sent over a link and not yet answered (R345, R353): its tag, the trail packet, the mesh request and the aperture. -/
structure TReq where
  tag : Nat
  t : TPkt
  p : Packet
  apt : Nat
deriving DecidableEq, Repr

/-- A remote request that its window has admitted and the mesh has not yet answered (R358, R359), by the tag of the mesh request. -/
structure TServe where
  tag : Nat
  t : TPkt
deriving DecidableEq, Repr

/-- An admitted RD or SIG, with a number of its own, that waits for the WRs admitted before it (R367). -/
structure THeld where
  id : Nat
  after : List Nat
  t : TPkt
deriving DecidableEq, Repr

/-- A trail port beside its registers (R335 to R345, R361): a disable that came while it was Starting; whether it is
retraining (R334); packets ready to be sent; by class
what remains of a packet partly sent; the replay buffer, oldest first, and the sequence numbers to send again; the next
sequence number; the last one accepted, and whether data flits are discarded until the expected one arrives; retry requests in a row
without an advance of ACK; a retry request to be sent; credits held and slots to be returned by class; what has been
reassembled of a packet by class; packets received; requests outstanding and being served; the spoil list; the flit last sent. -/
structure TrailPort where
  stop : Bool := false
  retrain : Bool := false
  tx : List TPkt := []
  partly : List (Nat × List Byte) := []
  replay : List (Nat × List Byte) := []
  resend : List Nat := []
  seq : Nat := 0
  lastRx : Nat := 65535
  gap : Bool := false
  retries : Nat := 0
  owed : Bool := false
  credit : Vector Nat 4 := Vector.replicate 4 0
  freed : Vector Nat 4 := Vector.replicate 4 0
  asm : List (Nat × List Byte) := []
  rx : List TPkt := []
  reqs : List TReq := []
  serve : List TServe := []
  sigs : List TServe := []
  held : List THeld := []
  spoil : List (Nat × Nat × Nat) := []
  sent : List Byte := []
deriving DecidableEq, Repr

end Sys2Proof.Machine
end

