-- ==== Sys2Proof/Machine/CtlState.lean ====
section
/-! DEFINITION. What the Cheter controller, the host port, the time unit, the fuses and boot flash, and the package hold beside their
registers (spec/12 to spec/15). -/

namespace Sys2Proof.Machine

/-! ### Kilper (spec/12) -/

/-- A Kilper packet (Table 12-2), its payload as bytes. -/
structure KPkt where
  type : Nat
  flags : Nat := 0
  session : Nat
  seq : Nat := 0
  ack : Nat := 0
  opcode : Nat := 0
  tag : Nat := 0
  exec : Nat := 0
  payload : List Byte := []
deriving DecidableEq, Repr

/-- A packet that the device has sent in a session and that is not acknowledged (R389): how often it has been sent again, whether a
SACK block covers it, whether it was sent again at once for a SACK block, and the mailbox place that its acknowledgement
frees (R406): queue and place. -/
structure TxPkt where
  p : KPkt
  tries : Nat := 0
  sacked : Bool := false
  fast : Bool := false
  place : Option (Nat × Nat) := none
deriving DecidableEq, Repr

/-- Where a session's frames go (R379): Ethernet address, IP version, IP address and UDP port. -/
structure Peer where
  mac : BitVec 48 := 0
  v6 : Bool := true
  ip : BitVec 128 := 0
  port : BitVec 16 := 0
deriving DecidableEq, Repr

/-- A Kilper session (R387 to R390): NEXT and the packets held above it, packets accepted in order and not yet taken up, packets that
wait for the window, packets not acknowledged, whether an acknowledgement is owed, and commands started and not ended, by tag. -/
structure Session where
  num : Nat
  role : Nat
  part : Nat
  window : Nat
  maxdata : Nat
  keep : Nat
  spdm : Nat
  peer : Peer := {}
  next : Nat
  held : List KPkt := []
  arrived : List KPkt := []
  txNext : Nat
  txq : List TxPkt := []
  unacked : List TxPkt := []
  ackOwed : Bool := false
  running : List Nat := []
deriving DecidableEq, Repr

/-- A scheduled command (R397): what it is, its session, opcode and tag, its time, and the alarms that serve it (R414). -/
structure Sched where
  cmd : Instr
  session : Nat
  opcode : Nat
  tag : Nat
  exec : BitVec 64
  alarms : List Nat := []
deriving DecidableEq, Repr

/-- A pending WAIT_COUNTER (R404): the flags of its reply and the tag of its waiter. -/
structure KWait where
  h : KHdr
  flags : Nat
  ctr : CounterId
  wtag : Nat
deriving DecidableEq, Repr

/-- A command answered ACCEPTED, or held until what it waits for has come about, whose last reply is still to be sent: what it waits
for: scrub jobs; a partition that is destroyed; a cluster in CLUSTER_RESET; a waypoint; a restore; a core's retirement; trail
requests of a closed window; rest stops; answers of requests through an aperture (tag, offset, length), with the bytes read and the
first failure (offset, DETAIL); a hand-over. -/
inductive KAwait where
  | scrub (jobs : List Nat)
  | destroy (part : Nat)
  | cluster (u : Nat)
  | waypoint (part num : Nat)
  | restore (part : Nat)
  | retire (core : Nat)
  | window (tags : List (Nat × Nat))
  | halt (core : Nat) (strands : BitVec 8)
  | remote (read : Bool) (len : Nat) (asks : List (Nat × Nat × Nat)) (data : List (Nat × List Byte)) (bad : Option (Nat × Nat))
  | handOver
deriving DecidableEq, Repr

/-- Such a command: its header, its opcode, the flags of its last reply, what it waits for, and what is measured when it succeeds
(parameters and digest of a DEBUG_WRITE, R447). -/
structure KPending where
  h : KHdr
  opcode : Nat
  flags : Nat
  what : KAwait
  record : Option (List Byte × BitVec 256) := none
deriving DecidableEq, Repr

/-- A MACsec association (R380, R456): its key record and the lowest packet number that it accepts. -/
structure Assoc where
  k : KeyRecord
  low : Nat
deriving DecidableEq, Repr

/-- What the host port and Kilper hold beside their registers: a disable that came while the port was Starting; where session 0's
commands came from, by tag, and those commands; sessions; frames sent
(where to, and the packet); scheduled commands, oldest first; pending waits and replies; host mailbox bindings (CHID + 65536 × partition, session);
recent opens by nonce with their time and reply (R387); session numbers that closed, with the time (R387); MACsec associations. -/
structure HostState where
  stop : Bool := false
  zero : List (Nat × Peer) := []
  arrived : List KPkt := []
  sessions : List Session := []
  sent : List (Peer × KPkt) := []
  frames : List FrameBody := []
  scheduled : List Sched := []
  waits : List KWait := []
  pending : List KPending := []
  mailbox : List (Nat × Nat) := []
  opens : List (BitVec 128 × Nat × KPkt) := []
  closed : List (Nat × Nat) := []
  tx : List (Nat × Assoc) := []
  rx : List (Nat × Assoc) := []
deriving DecidableEq, Repr

/-! ### Partitions and waypoints (R19 to R25, R416 to R425) -/

/-- A mapped leaf: virtual address, level (1 to 3), physical address (of the DDR5 page while the page is moved out), TIER, whether it is
moved out (R324), and the aperture of a TIER 3 page. -/
structure Leaf where
  va : Nat
  level : Nat
  pa : Nat
  tier : Nat
  out : Bool := false
  apt : Option Nat := none
deriving DecidableEq, Repr

/-- A cluster record (Table 13-4): what a capture copies of a cluster's on-chip state. -/
structure ClusterRec where
  u : Nat
  mem : List Host.Cell
  regs : List (Nat × W64)
  cores : List (Nat × Core)
  msgs : List (Nat × MsgUnit)
  eng : Cluster
  waiters : List Waiter
deriving DecidableEq, Repr

/-- A waypoint (R416 to R422): its number and capture time (network time in units of 2^-32 ns), the cluster records, its stream set, and once it is LOCAL the store page
in DDR5 of each page of the partition. -/
structure Waypoint where
  num : Nat
  time : Nat
  recs : List ClusterRec
  pages : List Nat
  store : List (Nat × Nat) := []
deriving DecidableEq, Repr

/-- Why a partition is stopped, or about to be (R417, R425): for a capture, or for a restore of the waypoint that a number names (0
the latest), without the records of some cores and of some clusters. -/
inductive StopWhy where
  | none
  | capture
  | restore (wp : Nat) (cores clusters : List Nat)
deriving DecidableEq, Repr

/-- The waypoint configuration of a partition (R423). -/
structure WpConfig where
  key : Nat
  ddr : Bool
  rcv : Bool
  ctr : Nat
  mir : Bool
  ddev : Nat
  win : Nat
  epoch : Nat
deriving DecidableEq, Repr

/-- A partition: its clusters, programs (entry and PRIV), leaves, the physical pages of its page tables with the bytes used of the last
one, the pages of its clusters' reserves, its waypoint configuration, the latest captured waypoint and the latest LOCAL one, whether it is
stopped, the scrub jobs that its destruction waits for, and the next capture by its schedule (ms). -/
structure Partition where
  num : Nat
  clusters : List Nat
  progs : List (Nat × (Nat × Nat)) := []
  leaves : List Leaf := []
  tables : List Nat := []
  used : Nat := 0
  reserve : List Nat := []
  cfg : Option WpConfig := none
  captured : Option Waypoint := none
  local_ : Option Waypoint := none
  stop : StopWhy := .none
  dying : Option (List Nat) := none
  nextDue : Nat := 0
deriving DecidableEq, Repr

/-! ### Time unit (R408 to R415) -/

/-- Network time and its increment in units of 2^-32 ns, the latch of TIME_NOWX by reading endpoint, the second that the next PPS_IN edge
begins, consecutive samples within 100 ns and above 1 µs, the time of the last valid sample, PPS_OUT, and the interrupt of
the steward cores by an alarm. -/
structure TimeState where
  now : Nat := 0
  inc : Nat := 6871947674
  latch : List (Nat × W64) := []
  edge : Nat := 0
  good : Nat := 0
  bad : Nat := 0
  ppsOut : Bool := false
  steward : Bool := false
deriving DecidableEq, Repr

/-! ### Fuses, boot flash, measurements (spec/14) -/

/-- An SPDM secured session (R450, R454). -/
structure SpdmSession where
  sid : Nat
  mutAuth : Bool
  root : Option (BitVec 256)
  finished : Bool
  authorised : Bool
deriving DecidableEq, Repr

/-- A staged, running or earlier image with its flash slot (false A, true B). -/
structure Loaded where
  slot : Bool
  img : Image
deriving DecidableEq, Repr

/-- A firmware hand-over (R431, R432): it has been asked for; the new image runs and is not committed, and a rollback returns to an
earlier one. -/
inductive HandOver where
  | none
  | asked
  | trial (prev : Loaded)
deriving DecidableEq, Repr

/-- Fuses (Table 14-1); boot flash (Table 14-2): the boot record's copies as PREF (true for slot B) and GEN, what the configuration
region holds of an operator root and of MACsec, the image slots, whether it holds a wrapped attestation key, and the
certificate chain; measurement slots and log (R446, R448); running and staged image, hand-over; SPDM sessions; DBG; PART_CREATE commands by
partition; clusters reset and not loaded again (R452). -/
structure SecState where
  fuseP : Bool := false
  fuseF : Bool := false
  fuseR : Bool := false
  keyhash : Vector (BitVec 256) 4 := Vector.replicate 4 0
  keyrev : BitVec 4 := 0
  svn : Nat := 0
  dukGone : Bool := false
  oproot : Option (BitVec 256) := none
  boot : List (Option (Bool × Nat)) := [none, none]
  cfgRoot : Option (BitVec 256) := none
  cfgMsreq : Bool := false
  slotA : Option Image := none
  slotB : Option Image := none
  attKey : Bool := false
  chain : Option (List Byte) := none
  ms : Vector (BitVec 256) 16 := Vector.replicate 16 0
  log : List (List Byte) := []
  logFull : Bool := false
  running : Option Loaded := none
  staged : Option Loaded := none
  hand : HandOver := .none
  spdm : List SpdmSession := []
  dbg : Bool := false
  pgen : Vector Nat 12 := Vector.replicate 12 0
  resets : List Nat := []
deriving DecidableEq, Repr

/-- A trace unit at work (R461): unit, events, core, strands, and its ring. -/
structure Trace where
  trc : Nat
  events : BitVec 8
  core : Nat
  strands : BitVec 8
  buf : Nat
  size : Nat
deriving DecidableEq, Repr

/-! ### Package (spec/15) -/

/-- TAP instructions (R476, R459). -/
inductive TapInstr where
  | bypass | sample | extest | clamp | highz | extestPulse | extestTrain | debug
deriving DecidableEq, Repr

/-- Pins, reset, thermal and management state: PWR_GOOD and RESET_N, reset, trip, FAULT_N and THERM_ALERT_N; by tower the thermal level and
the evaluations spent at 95 °C or below; power level and evaluations below 95 % of the cap; stacks whose bandwidth is halved; the I3C
target (read offset, dynamic address, ENEC, last FLAGS, interrupts raised, bytes read); the TAP with its boundary-scan register, whether
the outputs are in high impedance, and what it last shifted out or read; the cores that have been retired (R427). -/
structure PhysState where
  pwrGood : Bool := true
  resetN : Bool := true
  inReset : Bool := false
  tripped : Bool := false
  faultLow : Bool := false
  alertLow : Bool := false
  therm : Vector Nat 6 := Vector.replicate 6 0
  cool : Vector Nat 6 := Vector.replicate 6 0
  power : Nat := 0
  below : Nat := 0
  halved : List Nat := []
  i3cOffset : Nat := 0
  i3cAddr : Option (BitVec 7) := none
  i3cIbi : Bool := false
  i3cFlags : Nat := 0
  i3cRaised : List Nat := []
  i3cOut : List Byte := []
  tap : TapInstr := .bypass
  bsr : List Bool := []
  hiz : Bool := false
  tdo : List Bool := []
  jtagOut : Option Nat := none
  retired : List Nat := []
deriving DecidableEq, Repr

end Sys2Proof.Machine
end

