-- ==== Sys2Proof/Machine/Sparse.lean ====
section
/-! DEFINITION. Sparse data by key in one canonical form: keys strictly rising, and no entry equal to what an unlisted key reads
as. Memory, registers, cores and clusters are held so. -/

namespace Sys2Proof.Machine

variable {α : Type}

/-- What the map holds at a key: the entry, or the default of that key. -/
def Sparse.get (d : Nat → α) : List (Nat × α) → Nat → α
  | [], k => d k
  | (j, x) :: m, k => if j = k then x else if k < j then d k else Sparse.get d m k

/-- The map with a key's value set; writing the default removes the entry. -/
def Sparse.set [DecidableEq α] (d : Nat → α) : List (Nat × α) → Nat → α → List (Nat × α)
  | [], k, v => if v = d k then [] else [(k, v)]
  | (j, x) :: m, k, v =>
    if j = k then (if v = d k then m else (k, v) :: m)
    else if k < j then (if v = d k then (j, x) :: m else (k, v) :: (j, x) :: m)
    else (j, x) :: Sparse.set d m k v

/-- The canonical form: every key is above the bound, keys rise strictly, no entry equals its default. -/
def Sparse.wfFrom [DecidableEq α] (d : Nat → α) : Nat → List (Nat × α) → Bool
  | _, [] => true
  | b, (j, x) :: m => decide (b ≤ j) && decide (x ≠ d j) && Sparse.wfFrom d (j + 1) m

/-- The canonical form of a whole map. -/
def Sparse.wf [DecidableEq α] (d : Nat → α) (m : List (Nat × α)) : Bool := Sparse.wfFrom d 0 m

/-- Bytes written from an address upward. -/
def Sparse.setRun [DecidableEq α] (d : Nat → α) (m : List (Nat × α)) (k : Nat) : List α → List (Nat × α)
  | [] => m
  | v :: vs => Sparse.setRun d (Sparse.set d m k v) (k + 1) vs

/-- A map with every key of a range back at its default. -/
def Sparse.clearRange : List (Nat × α) → Nat → Nat → List (Nat × α)
  | [], _, _ => []
  | (j, x) :: m, lo, hi => if lo ≤ j && j < hi then Sparse.clearRange m lo hi else (j, x) :: Sparse.clearRange m lo hi

end Sys2Proof.Machine
end

