-- ==== Sys2Proof/Machine/State.lean ====
section
/-! DEFINITION. The state of the XM1 as one block: plain data. Registers stand in `regs`, keyed by their offset in register space,
except those that are another view of a field here (Machine/Regs.lean); memory stands in `mem`, keyed by physical address. -/

namespace Sys2Proof.Machine

/-- What reaches the Cheter controller as a notification (R27, R186, R209, R234, R309, R310). -/
inductive Notice where
  | memError (core strand pa code : Nat)
  | restStop (core strand : Nat)
  | sramError (core : Nat) (store : Store) (offset : Nat)
  | clmError (cluster offset : Nat)
  | translation (cluster : Nat)
  | poisoned (m : ExtMem) (offset : Nat)
deriving DecidableEq, Repr

/-- Reasons to stop with a fault. The spec gives every command an effect in every state, so no meaning raises one. -/
inductive Fault where
  /-- Raised by no command: kept so that the type has a name for a broken model. Safe. -/
  | unreachable
deriving DecidableEq, Repr

/-- Reasons to refuse a command. -/
inductive Refusal where
  /-- Raised by Dispatch.lean for a row that has no meaning yet. Safe. -/
  | notModelled (mnemonic : String)
deriving DecidableEq, Repr

/-- The state. `stops` are the banks whose power-down has been asked for and has not begun (R206, R286); `free` counts the free values
taken (log entry 1); `pending` is the queue of commands. -/
structure State where
  regs : List (Nat × W64)
  mem : List Host.Cell
  cores : List (Nat × Core)
  clusters : List (Nat × Cluster)
  msgs : List (Nat × MsgUnit)
  waiters : List Waiter
  net : Net
  ext : ExtState
  trail : List (Nat × TrailPort)
  host : HostState
  parts : List Partition
  time : TimeState
  sec : SecState
  phys : PhysState
  traces : List Trace
  notices : List Notice
  stops : List BankId
  free : Nat
  pending : List Instr
deriving DecidableEq, Repr

/-- The machine right after reset: every register at its reset value, memory with nothing listed, every strand Off, an empty
queue of commands. -/
def State.reset : State :=
  { regs := [], mem := [], cores := [], clusters := [], msgs := [], waiters := [], net := {}, ext := {},
    trail := [], host := {}, parts := [], time := {}, sec := {}, phys := {}, traces := [], notices := [], stops := [],
    free := 0, pending := [] }

end Sys2Proof.Machine
end

