-- ==== Sys2Proof/Machine/Access.lean ====
section
/-! DEFINITION. Reading and writing the parts of the state: registers, cores, clusters, strands, bytes of memory. -/

namespace Sys2Proof.Machine

abbrev Out := Host.Outcome State Fault Refusal

/-- Element i of a vector, the index taken modulo its length. -/
def vget {α : Type} {n : Nat} [NeZero n] (v : Vector α n) (i : Nat) : α := v.get (Fin.ofNat n i)

/-- A vector with element i replaced. -/
def vset {α : Type} {n : Nat} [NeZero n] (v : Vector α n) (i : Nat) (x : α) : Vector α n :=
  v.set (Fin.ofNat n i).val x (Fin.ofNat n i).isLt

/-! ### Registers, cores, clusters -/

def State.reg (s : State) (a : Nat) : W64 := Sparse.get regReset s.regs a
def State.setReg (s : State) (a : Nat) (v : W64) : State := { s with regs := Sparse.set regReset s.regs a v }
/-- A field of a register. -/
def State.rf (s : State) (a : Nat) (f : Fld) : Nat := fld (s.reg a) f.hi f.lo
def State.rbit (s : State) (a : Nat) (f : Fld) : Bool := s.rf a f != 0
def State.setRf (s : State) (a : Nat) (f : Fld) (v : Nat) : State := s.setReg a (setFld (s.reg a) f.hi f.lo v)
/-- A counter field raised by n; counters wrap to zero after their largest value (R164, R198, R222 and others). -/
def State.bump (s : State) (a : Nat) (f : Fld) (n : Nat) : State := s.setRf a f (s.rf a f + n)

def State.core (s : State) (k : Nat) : Core := Sparse.get (fun _ => {}) s.cores k
def State.setCore (s : State) (k : Nat) (c : Core) : State := { s with cores := Sparse.set (fun _ => {}) s.cores k c }
def State.modCore (s : State) (k : Nat) (f : Core → Core) : State := s.setCore k (f (s.core k))
def State.cluster (s : State) (u : Nat) : Cluster := Sparse.get (fun _ => {}) s.clusters u
def State.modCluster (s : State) (u : Nat) (f : Cluster → Cluster) : State :=
  { s with clusters := Sparse.set (fun _ => {}) s.clusters u (f (s.cluster u)) }
def State.msg (s : State) (k : Nat) : MsgUnit := Sparse.get (fun _ => {}) s.msgs k
def State.modMsg (s : State) (k : Nat) (f : MsgUnit → MsgUnit) : State :=
  { s with msgs := Sparse.set (fun _ => {}) s.msgs k (f (s.msg k)) }
def State.queue (s : State) (k q : Nat) : Queue := Sparse.get (fun _ => {}) (s.msg k).queues q
def State.modQueue (s : State) (k q : Nat) (f : Queue → Queue) : State :=
  s.modMsg k fun m => { m with queues := Sparse.set (fun _ => {}) m.queues q (f (s.queue k q)) }

def State.strand (s : State) (k i : Nat) : Strand := vget (s.core k).strands i
def State.setStrand (s : State) (k i : Nat) (x : Strand) : State :=
  s.modCore k fun c => { c with strands := vset c.strands i x }
def State.modStrand (s : State) (k i : Nat) (f : Strand → Strand) : State := s.setStrand k i (f (s.strand k i))

/-- A free value (the spec leaves it undefined): the next of the sequence that Config.freeValue names, and the state with the
sequence advanced. -/
def State.fresh (s : State) : Nat × State := (Config.freeValue s.free, { s with free := s.free + 1 })

/-- Cluster of a core; the steward cores belong to none. -/
def clusterOf (k : Nat) : Nat := k / 40
def isSteward (k : Nat) : Bool := decide (480 ≤ k)

/-- The Cheter controller's endpoint (Table 8-5). -/
def epCheter : Nat := 0xC21
/-- A core's TAP; the steward cores reach the mesh through the Cheter controller (Table 8-5, R17). -/
def epCore (k : Nat) : Nat := if k < 480 then k / 40 * 256 + k % 40 else epCheter
/-- The partition of a cluster in ID_CLU_ASSIGN (Table 1-6). -/
def State.partOf (s : State) (u : Nat) : Nat := fld (s.reg Reg.ID_CLU_ASSIGN) (4 * u + 3) (4 * u)

/-- PART as R245 assigns it to what a core sends. -/
def State.partOfCore (s : State) (k : Nat) : Nat := if isSteward k then 0xF else s.partOf (clusterOf k)

/-! ### Memory bytes (R5, R26) -/

/-- What a byte of memory that nothing has written reads as (log entry 3). -/
def memDefault (_ : Nat) : Byte := 0#8

def State.byte (s : State) (pa : Nat) : Byte := Sparse.get memDefault s.mem pa
def State.setByte (s : State) (pa : Nat) (b : Byte) : State := { s with mem := Sparse.set memDefault s.mem pa b }
def State.bytes (s : State) (pa n : Nat) : List Byte := (List.range n).map fun i => s.byte (pa + i)
def State.setBytes (s : State) (pa : Nat) (l : List Byte) : State := { s with mem := Sparse.setRun memDefault s.mem pa l }
def State.num (s : State) (pa n : Nat) : Nat := ofBytes (s.bytes pa n)
def State.setNum (s : State) (pa n x : Nat) : State := s.setBytes pa (toBytes n x)
/-- The canonical form of memory. -/
def Memory.wf (m : List Host.Cell) : Bool := Sparse.wf memDefault m
/-- A range of memory reads as zero (R207, R326). -/
def State.zeroRange (s : State) (lo n : Nat) : State := { s with mem := Sparse.clearRange s.mem lo (lo + n) }

end Sys2Proof.Machine
end

