-- ==== Sys2Proof/Machine/Kilper.lean ====
section
/-! DEFINITION. Packets that the device sends to the host: sessions, replies, events, and what is reported to the Cheter controller
(R379, R380, R383, R388, R389, R391, R405). -/

namespace Sys2Proof.Machine

/-! ### Network time (R396, R408) -/

/-- SEC, NS and FRAC of network time (R408); time is held in units of 2^-32 ns. -/
def TimeState.sec (t : TimeState) : Nat := t.now / 2 ^ 32 / 1000000000
def TimeState.ns (t : TimeState) : Nat := t.now / 2 ^ 32 % 1000000000
def TimeState.frac (t : TimeState) : Nat := t.now % 2 ^ 32 / 2 ^ 16
/-- Network time in ns. -/
def TimeState.inNs (t : TimeState) : Nat := t.now / 2 ^ 32
/-- The form of EXEC and TIME_NOW (R396). -/
def TimeState.word (t : TimeState) : W64 := BitVec.ofNat 64 (t.sec % 2 ^ 32 * 2 ^ 32 + t.ns)
/-- SEC (6), NS (4), FRAC (2), big-endian (R405). -/
def TimeState.bytesBE (t : TimeState) : List Byte := toBytesBE 6 t.sec ++ toBytesBE 4 t.ns ++ toBytesBE 2 t.frac

/-! ### Measurements (R446, R447) -/

/-- MS ← SHA-256(MS ‖ E), with E the digest of a record, which the log keeps while it has room (R448). -/
def State.extend (s : State) (slot : Nat) (record : List Byte) : State :=
  let old := vget s.sec.ms slot
  let new := Config.sha256 (toBytesBE 32 old.toNat ++ toBytesBE 32 (Config.sha256 record).toNat)
  let c := { s.sec with ms := vset s.sec.ms slot new }
  { s with sec := if c.log.length < 65536 then { c with log := c.log ++ [record] } else { c with logFull := true } }

/-- An event record (R447): code, slot, time, session, parameters, digest of the data. -/
def State.measure (s : State) (code slot session : Nat) (params : List Byte) (digest : Option (BitVec 256)) : State :=
  s.extend slot (toBytesBE 2 code ++ toBytesBE 1 slot ++ toBytesBE 1 0 ++ s.time.bytesBE ++ toBytesBE 4 session ++ params
    ++ toBytesBE 32 ((digest.map (·.toNat)).getD 0))

/-! ### Sessions -/

def State.session? (s : State) (n : Nat) : Option Session := s.host.sessions.find? (·.num == n)
def State.modHost (s : State) (f : HostState → HostState) : State := { s with host := f s.host }
def State.modSession (s : State) (n : Nat) (f : Session → Session) : State :=
  s.modHost fun h => { h with sessions := h.sessions.map fun x => if x.num = n then f x else x }

/-- Whether frames leave the host port: its link is UP, and the transmit association in use has packet numbers left (R380, R382). -/
def State.hostSends (s : State) : Bool :=
  s.rf Reg.HST_STAT Reg.HST_STAT.LINK == 2
    && !(s.rbit Reg.HST_MSEC Reg.HST_MSEC.TXV && s.rf Reg.HST_TXPN Reg.HST_TXPN.PN == 2 ^ 64 - 1)

/-- A frame leaves, or is lost with the link. -/
def State.frameOut (s : State) : State :=
  let s := s.bump Reg.HST_TXF Reg.HST_TXF.FRAMES 1
  if s.rbit Reg.HST_MSEC Reg.HST_MSEC.TXV then s.bump Reg.HST_TXPN Reg.HST_TXPN.PN 1 else s
def State.transmitRaw (dest : Peer) (p : KPkt) (s : State) : State :=
  if s.hostSends then s.frameOut.modHost fun h => { h with sent := h.sent ++ [(dest, p)] } else s

/-- A session's packet as it goes out: with the session's acknowledgement (R388). -/
def Session.stamp (x : Session) (p : KPkt) : KPkt := { p with flags := p.flags ||| 1, session := x.num, ack := (x.next + 2 ^ 32 - 1) % 2 ^ 32 }

/-- Packets leave while fewer than WINDOW are unacknowledged (R389). -/
def drain (tx : Peer → KPkt → State → State) (n : Nat) : Nat → State → State
  | 0, s => s
  | f + 1, s =>
    match s.session? n with
    | none => s
    | some x => match x.txq with
      | [] => s
      | q :: l =>
        if x.window ≤ x.unacked.length then s
        else drain tx n f (tx x.peer (x.stamp q.p) (s.modSession n fun x => { x with txq := l, unacked := x.unacked ++ [q], ackOwed := false }))

/-- A packet of a session takes the next sequence number and is sent (R388). -/
def sendIn (tx : Peer → KPkt → State → State) (n : Nat) (p : KPkt) (place : Option (Nat × Nat)) (s : State) : State :=
  match s.session? n with
  | none => s
  | some _ =>
    drain tx n 1 (s.modSession n fun x => { x with
      txNext := (x.txNext + 1) % 2 ^ 32, txq := x.txq ++ [{ p := { p with session := n, seq := x.txNext }, place := place }] })

/-- Who receives an event (Table 12-8). -/
inductive To where
  | session (n : Nat)
  | operators
  | partition (p : Nat)
  | everyone
deriving DecidableEq, Repr

def Session.hears (x : Session) : To → Bool
  | .session n => x.num == n
  | .operators => x.role == 0
  | .partition p => x.role == 0 || x.part == p
  | .everyone => true

/-- An event packet (R405). -/
def State.eventPkt (s : State) (code part : Nat) (data : List Byte) : KPkt :=
  { type := 5, session := 0,
    payload := toBytesBE 2 code ++ toBytesBE 2 0 ++ toBytesBE 1 part ++ toBytesBE 3 0 ++ s.time.bytesBE ++ data }
def sendEvent (tx : Peer → KPkt → State → State) (dest : To) (code part : Nat) (data : List Byte) (place : Option (Nat × Nat)) (s : State) :
    State :=
  (s.host.sessions.filter (·.hears dest)).foldl (fun s x => sendIn tx x.num (s.eventPkt code part data) place s) s

/-- A frame leaves; with packet number 2^62 the event PN_LOW follows (R380). -/
def State.transmit (dest : Peer) (p : KPkt) (s : State) : State :=
  let low (s : State) : Bool := decide (2 ^ 62 ≤ s.rf Reg.HST_TXPN Reg.HST_TXPN.PN)
  let s1 := State.transmitRaw dest p s
  if low s1 && !low s then
    sendEvent State.transmitRaw .operators 0x50 0xF (toBytesBE 1 (s1.rf Reg.HST_MSEC Reg.HST_MSEC.TXAN) ++ toBytesBE 3 0) none s1
  else s1

/-- A packet sent in a session. -/
def State.sendPkt (s : State) (n : Nat) (p : KPkt) : State := sendIn State.transmit n p none s
/-- An event sent to sessions. -/
def State.event (s : State) (dest : To) (code part : Nat) (data : List Byte) : State := sendEvent State.transmit dest code part data none s

/-- The reply payload (R391). -/
def replyBytes (status detail : Nat) (data : List Byte) : List Byte := toBytesBE 2 status ++ toBytesBE 2 detail ++ toBytesBE 4 0 ++ data

/-- A reply to a command (R386, R391): in its session, or on session 0 to where the command came from; none when its session has ended
(R390). -/
def State.reply (s : State) (h : KHdr) (opcode flags status detail : Nat) (data : List Byte) : State :=
  let n := h.session.toNat
  let p : KPkt := { type := 2, flags := flags, session := n, opcode := opcode, tag := h.tag.toNat, payload := replyBytes status detail data }
  if n = 0 then
    let dest : Peer := ((s.host.zero.find? (·.1 == h.tag.toNat)).map (·.2)).getD {}
    State.transmit dest p s
  else s.sendPkt n p

/-! ### Commands that have started and not ended (R392, R394) -/

def State.endCommand (s : State) (h : KHdr) : State :=
  s.modSession h.session.toNat fun x => { x with running := x.running.erase h.tag.toNat }

/-- A command waits for what its last reply needs. -/
def State.hold (s : State) (h : KHdr) (opcode flags : Nat) (what : KAwait) : State :=
  (s.modHost fun x => { x with pending := x.pending ++ [{ h := h, opcode := opcode, flags := flags, what := what }] }).modSession h.session.toNat fun x =>
    { x with running := x.running ++ [h.tag.toNat] }

/-- It has come about: the last reply. -/
def State.endPending (s : State) (k : KPending) (status detail : Nat) (data : List Byte) : State :=
  ((s.modHost fun h => { h with pending := h.pending.erase k }).reply k.h k.opcode k.flags status detail data).endCommand k.h

/-- Bytes cut into runs of n, with their offsets. -/
def dataRuns (n : Nat) : Nat → Nat → List Byte → List (Nat × List Byte)
  | 0, _, _ => []
  | f + 1, off, l => if l.isEmpty then [] else (off, l.take n) :: dataRuns n f (off + n) (l.drop n)

/-- Data packets of a command: MAXDATA bytes each but the last, in ascending OFFSET (R385, R398). -/
def State.sendData (s : State) (h : KHdr) (opcode : Nat) (data : List Byte) : State :=
  match s.session? h.session.toNat with
  | none => s
  | some x => (dataRuns x.maxdata data.length 0 data).foldl (fun s (r : Nat × List Byte) =>
      s.sendPkt x.num { type := 3, session := x.num, opcode := opcode, tag := h.tag.toNat, payload := toBytesBE 8 r.1 ++ r.2 }) s

/-- The bytes of a transfer from its runs. -/
def assemble (len : Nat) (runs : List (Nat × List Byte)) : List Byte :=
  (List.range len).map fun i =>
    ((runs.findSome? fun r => if r.1 ≤ i then r.2[i - r.1]? else none)).getD 0#8

/-- How a transfer ends (R399, R460): the whole length, or DONE with the first failure. Data packets come before the reply of a MEM_READ;
DEBUG_READ has its bytes in the reply. -/
def transferEnd (opcode len : Nat) (read : Bool) (runs : List (Nat × List Byte)) (bad : Option (Nat × Nat)) :
    Nat × Nat × List Byte × List Byte :=
  let done := match bad with
    | some (o, _) => o
    | none => len
  let bytes := if read then assemble done runs else []
  let debug : Bool := opcode == 0x91 || opcode == 0x92
  match bad with
  | none => if debug then (0, 0, [], bytes) else (0, 0, bytes, [])
  | some (_, d) => if debug then (0x400, d, [], []) else (0x400, d, bytes, toBytesBE 8 done)

/-- A debug command has succeeded (R460). -/
def State.measureDebug (s : State) (opcode session : Nat) (params : List Byte) (digest : Option (BitVec 256)) : State :=
  let s := s.measure opcode 3 session params digest
  { s with sec := { s.sec with dbg := true } }

/-- Answers have come for every request of a transfer through an aperture. -/
def State.settleRemote (s : State) (k : KPending) : State :=
  match k.what with
  | .remote read len [] data bad =>
    let (status, detail, before, reply) := transferEnd k.opcode len read data bad
    let s := match k.record, bad with
      | some (params, digest), none => s.measureDebug k.opcode k.h.session.toNat params (some digest)
      | _, _ => s
    (s.sendData k.h k.opcode before).endPending k status detail reply
  | _ => s

/-- DEBUG_HALT is measured and answered when every strand that it names is in rest stop (R400, R460). -/
def State.settleHalts (s : State) : State :=
  let done (k : KPending) : Bool := match k.what with
    | .halt c m => (List.range 4).all fun i => !m.getLsbD i || (s.strand c i).run == .restStop
    | _ => false
  (s.host.pending.filter done).foldl (fun s k => match k.what with
    | .halt c m =>
      (s.measureDebug 0x90 k.h.session.toNat (toBytesBE 2 c ++ toBytesBE 1 m.toNat) none).endPending k 0 0 []
    | _ => s) s

/-! ### Notifications -/

/-- The partition of a core's work in an event: 0xF for none. -/
def State.eventPart (s : State) (k : Nat) : Nat := s.partOfCore k

/-- The event that a notification sends to the host (Table 12-8). -/
def State.noticeEvent (s : State) : Notice → State
  | .restStop k i =>
    let f (x : Fld) : Nat := s.rf (Reg.CORE_RSTOP k i) x
    s.event (.partition (s.eventPart k)) 0x10 (s.eventPart k)
      (toBytesBE 2 k ++ toBytesBE 1 i ++ toBytesBE 1 (f Reg.CORE_RSTOP.REASON) ++ toBytesBE 1 (f Reg.CORE_RSTOP.ORIG) ++ toBytesBE 3 0
        ++ toBytesBE 8 (f Reg.CORE_RSTOP.PC))
  | .memError k _ pa code =>
    if code = 4 then
      s.event (.partition (s.eventPart k)) 0x11 (s.eventPart k) (toBytesBE 8 pa ++ toBytesBE 2 (epCore k) ++ toBytesBE 6 0)
    else s
  | .sramError k st off =>
    s.event (.partition (s.eventPart k)) 0x12 (s.eventPart k)
      (toBytesBE 2 (epCore k) ++ toBytesBE 1 (match st with | .ws => 0 | .as => 1 | .ps => 2 | .qram => 3) ++ toBytesBE 1 0 ++ toBytesBE 4 off)
  | .clmError u off =>
    s.event (.partition (s.partOf u)) 0x12 (s.partOf u) (toBytesBE 2 (u * 256 + 0x31) ++ toBytesBE 1 0 ++ toBytesBE 1 0 ++ toBytesBE 4 off)
  | .translation _ | .poisoned _ _ => s

/-- A notification reaches the Cheter controller. -/
def State.note (s : State) (n : Notice) : State := ({ s with notices := s.notices ++ [n] }.noticeEvent n).settleHalts

end Sys2Proof.Machine
end

