-- ==== Sys2Proof/Machine/Ops.lean ====
section
/-! DEFINITION. Named operations over the state: local stores, strands, and taking a cause (Table 6-3), returning from one
(R179) and entering rest stop (R185). -/

namespace Sys2Proof.Machine

/-! ### Local stores (R17, R26, R200) -/

def storeSize : Store → Nat
  | .ws => 0x200000
  | .as => 0x80000
  | .ps => 0x40000
  | .qram => 0x20000

def storeOffset : Store → Nat
  | .ws => 0
  | .as => 0x800000
  | .ps => 0xC00000
  | .qram => 0xE00000

/-- Where a core's store lies: Table 1-4 for compute cores; the steward cores' stores lie outside the physical address map (R17)
and stand at keys of the model's own beyond it (log entry 12). -/
def storeBase (k : Nat) (st : Store) : Nat :=
  (if k < 480 then 0x3000000000000 + k / 40 * 0x100000000 + k % 40 * 0x1000000 else 0x10000000000000 + (k - 480) * 0x1000000)
    + storeOffset st

/-- Table 7-1. -/
def bankSize : Store → Nat
  | .ws => 0x20000
  | _ => 0x8000

/-- The store that an ST field names (Table 5-7). -/
def storeOf (c : BitVec 2) : Store :=
  match c.toNat with
  | 0 => .ws
  | 1 => .as
  | 2 => .ps
  | _ => .qram

/-- The code of a power state in a register (R222, R286). -/
def PowerState.code : PowerState → Nat
  | .off => 0
  | .starting => 1
  | .on => 2
  | .stopping => 3

def PowerState.ofCode (n : Nat) : PowerState :=
  match n with
  | 0 => .off
  | 1 => .starting
  | 2 => .on
  | _ => .stopping

/-- Where a bank's two state bits stand (Tables 7-3 and 7-4); queue RAM banks have none. -/
def bankStateAt : BankId → Option (Nat × Fld)
  | .ls k .ws n => some (Reg.CORE_LS_STATE0 k, ⟨2 * n + 1, 2 * n⟩)
  | .ls k .as n => some (Reg.CORE_LS_STATE0 k, ⟨2 * n + 33, 2 * n + 32⟩)
  | .ls k .ps n => some (Reg.CORE_LS_STATE1 k, ⟨2 * n + 1, 2 * n⟩)
  | .ls _ .qram _ => none
  | .clm u n => if n < 32 then some (Reg.CLU_CLM_STATE0 u, ⟨2 * n + 1, 2 * n⟩)
    else some (Reg.CLU_CLM_STATE1 u, ⟨2 * n - 63, 2 * n - 64⟩)

def State.bankState (s : State) (b : BankId) : PowerState :=
  match bankStateAt b with
  | none => .on
  | some (a, f) => PowerState.ofCode (s.rf a f)

/-- Whether every bank that holds a range of a store is On; the first offset that is not, otherwise (R208). -/
def State.storeOff (s : State) (k : Nat) (st : Store) (off n : Nat) : Option Nat :=
  let lo := off / bankSize st
  let hi := (off + n - 1) / bankSize st
  ((List.range (hi + 1 - lo)).map (lo + ·)).findSome? fun b =>
    if s.bankState (.ls k st b) = .on then none else some (max off (b * bankSize st))

/-! ### Strand registers -/

/-- A g register; g0 reads as zero (Table 5-3). -/
def Strand.rg (x : Strand) (r : BitVec 5) : W32 := if r = 0 then 0 else vget x.g r.toNat
/-- A g register written; writes to g0 are discarded (Table 5-3). -/
def Strand.wg (x : Strand) (r : BitVec 5) (v : W32) : Strand := if r = 0 then x else { x with g := vset x.g r.toNat v }
def Strand.ra (x : Strand) (r : BitVec 3) : W48 := vget x.a r.toNat
def Strand.wa (x : Strand) (r : BitVec 3) (v : W48) : Strand := { x with a := vset x.a r.toNat v }
def Strand.rv (x : Strand) (r : BitVec 5) : VReg := vget x.v r.toNat
def Strand.wv (x : Strand) (r : BitVec 5) (v : VReg) : Strand := { x with v := vset x.v r.toNat v }

/-- STATUS.MASK, PRIV, PRECISE and RM (Table 5-4), as in force. -/
def Strand.mask (x : Strand) : Bool := tb x.status 0
def Strand.priv (x : Strand) : Nat := fld x.status 2 1
def Strand.precise (x : Strand) : Bool := tb x.status 3
def Strand.rm (x : Strand) : Rm := Rm.ofCode (fld x.status 6 4)
/-- Whether flags raise an enabled floating-point trap (R114, R264). -/
def Strand.traps (x : Strand) (f : FpFlags) : Bool := (tb x.fpctl 1 && f.getLsbD 0) || (tb x.fpctl 2 && f.getLsbD 2)
/-- FPCTL (R111). -/
def Strand.conf (x : Strand) : Bool := tb x.fpctl 0

/-- A mode write takes effect (R189). -/
def Strand.applyMode (x : Strand) : ModeWrite → Strand
  | .status m p rm => { x with status := setFld (setBit (setBit x.status 0 m) 3 p) 6 4 rm.toNat }
  | .fp c => { x with fpctl := setFld x.fpctl 2 0 c.toNat }

/-- Every mode write still in its shadow takes effect (Table 6-3 step 1). -/
def Strand.flushModes (x : Strand) : Strand :=
  { x.shadow.foldl (fun y w => y.applyMode w.write) x with shadow := [] }

/-- One instruction of the strand has issued: mode writes that have run through their shadow take effect (R189). -/
def Strand.tickModes (x : Strand) : Strand :=
  let l := x.shadow.map fun w => { w with left := w.left - 1 }
  { (l.filter (fun w => w.left == 0)).foldl (fun y w => y.applyMode w.write) x with shadow := l.filter (fun w => w.left != 0) }

/-- A result is written (R143); sticky flags are set and never cleared (R62), a trap sets IPEND.FPT and names its unit (R114,
R173). -/
def Strand.applyEff (x : Strand) : Eff → Strand
  | .g r v => x.wg r v
  | .v r v mask => x.wv r ((x.rv r &&& ~~~ mask) ||| (v &&& mask))
  | .fp f trap u =>
    { x with fpflags := x.fpflags ||| f, fpt := x.fpt || trap, fpctl := if trap then setFld x.fpctl 5 4 u.toNat else x.fpctl }
  | .epi e => { x with epictl := e }

/-- Results due before cycle t are written, in order of their cycle and then of issue (R145). -/
def Strand.commit (t : Nat) (x : Strand) : Strand :=
  { (x.pend.takeWhile (fun p => p.due < t)).foldl (fun y p => y.applyEff p.eff) x with
    pend := x.pend.dropWhile (fun p => p.due < t) }

def insertPend (p : Pend) : List Pend → List Pend
  | [] => [p]
  | q :: l => if q.due ≤ p.due then q :: insertPend p l else p :: q :: l

/-- A result that is written at the end of cycle due (R143). -/
def Strand.later (x : Strand) (due : Nat) (e : Eff) : Strand := { x with pend := insertPend ⟨due, e⟩ x.pend }

/-- A result of distance 0 of an instruction that issued in cycle t: it is written at the end of cycle t + 3, over every result
due by then (R145). -/
def Strand.putG (x : Strand) (t : Nat) (r : BitVec 5) (v : W32) : Strand :=
  ({ x with pend := x.pend.filter fun p => match p.eff with
    | .g q _ => !(q == r && decide (p.due ≤ t + 3))
    | _ => true }).wg r v
def Strand.putV (x : Strand) (t : Nat) (r : BitVec 5) (v : VReg) : Strand :=
  ({ x with pend := x.pend.filter fun p => match p.eff with
    | .v q _ _ => !(q == r && decide (p.due ≤ t + 3))
    | _ => true }).wv r v

/-- A strand's results that are still to be written are written. -/
def Strand.settled (x : Strand) : Strand := x.commit (x.pend.foldl (fun m p => max m p.due) 0 + 1)
/-- Sticky flags that are on their way are set now; their traps come when they are due. -/
def Strand.flagsSettled (x : Strand) : Strand :=
  { x with
    fpflags := x.settled.fpflags
    pend := x.pend.map fun p => match p.eff with
      | .fp _ trap u => { p with eff := .fp 0 trap u }
      | _ => p }
/-- EPICTL written through register space. -/
def Strand.setEpi (x : Strand) (v : BitVec 18) : Strand :=
  { x with epictl := v, pend := x.pend.filter fun p => match p.eff with
    | .epi _ => false
    | _ => true }

/-- A write of SEED or CTR is made. -/
def Core.applyGen (c : Core) (w : GenWrite) : Core := if w.seed then { c with seed := w.value } else { c with ctr := w.value }
/-- The writes of SEED and CTR due before cycle t are made: after every draw of their cycle (R117). -/
def Core.commitGen (t : Nat) (c : Core) : Core :=
  { (c.gen.filter fun w => decide (w.due < t)).foldl Core.applyGen c with gen := c.gen.filter fun w => decide (t ≤ w.due) }
/-- Every write of SEED and CTR on its way is made. -/
def Core.genSettled (c : Core) : Core := { c.gen.foldl Core.applyGen c with gen := [] }
/-- SEED or CTR written by an instruction that issues in cycle t (R118, Table 5-10). -/
def Core.genLater (t : Nat) (seed : Bool) (v : W64) (c : Core) : Core := { c with gen := c.gen ++ [⟨t + 3, seed, v⟩] }
def Core.settled (c : Core) : Core := { c.genSettled with strands := c.strands.map Strand.settled }

/-- The first slot of strand i at or after a cycle (R131). -/
def firstSlot (t i : Nat) : Nat := t + (i + 4 - t % 4) % 4

/-- A core's time moves on to cycle t: results due before it are written. -/
def Core.advance (t : Nat) (c : Core) : Core :=
  { c.commitGen t with cycle := max c.cycle t, strands := c.strands.map (Strand.commit t) }

/-- A register lies in IPEND.TIMER (R171). -/
def Strand.timer (x : Strand) (cycle : Nat) : Bool := decide (x.timecmp.toNat ≤ cycle % 2 ^ 64)

/-- The enabled deferrable cause that comes first (R170, R171). -/
def Strand.deferrable (x : Strand) (cycle : Nat) : Option Nat :=
  if x.mask then none
  else if x.fpt then some 0x0B
  else if x.mbox && tb x.ienable 1 then some 0x11
  else if x.timer cycle && tb x.ienable 0 then some 0x10
  else none

/-- A counter operation whose effect may be applied already cannot be interrupted (R172). -/
def SyncOp.locked (o : SyncOp) : Bool := o.op == .add || o.op == .set

/-- Boundaries at which R172 and R183 allow a deferrable cause. -/
def Strand.boundary (x : Strand) : Bool :=
  x.delay.isNone && x.micro.isNone && !x.exiting && !(x.tile.any (·.inDelay)) && !(x.syncOp.any SyncOp.locked)

/-! ### Trace units (R461) -/

/-- The number of a counter (Table 9-1). -/
def CounterId.num : CounterId → Nat
  | .core k i => 32 * k + i
  | .shared n => 15360 + n


/-- Every running trace unit that has selected an event of a strand writes a record in its ring: event number (8 added for a wake or a
receive), PC, and the cause code, counter number or CHID. -/
def State.trace (s : State) (k i ev : Nat) (pc : W48) (extra : Nat) : State :=
  (s.traces.filter fun t => t.core == k && t.strands.getLsbD i && t.events.getLsbD (ev % 8)).foldl (fun s t =>
    let a := Reg.CHT_TRACE t.trc
    let pos := s.rf a Reg.CHT_TRACE.WPOS
    let r := (s.core k).cycle % 2 ^ 40 + 2 ^ 40 * i + 2 ^ 42 * ev + 2 ^ 48 * pc.toNat + 2 ^ 96 * (extra % 2 ^ 32)
    (s.setBytes (t.buf + 16 * pos) (toBytes 16 r)).setRf a Reg.CHT_TRACE.WPOS ((pos + 1) % (t.size * 4096))) s

/-! ### Taking a cause (R176, R177), rest stop (R185, R186), return (R179) -/

/-- What is known of a cause when it is taken (Table 6-2). -/
structure Cause where
  code : Nat
  xtval : Nat := 0
  sub : Nat := 0
  orig : Nat := 0
deriving DecidableEq, Repr

/-- The handler level (R165). -/
def handlerLevel (k : Nat) : Nat := if isSteward k then 3 else 1

/-- A counted instruction is complete when all its rows have issued and all its data has been written (R148, R86). -/
def Load.complete (l : Load) : Bool := !l.issuing && l.parts.all fun p => p.st == .written

/-- The counts of the complete instructions that no incomplete one precedes are removed (R148). -/
def Strand.dropLoads (x : Strand) : Strand := { x with loads := x.loads.dropWhile Load.complete }

/-- A tile instruction in progress is stopped: its count goes when the rows it issued are complete (R178). -/
def Strand.stopTile (x : Strand) : Strand :=
  Strand.dropLoads { x with tile := none, loads := x.loads.map fun l => { l with issuing := false } }

/-- Ready messages that are not held for a sleeper (R252, R253). -/
def Queue.free (q : Queue) : List Nat := q.ready.filter fun p => !q.held.any fun h => h.2 == p

/-- Ready messages are held for the oldest sleepers, which go on to issue their receive again from cycle X + 3 (R253). -/
def State.offer (s : State) (k q : Nat) : Nat → State
  | 0 => s
  | n + 1 =>
    let x := s.queue k q
    match x.sleepers, x.free with
    | i :: rest, p :: _ =>
      State.offer ((s.modQueue k q fun x => { x with sleepers := rest, held := x.held ++ [(i, p)] }).modStrand k i fun y =>
        { y with run := .running, nextSlot := max y.nextSlot ((s.core k).cycle + 3) }) k q n
    | _, _ => s

/-- A strand gives up its place in every queue's FIFO and any message held for it (R253). -/
def State.giveUp (s : State) (k i : Nat) : State :=
  (s.msg k).queues.foldl (fun s e =>
    if e.2.sleepers.contains i || e.2.held.any (·.1 == i) then
      (s.modQueue k e.1 fun x => { x with sleepers := x.sleepers.filter (· != i), held := x.held.filter fun h => h.1 != i }).offer k e.1 4
    else s) s

/-- Steps 1 to 9 of Table 6-3. -/
def Strand.enter (x : Strand) (k t : Nat) (xpc : W48) (ds p : Bool) (c : Cause) : Strand :=
  let y := x.flushModes.stopTile
  let f := bit y.flags.z + 2 * bit y.flags.n + 4 * bit y.flags.c + 8 * bit y.flags.v
  { y with
    xpc := xpc &&& ~~~ 3#48
    xstatus := setFld (y.status &&& 0x7F#32) 11 8 f
    xcause := BitVec.ofNat 32 (c.code + 32 * bit ds + 64 * bit p + 2 ^ 8 * (c.sub % 256) + 2 ^ 16 * (c.orig % 32))
    xtval := BitVec.ofNat 48 c.xtval
    xl0 := y.l0, xl1 := y.l1
    l0 := { y.l0 with count := 0 }, l1 := { y.l1 with count := 0 }
    xtstart := y.tstart, tstart := 0
    status := setFld (setBit y.status 0 true) 2 1 (handlerLevel k)
    pc := y.xvec
    run := .running, delay := none, micro := none, send := none, syncOp := none, waitFrom := none, ptrap := none, invDrop := false
    nextSlot := t + 8
    fpt := if c.code = 0x0B then false else y.fpt
    mbox := if c.code = 0x11 then false else y.mbox }

/-- A strand takes a cause: Table 6-3, and the count of entries (Table 6-11). -/
def State.takeCause (s : State) (k i t : Nat) (xpc : W48) (ds p : Bool) (c : Cause) : State :=
  (((s.giveUp k i).trace k i 0 xpc c.code).modStrand k i fun x => x.enter k t xpc ds p c).bump (Reg.CORE_XCOUNT k i) Reg.CORE_XCOUNT.EXC 1

/-- A strand enters rest stop (R185, R186). -/
def State.enterRest (s : State) (k i reason code orig : Nat) (pc : W48) : State :=
  let s := ((s.giveUp k i).trace k i 0 pc code).modStrand k i fun x =>
    { x.flushModes.stopTile with
      run := .restStop, pc := pc, delay := none, micro := none, send := none, syncOp := none,
      waitFrom := none, haltReq := false }
  let s := s.setReg (Reg.CORE_RSTOP k i) (BitVec.ofNat 64 (reason + 4 * code + 2 ^ 7 * orig + 2 ^ 16 * pc.toNat))
  (s.bump (Reg.CORE_XCOUNT k i) Reg.CORE_XCOUNT.RSTOPS 1).note (.restStop k i)

/-- A cause raised by a micro-op is a microcode fault (R195), counted in CLU_UC_FAULTS. -/
def State.microCause (s : State) (k : Nat) (m : MicroRun) (c : Cause) : State × Cause :=
  (s.bump (Reg.CLU_UC_FAULTS (clusterOf k)) Reg.CLU_UC_FAULTS.FAULTS 1, { code := 0x0E, xtval := c.xtval, sub := m.next, orig := c.code })

/-- A synchronous cause: vectored when MASK is 0, and a double fault otherwise (R170, R185). XPC is the branch for a delay-slot
instruction (Table 6-3 step 2). -/
def State.syncCause (s : State) (k i t : Nat) (c : Cause) : State :=
  let x := s.strand k i
  let (s, c) := match x.micro with
    | some m => s.microCause k m c
    | none => (s, c)
  let xpc := match x.delay with
    | some d => d.branch
    | none => x.pc
  if x.mask then s.enterRest k i 1 0x1F c.code xpc
  else s.takeCause k i t xpc x.delay.isSome true c

/-- The deferrable cause at a boundary, when one may be taken (R170 to R174): a precise floating-point trap names the instruction
that trapped. -/
def State.tryDeferrable (s : State) (k i t : Nat) : Option State :=
  let x := s.strand k i
  if !x.boundary then none
  else match x.deferrable t with
    | none => none
    | some code =>
      let c : Cause := { code := code, xtval := if code = 0x0B then (x.ptrap.getD 0).toNat else 0 }
      some (s.takeCause k i t x.pc false (code == 0x0B && x.ptrap.isSome) c)

/-- The rounding mode that the status word holds after a write of a code (R55). -/
def heldRm (code : Nat) : Nat := if code < 6 then code else 0

/-- XRET's steps (R179). -/
def Strand.xret (x : Strand) (k : Nat) : Strand :=
  let y := x.flushModes
  let pr := fld y.xstatus 2 1
  let pr := if pr = 2 ∨ (pr = 3 ∧ !isSteward k) then 1 else pr
  { y with
    status := setFld (setFld (y.xstatus &&& 0x7F#32) 2 1 pr) 6 4 (heldRm (fld y.xstatus 6 4))
    flags := { z := tb y.xstatus 8, n := tb y.xstatus 9, c := tb y.xstatus 10, v := tb y.xstatus 11 }
    l0 := y.xl0, l1 := y.xl1, tstart := y.xtstart, pc := y.xpc }

end Sys2Proof.Machine
end

