-- ==== Sys2Proof/Machine/Activation.lean ====
section
/-! DEFINITION. The activation table and the epilogue chain (R119 to R129). -/

namespace Sys2Proof.Machine

/-! ### The activation table (Table 4-6) -/

/-- A word of a slot after reset (Table 4-7). The coefficients are free values: R128 gives accuracies only. -/
def actDefaultWord (n off : Nat) : W32 :=
  if 0x20 ≤ off then Config.actDefault n ((off - 0x20) / 16) ((off - 0x20) / 4 % 4)
  else match off with
    | 0x00 => if n ≤ 3 then 1 else if n = 4 then 2 else if n = 5 then 3 else 0
    | 0x04 => if n ≤ 1 then 0xBF800000#32 else if n = 2 then 0xC1000000#32 else 0xC1800000#32
    | 0x08 => BitVec.ofInt 32 (if n ≤ 1 then -5 else if n = 2 then -2 else -1)
    | 0x0C => 0x3FB8AA3B#32
    | 0x10 => if n = 1 then 0x3C23D70A#32 else 0
    | 0x18 => 0x3F800000#32
    | _ => 0

/-- The 32-bit word at an offset of slot n. -/
def ActSlot.word (a : ActSlot) (n off : Nat) : W32 :=
  match a.bytes with
  | some b => BitVec.ofNat 32 (b.toNat >>> (8 * off))
  | none => actDefaultWord n off

/-- MODE of a valid slot. -/
inductive ActMode where
  | lin | exp2 | rsq
deriving DecidableEq, Repr

/-- Whether a word is a finite FP32 value. -/
def f32Finite (w : W32) : Bool := (FFmt.fp32.decode w.toNat).isFin

/-- LO + 64w as an exact value. -/
def linEnd (lo : W32) (l : Int) : Val := (Val.add false (FFmt.fp32.decode lo.toNat) (.fin false 1 (l + 6))).1

/-- Whether contents that VTLOAD brings make the slot valid, and its mode (R129). -/
def loadedMode (word : Nat → W32) : Option ActMode :=
  let coeffs := (List.range 256).all fun i => f32Finite (word (0x20 + 4 * i))
  let l := (word 0x08).toInt
  match (word 0x00).toNat with
  | 1 =>
    if coeffs && [0x04, 0x10, 0x14, 0x18, 0x1C].all (fun o => f32Finite (word o)) && decide (-20 ≤ l) && decide (l ≤ 20)
      && (FFmt.fp32.decode (FFmt.fp32.round true .rne false 0 (linEnd (word 0x04) l)).1).isFin then some .lin else none
  | 2 =>
    if coeffs && f32Finite (word 0x0C) && !(FFmt.fp32.decode (word 0x0C).toNat).isZero then some .exp2 else none
  | 3 => if coeffs then some .rsq else none
  | _ => none

/-- The mode of slot n; none when it is invalid (R125, R128, R129). -/
def ActSlot.mode (a : ActSlot) (n : Nat) : Option ActMode :=
  match a.bytes with
  | some _ => loadedMode (a.word n)
  | none => if n ≤ 3 then some .lin else if n = 4 then some .exp2 else if n = 5 then some .rsq else none

/-! ### Evaluation (R126, R127) -/

/-- A rounding into FP32 under the strand's mode, with the flags so far. -/
def f32r (conf : Bool) (rm : Rm) (r : Nat) (v : Val × FpFlags) : Val × FpFlags :=
  let (b, f) := FFmt.fp32.round conf rm false r v.1
  (FFmt.fp32.decode b, v.2 ||| f)

/-- The last rounding of a chain: its mode and the bits drawn for SR. -/
structure LastRm where
  rm : Rm
  r : Nat
deriving DecidableEq, Repr

def LastRm.rto : LastRm := ⟨.rto, 0⟩

/-- One FMA rounded into FP32. -/
def fma32 (conf : Bool) (l : LastRm) (x y z : Val × FpFlags) : Val × FpFlags :=
  let (v, f) := Val.fma (l.rm == .rdn) x.1 y.1 z.1
  f32r conf l.rm l.r (v, f ||| x.2 ||| y.2 ||| z.2)

/-- The Horner evaluation of a segment (R126); the last FMA rounds as `l` says. -/
def actHorner (conf : Bool) (l : LastRm) (c : Nat → Val × FpFlags) (t : Val × FpFlags) : Val × FpFlags :=
  let t0 : Val × FpFlags := (t.1, 0#6)
  fma32 conf l (fma32 conf .rto (fma32 conf .rto (c 3) t (c 2)) t0 (c 1)) t0 (c 0)

/-- The value times 2^k, exactly. -/
def Val.scale (v : Val) (k : Int) : Val :=
  match v with
  | .fin neg m e => .fin neg m (e + k)
  | v => v

/-- The floor of a finite value. -/
def Val.floor : Val → Int
  | .fin neg m e => (if neg then -(m : Int) else m) * 2 ^ e.toNat / 2 ^ (-e).toNat
  | _ => 0

/-- x - i, exactly. -/
def Val.subInt (v : Val) (i : Int) : Val := (Val.add false v (Val.ofInt (-i))).1

/-- LIN for a finite x. -/
def actLin (conf : Bool) (l : LastRm) (word : Nat → W32) (c : Nat → Nat → Val × FpFlags) (x : Val × FpFlags) : Val × FpFlags :=
  let get (o : Nat) := FFmt.fp32.read conf (word o).toNat
  let (lo, f) := get 0x04
  let w := (word 0x08).toInt
  let x := (x.1, x.2 ||| f)
  if x.1.lt lo then fma32 conf l (get 0x10) x (get 0x14)
  else if !x.1.lt (Val.add false lo (.fin false 1 (w + 6))).1 then fma32 conf l (get 0x18) x (get 0x1C)
  else
    let d := (Val.add false x.1 lo.negate).1.scale (-w)
    let seg := d.floor
    actHorner conf l (c seg.toNat) (f32r conf .rto 0 (d.subInt seg, x.2))

/-- EXP2 for a finite x: the scaling is the last step. -/
def actExp2 (conf : Bool) (l : LastRm) (word : Nat → W32) (c : Nat → Nat → Val × FpFlags) (x : Val × FpFlags) : Val × FpFlags :=
  let (pre, g) := FFmt.fp32.read conf (word 0x0C).toNat
  let (p, h) := Val.mul x.1 pre
  let (y, f) := f32r conf .rto 0 (p, x.2 ||| g ||| h)
  if !y.lt (.fin false 128 0) then (.inf false, f ||| FpFlags.of ||| FpFlags.nx)
  else if y.lt (.fin true 150 0) then (.fin false 0 0, f ||| FpFlags.uf ||| FpFlags.nx)
  else
    let k := y.floor
    let u := (y.subInt k).scale 6
    let seg := u.floor
    let (v, fl) := actHorner conf .rto (c seg.toNat) (u.subInt seg, f)
    f32r conf l.rm l.r (v.scale k, fl)

/-- RSQ for a finite x: the scaling by a power of two is exact, so that the last FMA is the last rounding. -/
def actRsq (conf : Bool) (l : LastRm) (c : Nat → Nat → Val × FpFlags) (x : Val × FpFlags) : Val × FpFlags :=
  match x.1 with
  | .fin neg 0 _ => (.inf neg, x.2 ||| FpFlags.dz)
  | .fin true _ _ => (.nan false, x.2 ||| FpFlags.nv)
  | .fin false m e =>
    let top : Int := (ilog2 m : Int) + e
    let k := top / 2
    let u := (Val.fin false m e).scale (-(2 * k))
    let low := u.lt (.fin false 2 0)
    let d := if low then (u.subInt 1).scale 5 else (u.subInt 2).scale 4
    let j := d.floor
    let (v, f) := actHorner conf l (c (if low then j.toNat else 32 + j.toNat)) (d.subInt j, x.2)
    f32r conf l.rm l.r (v.scale (-k), f)
  | v => (v, x.2)

/-- An activation of a value read under the strand's mode (R126, R127). -/
def actEval (a : ActSlot) (n : Nat) (conf : Bool) (l : LastRm) (x : Val × FpFlags) : Val × FpFlags :=
  let word := a.word n
  let c (g i : Nat) : Val × FpFlags := FFmt.fp32.read conf (word (0x20 + 16 * g + 4 * i)).toNat
  let f32 (o : Nat) : Val × FpFlags := FFmt.fp32.read conf (word o).toNat
  match a.mode n, x.1 with
  | none, _ => (.nan false, x.2 ||| FpFlags.nv)
  | some _, .nan s => (.nan false, x.2 ||| FpFlags.when s FpFlags.nv)
  | some .lin, .inf neg =>
    let (k, f) := f32 (if neg then 0x10 else 0x18)
    let (b, g) := f32 (if neg then 0x14 else 0x1C)
    if k.isZero then (b, x.2 ||| f ||| g) else (.inf (k.neg? != neg), x.2 ||| f)
  | some .exp2, .inf neg =>
    if (FFmt.fp32.decode (word 0x0C).toNat).neg? = neg then (.inf false, x.2) else (.fin false 0 0, x.2)
  | some .rsq, .inf neg => if neg then (.nan false, x.2 ||| FpFlags.nv) else (.fin false 0 0, x.2)
  | some .lin, .fin _ _ _ => actLin conf l word c x
  | some .exp2, .fin _ _ _ => actExp2 conf l word c x
  | some .rsq, .fin _ _ _ => actRsq conf l c x

/-! ### The epilogue chain (R119 to R121) -/

/-- Fields of EPICTL (Table 4-8). -/
def epiSen (c : BitVec 18) : Bool := tb c 0
def epiBen (c : BitVec 18) : Bool := tb c 7
def epiAen (c : BitVec 18) : Bool := tb c 14
def epiSlot (c : BitVec 18) : Nat := fld c 17 15

/-- Element j of a scale or bias (R120 step 1): FP32 in a register pair, or BF16 in one register. -/
def epiOperand (conf bf : Bool) (regs : Nat → VReg) (r j : Nat) : Val × FpFlags :=
  if bf then FFmt.bf16.read conf (elt 16 (regs r).toNat j)
  else FFmt.fp32.read conf (elt 32 (regs (2 * (r / 2) + j / 32)).toNat (j % 32))

/-- Steps 1 to 3 of R120 on one value, read under the strand's mode. `last` is the mode of the last rounding when the destination
is FP32, and RTO otherwise (R121). -/
def epiChain (conf : Bool) (ctl : BitVec 18) (regs : Nat → VReg) (a : ActSlot) (last : LastRm) (j : Nat) (v : Val × FpFlags) :
    Val × FpFlags :=
  let s := epiOperand conf (tb ctl 1) regs (fld ctl 6 2) j
  let b := epiOperand conf (tb ctl 8) regs (fld ctl 13 9) j
  let l2 := if epiAen ctl then .rto else last
  let rdn := l2.rm == .rdn
  let v2 :=
    if epiSen ctl && epiBen ctl then fma32 conf l2 v s b
    else if epiSen ctl then (let (p, f) := Val.mul v.1 s.1; f32r conf l2.rm l2.r (p, f ||| v.2 ||| s.2))
    else if epiBen ctl then (let (p, f) := Val.add rdn v.1 b.1; f32r conf l2.rm l2.r (p, f ||| v.2 ||| b.2))
    else v
  if epiAen ctl then actEval a (epiSlot ctl) conf last v2 else v2

/-- A conversion into one element of a format of Table 2-1 other than the block formats (R59 to R61). -/
def convertElt (td : Fmt) (conf : Bool) (rm : Rm) (sat : Bool) (r : Nat) (v : Val) : Nat × FpFlags :=
  match td.float?, td.int? with
  | some f, _ => f.round (f.keep conf) rm sat r v
  | none, some (sg, w) => roundInt sg w rm r v
  | none, none => (0, 0#6)

end Sys2Proof.Machine
end

