-- ==== Sys2Proof/Machine/Issue.lean ====
section
/-! DEFINITION. Issue of one instruction: the slot, the boundary before it, the checks common to all instructions, what follows
it (R131, R132, R143, R151 to R155, R164, R168, R172, R174, R177, R189). -/

namespace Sys2Proof.Machine

/-- An instruction as its body sees it: core, strand, issue cycle, first word, address and what the store's code meets. -/
structure Env where
  k : Nat
  i : Nat
  t : Nat
  word : Nat
  ecc : Option Bool := none
deriving DecidableEq, Repr

/-- What an instruction's body answers. -/
inductive Res where
  /-- It completes; the strand goes on. -/
  | done (s : State)
  /-- It completes; it can raise NV or OF: distance of its result and whether it raises an enabled trap (R174). -/
  | fp (s : State) (d : Nat) (trap : Bool)
  /-- A matrix instruction has joined the unit's queue (R88, R174). -/
  | mx (s : State)
  /-- A branch: the delay slot comes next, then the target when it is taken; the link register; the registers that the delay slot
  must not write (R152). -/
  | branch (s : State) (next : Option W48) (link : Option (BitVec 5)) (guards : List (BitVec 5))
  /-- It completes and the strand goes on at an address (LOOP with count zero). -/
  | goto (s : State) (next : W48)
  /-- XRET (R179). -/
  | ret (s : State)
  /-- RSTOP (R182). -/
  | rest (s : State)
  /-- SEXIT, or an instruction that goes on in later slots: PC stays. -/
  | stay (s : State)
  /-- It does not issue and holds its strand Waiting in its slot. -/
  | hold (s : State) (why : WaitWhy) (lost : Option Lost)
  /-- It issued and holds its strand until it is satisfied (WAITL, WAITM, counter operations). -/
  | wait (s : State) (r : Run) (lost : Option Lost)
  /-- It raises a synchronous cause and changes nothing (R167). -/
  | trap (c : Cause)
  /-- It raises a synchronous cause and changes nothing but the register that records an illegal shape (R87). -/
  | shape (s : State) (c : Cause)
  /-- It raises a synchronous cause that is detected after its issue: the slot from which entry counts (R177, R275). -/
  | late (s : State) (c : Cause) (t : Nat)
  /-- The whole effect has been made already. -/
  | settled (s : State)

/-- What the common checks need of an instruction: length, whether it branches, is LOOP, sets flags, may not stand in a delay slot
or at LnE, the g registers it writes, and whether a field that it does not use is not zero (R142). -/
structure Info where
  len : Nat := 4
  misfit : Bool := false
  branch : Bool := false
  noDelay : Bool := false
  noLast : Bool := false
  setsFlags : Bool := false
  writes : List (BitVec 5) := []
deriving DecidableEq, Repr

/-- Illegal instruction (Table 6-2). -/
def illegal (e : Env) : Res := .trap { code := 0x01, xtval := e.word }
/-- Privileged instruction (Table 6-2). -/
def privileged (e : Env) : Res := .trap { code := 0x02, xtval := e.word }

/-- Whether a loop is active and ends at an address. -/
def LoopReg.endsAt (l : LoopReg) (pc : W48) : Bool := l.count != 0 && l.last == pc

/-- Whether some active loop ends at the strand's PC. -/
def Strand.atLast (x : Strand) : Bool := x.l0.endsAt x.pc || x.l1.endsAt x.pc

/-- The loop decision after the instruction at PC (R154): L1 first, L0 only when L1 falls through. -/
def Strand.loopDecide (x : Strand) (fall : W48) : Strand :=
  let low (y : Strand) : Strand :=
    if y.l0.endsAt x.pc then
      (if y.l0.count.toNat ≥ 2 then { y with l0 := { y.l0 with count := y.l0.count - 1 }, pc := y.l0.first }
       else { y with l0 := { y.l0 with count := 0 }, pc := fall })
    else { y with pc := fall }
  if x.l1.endsAt x.pc then
    (if x.l1.count.toNat ≥ 2 then { x with l1 := { x.l1 with count := x.l1.count - 1 }, pc := x.l1.first }
     else low { x with l1 := { x.l1 with count := 0 } })
  else low x

/-- Where the strand goes after a completed instruction: past its delay slot to the branch's continuation, or by the loop decision
(R151, R154). -/
def Strand.goOn (x : Strand) (fall : W48) : Strand :=
  match x.delay with
  | some d =>
    let y := { x with pc := d.next.getD fall, delay := none }
    match d.link with
    | some r => y.wg r (fall.setWidth 32)
    | none => y
  | none => x.loopDecide fall

/-- A completed instruction or micro-op is left behind: the next micro-op follows within a CUSTOM sequence, and the instruction
after the CUSTOM when it was the last (R193). -/
def Strand.stepPast (x : Strand) (len : Nat) : Strand :=
  match x.micro with
  | some m => if m.next < m.len then { x with micro := some { m with next := m.next + 1 } } else { x with micro := none }.goOn (x.pc + 4)
  | none => x.goOn (x.pc + BitVec.ofNat 48 len)

/-- The checks that hold for every instruction and raise illegal instruction (R137, R142, R152, R155, R181, R183, R191). -/
def Strand.forbids (x : Strand) (info : Info) (w : Who) : Bool :=
  w.rsvd || info.misfit
  || (match x.delay with
      | some d => info.branch || info.noDelay || info.setsFlags || info.writes.any (fun r => d.guards.contains r)
      | none => false)
  || (x.atLast && (info.branch || x.delay.isSome || info.noLast))

/-- The register that counts the slots a strand loses (Table 5-15, Table 7-3, Table 8-13). -/
def Lost.at (k i : Nat) : Lost → Nat × Fld
  | .loads => (Reg.CORE_WAIT k i, Reg.CORE_WAIT.LOADW)
  | .matrix => (Reg.CORE_WAIT k i, Reg.CORE_WAIT.MATW)
  | .icache => (Reg.CORE_IC_MISSES k, Reg.CORE_IC_MISSES.WAIT)
  | .storeQueue => (Reg.CORE_LS_RETRY k, Reg.CORE_LS_RETRY.STQ)
  | .send => (Reg.CORE_MSG_STALL k, Reg.CORE_MSG_STALL.WAITS)

/-- The slots lost since the strand began to wait are counted. -/
def State.countLost (s : State) (k i t : Nat) : State :=
  match (s.strand k i).waitFrom with
  | none => s
  | some (t0, l) =>
    let (a, f) := l.at k i
    (s.bump a f ((t - t0) / 4)).modStrand k i fun x => { x with waitFrom := none }

/-- The slot in which a command's instruction would issue: the strand's first slot that is not before the command's cycle, the
core's time and the strand's own earliest slot (R131, R177). -/
def State.slotFor (s : State) (k i cycle : Nat) : Nat := firstSlot (max (max cycle (s.core k).cycle) (s.strand k i).nextSlot) i

/-- An instruction has issued in cycle t: CORE_ISSUE counts it, modes in their shadow move on, its slot is used (R131, R164,
R189). -/
def State.issued (s : State) (k i t : Nat) : State :=
  (s.modStrand k i fun x => { x.tickModes with nextSlot := t + 4 }).bump (Reg.CORE_ISSUE k i) Reg.CORE_ISSUE.ISSUED 1

/-- A strand waits from a slot on. -/
def State.setRun (s : State) (k i : Nat) (r : Run) (lost : Option (Nat × Lost)) : State :=
  s.modStrand k i fun x => { x with run := r, waitFrom := lost }

/-- What an instruction's answer makes of the strand. s0 is the state in which the body ran. -/
def State.settle (s0 : State) (e : Env) (len : Nat) (r : Res) : State :=
  let x0 := s0.strand e.k e.i
  let fall := x0.pc + BitVec.ofNat 48 len
  let go (s : State) : State := (s.modStrand e.k e.i fun x => x.stepPast len).issued e.k e.i e.t
  match r with
  | .done s => go s
  | .fp s d trap =>
    if x0.precise then
      (go s).modStrand e.k e.i fun x =>
        { x with nextSlot := firstSlot (e.t + 4 * d + 4) e.i, ptrap := if trap && !x0.mask && x0.micro.isNone then some x0.pc else x.ptrap }
    else go s
  | .mx s => if x0.precise then (go s).setRun e.k e.i (.waiting .serial) none else go s
  | .branch s next link guards =>
    let s := if next.isSome then s.trace e.k e.i 1 x0.pc 0 else s
    (s.modStrand e.k e.i fun x => { x with pc := fall, delay := some ⟨x0.pc, next, link, guards⟩ }).issued e.k e.i e.t
  | .goto s next => (s.modStrand e.k e.i fun x => x.goOn next).issued e.k e.i e.t
  | .ret s => (s.modStrand e.k e.i fun x => { (x.xret e.k) with nextSlot := e.t + 8 }).bump (Reg.CORE_ISSUE e.k e.i)
      Reg.CORE_ISSUE.ISSUED 1
  | .rest s =>
    ((s.modStrand e.k e.i fun x => { x with nextSlot := e.t + 4 }).bump (Reg.CORE_ISSUE e.k e.i) Reg.CORE_ISSUE.ISSUED 1).enterRest
      e.k e.i 3 0 0 fall
  | .stay s => s.issued e.k e.i e.t
  | .hold s why lost => s.setRun e.k e.i (.waiting why) (lost.map (e.t, ·))
  | .wait s run lost =>
    let s := match run with
      | .sleeping (.counter c) => s.trace e.k e.i 2 x0.pc c.num
      | _ => s
    (s.issued e.k e.i e.t).setRun e.k e.i run (lost.map (e.t + 4, ·))
  | .trap c => s0.syncCause e.k e.i e.t c
  | .settled s => s
  | .shape s c => s.syncCause e.k e.i e.t c
  | .late s c t => (s.issued e.k e.i e.t).syncCause e.k e.i t c

/-- A command names a strand that exists (R10, R16). -/
def whoOk (w : Who) : Bool := decide (w.core < 484) && decide (w.strand < 4)

/-- Only a Running strand issues (R132), and no instruction enters a CUSTOM sequence or a tile instruction in progress. -/
def Strand.ready (x : Strand) : Bool := x.run == .running && !x.exiting && x.micro.isNone && x.tile.isNone

/-- A strand stops for a capture, a restore or a reset of its cluster at a boundary at which it may take a deferrable cause (R417 step 1,
R425, R434). -/
def State.heldByPause (s : State) (k i : Nat) : Bool :=
  let u := clusterOf k
  (s.net.paused.contains u || (decide (u < 12) && fld (s.reg Reg.ID_CLU_STATE) (5 * u + 2) (5 * u) == 3)) && (s.strand k i).boundary

/-- The state in which an instruction's body runs: time is at its slot, earlier results due are written. -/
def State.atSlot (s : State) (k i t : Nat) : State := (s.modCore k (Core.advance t)).countLost k i t

/-- Issue of one instruction (R131, R132): the boundary before it may take a deferrable cause (R168) or an operator halt (R185)
instead. -/
def issue (w : Who) (info : Info) (body : Env → State → Res) (s : State) : State :=
  if !whoOk w || !(s.strand w.core w.strand).ready || s.heldByPause w.core w.strand then s
  else
    let t := s.slotFor w.core w.strand w.cycle
    let s1 := s.atSlot w.core w.strand t
    let x := s1.strand w.core w.strand
    let e : Env := ⟨w.core, w.strand, t, w.word.toNat, w.ecc⟩
    if x.haltReq && x.boundary then s1.enterRest w.core w.strand 2 0 0 x.pc
    else match s1.tryDeferrable w.core w.strand t with
    | some s2 => s2
    | none => if x.forbids info w then s1.settle e info.len (illegal e) else s1.settle e info.len (body e s1)

end Sys2Proof.Machine
end

