-- ==== Sys2Proof/Machine/Operands.lean ====
section
/-! DEFINITION. Operand forms of the memory instructions: address registers, their modes, effective addresses, updates and access
sizes (R156 to R159). -/

namespace Sys2Proof.Machine

/-- ACTL fields (Table 5-12). -/
def actlMode (c : W32) : Nat := fld c 1 0
def actlZ (c : W32) : Nat := fld c 4 2
def actlW (c : W32) : Nat := fld c 8 5
def actlLen (c : W32) : Nat := fld c 31 9

/-- What a write of ACTL stores (R156). -/
def actlStore (c : W32) : W32 :=
  if actlMode c = 3 ∨ actlZ c > 4 ∨ (actlMode c = 2 ∧ actlW c = 0) then setFld c 1 0 0 else c

/-- The buffer base of an address register (R156). -/
def bufferBase (a : W48) (base : W32) : W48 := setFld a 31 0 base.toNat

/-- a + delta corrected once into a modulo buffer (R157). -/
def moduloStep (a b : W48) (len : Nat) (d : Int) : W48 :=
  let t := a + BitVec.ofInt 48 d
  if len = 0 then t
  else if (b + BitVec.ofNat 48 len).toNat ≤ t.toNat then t - BitVec.ofNat 48 len
  else if t.toNat < b.toNat then t + BitVec.ofNat 48 len
  else t

/-- The bit-reversed update (R157). -/
def bitrevStep (a b : W48) (z w : Nat) (d : Int) : W48 :=
  let off := a - b
  let i := fld off (z + w - 1) z
  let j := wrap w (d / (2 ^ z : Nat))
  let i' := revBits w ((revBits w i + revBits w j) % 2 ^ w)
  b + setFld off (z + w - 1) z i'

/-- An update of an address register by an increment under its mode (R157). -/
def updateAddr (a : W48) (base ctl : W32) (d : Int) : W48 :=
  match actlMode ctl with
  | 1 => moduloStep a (bufferBase a base) (actlLen ctl) d
  | 2 => bitrevStep a (bufferBase a base) (actlZ ctl) (actlW ctl) d
  | _ => a + BitVec.ofInt 48 d

/-- An offset address: corrected once into a modulo buffer, otherwise the plain sum (R158). -/
def offsetAddr (a : W48) (base ctl : W32) (d : Int) : W48 :=
  if actlMode ctl = 1 then moduloStep a (bufferBase a base) (actlLen ctl) d else a + BitVec.ofInt 48 d

/-- Access size in bytes (Table 5-14). -/
def accessSize (sz : BitVec 3) : Nat :=
  match sz.toNat with
  | 0 | 1 => 1
  | 2 | 3 => 2
  | 4 => 4
  | 5 => 8
  | _ => 128

/-- The increment that D gives (Table 5-13): an immediate count of access units, or a g register. -/
def OpM.delta (x : Strand) (am : BitVec 2) (d : BitVec 11) (s : Nat) : Int :=
  if am.getLsbD 0 then (x.rg (d.setWidth 5)).toInt else d.toInt * s

/-- A register form of D has reserved bits above the register number (Table 5-7). -/
def formBad (am : BitVec 2) (d : BitVec 11) : Bool := am.getLsbD 0 && decide (32 ≤ d.toNat)

/-- The effective address and the updated address register, if the form updates it (Table 5-13). -/
def effAddr (x : Strand) (an : BitVec 3) (am : BitVec 2) (d : BitVec 11) (s : Nat) : W48 × Option W48 :=
  let a := x.ra an
  let base := vget x.abase an.toNat
  let ctl := vget x.actl an.toNat
  let dl := OpM.delta x am d s
  if am.getLsbD 1 then (a, some (updateAddr a base ctl dl)) else (offsetAddr a base ctl dl, none)

/-- The address register after an access that raised no exception (R158). -/
def Strand.postModify (x : Strand) (an : BitVec 3) (u : Option W48) : Strand :=
  match u with
  | some a => x.wa an a
  | none => x

/-- The field checks common to LDL, STL, LD and ST (Table 5-7, Table 5-14). -/
def sizeBad (o : OpM) : Bool :=
  o.sz == 7#3 || (o.sz == 5#3 && decide (8 ≤ o.rt.toNat)) || formBad o.am o.d

/-- The number that a load puts into a g register (Table 5-14). -/
def loadExtend (sz : BitVec 3) (data : Nat) : W32 :=
  match sz.toNat with
  | 1 => (BitVec.ofNat 8 data).signExtend 32
  | 3 => (BitVec.ofNat 16 data).signExtend 32
  | _ => BitVec.ofNat 32 data

/-- Whether a size sign-extends. -/
def sizeSigned (sz : BitVec 3) : Bool := sz == 1#3 || sz == 3#3

/-- Where a load of a size writes (Table 5-14). -/
def loadDst (o : OpM) : LoadDst :=
  match o.sz.toNat with
  | 5 => .a (o.rt.setWidth 3)
  | 6 => .v o.rt
  | _ => .g o.rt (sizeSigned o.sz)

/-- The g registers that a load of a size writes, for the check of R152. -/
def loadWrites (o : OpM) : List (BitVec 5) := if o.sz.toNat < 5 then [o.rt] else []

/-- The bytes that a store of a size writes (Table 5-14). -/
def storeBytes (x : Strand) (o : OpM) : List Byte :=
  match o.sz.toNat with
  | 5 => toBytes 8 (x.ra (o.rt.setWidth 3)).toNat
  | 6 => toBytes 128 (x.rv o.rt).toNat
  | _ => toBytes (accessSize o.sz) (x.rg o.rt).toNat

end Sys2Proof.Machine
end

