-- ==== Sys2Proof/Machine/Reduce.lean ====
section
/-! DEFINITION. Combining vectors: moment records (R106, R108) and the reduction operations of Table 8-12 (R260, R261). -/

namespace Sys2Proof.Machine

/-- Rounded once into FP64 by RNE, with the flags that the operation and the rounding raise. -/
def r64 (v : Val × FpFlags) : Val × FpFlags :=
  let (b, f) := FFmt.fp64.round true .rne false 0 v.1
  (FFmt.fp64.decode b, v.2 ||| f)

/-- A moment record (Table 4-5): count, mean and M2. -/
structure Rec where
  n : Nat
  mean : Nat
  m2 : Nat
deriving DecidableEq, Repr

/-- Record q of a vector register. -/
def Rec.get (v : VReg) (q : Nat) : Rec := ⟨elt 32 v.toNat (4 * q), elt 32 v.toNat (4 * q + 1), elt 32 v.toNat (4 * q + 2)⟩

/-- A vector register with record q written; word 3 is written as zero (R106). -/
def Rec.put (v : VReg) (q : Nat) (r : Rec) : VReg :=
  BitVec.ofNat 1024 (setElt 128 v.toNat q (r.n % 2 ^ 32 + 2 ^ 32 * (r.mean % 2 ^ 32) + 2 ^ 64 * (r.m2 % 2 ^ 32)))

/-- How FP32 fields are read and written: under a strand's mode, or in the network, which keeps subnormals and treats every NaN as
quiet (R108, R260). -/
structure F32Mode where
  conf : Bool
  net : Bool
deriving DecidableEq, Repr

def F32Mode.read (m : F32Mode) (w : Nat) : Val × FpFlags :=
  if m.net then (match FFmt.fp32.decode w with
    | .nan _ => (.nan false, 0#6)
    | v => (v, 0#6))
  else FFmt.fp32.read m.conf w

def F32Mode.write (m : F32Mode) (v : Val) : Nat × FpFlags :=
  FFmt.fp32.round (m.net || m.conf) .rne false 0 v

/-- merge(a, b) of R108; every step in FP64 by RNE. -/
def Rec.merge (m : F32Mode) (a b : Rec) : Rec × FpFlags :=
  if a.n = 0 then (b, 0#6)
  else if b.n = 0 then (a, 0#6)
  else
    let (am, f1) := m.read a.mean
    let (bm, f2) := m.read b.mean
    let (a2, f3) := m.read a.m2
    let (b2, f4) := m.read b.m2
    let n := a.n + b.n
    let nv := Val.ofInt n
    let (d, g1) := r64 (Val.add false bm am.negate)
    let (w, g2) := r64 (Val.div (Val.ofInt b.n) nv)
    let (mu, g3) := r64 (Val.fma false d w am)
    let (wa, g4) := r64 (Val.mul (Val.ofInt a.n) w)
    let (s, g5) := r64 (Val.add false a2 b2)
    let (q, g6) := r64 (Val.mul d d)
    let (m2, g7) := r64 (Val.fma false q wa s)
    let (muB, h1) := m.write mu
    let (m2B, h2) := m.write m2
    (⟨min n 0xFFFFFFFF, muB, m2B⟩,
      f1 ||| f2 ||| f3 ||| f4 ||| g1 ||| g2 ||| g3 ||| g4 ||| g5 ||| g6 ||| g7 ||| h1 ||| h2
        ||| sigFlag [am, bm, a2, b2] ||| FpFlags.when (decide (n > 0xFFFFFFFF)) FpFlags.nv)

/-- The reduction operations (Table 8-12); none for the reserved codes. -/
inductive Rop where
  | sumF32 | sumF64 | sumS32 | ssq | maxF32 | minF32 | maxS32 | minS32 | mom
deriving DecidableEq, Repr

def Rop.ofCode (n : Nat) : Option Rop :=
  match n with
  | 0 => some .sumF32 | 1 => some .sumF64 | 2 => some .sumS32 | 3 => some .ssq | 4 => some .maxF32 | 5 => some .minF32
  | 6 => some .maxS32 | 7 => some .minS32 | 8 => some .mom | _ => none

/-- A float lane read with every NaN quiet (R260). -/
def netRead (f : FFmt) (w : Nat) : Val :=
  match f.decode w with
  | .nan _ => .nan false
  | v => v

/-- The larger or smaller of two values; NaN if either is one; -0 below +0 (R104). -/
def Val.pick (big : Bool) (a b : Val) : Val :=
  if a.isNan || b.isNan then .nan false
  else if big then (if a.lt b then b else a) else (if b.lt a then b else a)

/-- One lane combined (R261). -/
def Rop.lane (r : Rop) (a b : Nat) : Nat × FpFlags :=
  match r with
  | .sumF32 => let v := Val.add false (netRead .fp32 a) (netRead .fp32 b)
    let (x, f) := FFmt.fp32.round true .rne false 0 v.1
    (x, v.2 ||| f)
  | .sumF64 | .ssq => let v := Val.add false (netRead .fp64 a) (netRead .fp64 b)
    let (x, f) := FFmt.fp64.round true .rne false 0 v.1
    (x, v.2 ||| f)
  | .sumS32 => ((a + b) % 2 ^ 32, 0#6)
  | .maxF32 => ((FFmt.fp32.round true .rne false 0 (Val.pick true (netRead .fp32 a) (netRead .fp32 b))).1, 0#6)
  | .minF32 => ((FFmt.fp32.round true .rne false 0 (Val.pick false (netRead .fp32 a) (netRead .fp32 b))).1, 0#6)
  | .maxS32 => (if signed 32 a < signed 32 b then b else a, 0#6)
  | .minS32 => (if signed 32 b < signed 32 a then b else a, 0#6)
  | .mom => (a, 0#6)

/-- Lanes of an operation and their width. -/
def Rop.shape : Rop → Nat × Nat
  | .sumF64 | .ssq => (16, 64)
  | .mom => (8, 128)
  | _ => (32, 32)

/-- Two vectors combined lane by lane, with the flags raised (R261). -/
def Rop.combine (r : Rop) (a b : VReg) : VReg × FpFlags :=
  let (n, w) := r.shape
  let parts : List (Nat × FpFlags) := (List.range n).map fun i =>
    match r with
    | .mom =>
      let (x, f) := Rec.merge ⟨true, true⟩ (Rec.get a i) (Rec.get b i)
      (x.n + 2 ^ 32 * x.mean + 2 ^ 64 * x.m2, f)
    | _ => r.lane (elt w a.toNat i) (elt w b.toNat i)
  (BitVec.ofNat 1024 (packElts w (parts.map (·.1))), parts.foldl (fun f p => f ||| p.2) 0#6)

/-- What a contribution becomes at its TAP: SSQ squares elements 0 to 15, read as FP32, exactly into FP64 (Table 8-12). -/
def Rop.contribute (r : Rop) (v : VReg) : VReg × FpFlags :=
  match r with
  | .ssq =>
    let parts := (List.range 16).map fun i =>
      let x := netRead .fp32 (elt 32 v.toNat i)
      let p := Val.mul x x
      ((FFmt.fp64.round true .rne false 0 p.1).1, p.2)
    (BitVec.ofNat 1024 (packElts 64 (parts.map (·.1))), parts.foldl (fun f p => f ||| p.2) 0#6)
  | _ => (v, 0#6)

/-- The FLG bits of a RED: NV, OF and NX (R243, R264). -/
def flgOf (f : FpFlags) : BitVec 3 := BitVec.ofNat 3 (bit (f.getLsbD 0) + 2 * bit (f.getLsbD 2) + 4 * bit (f.getLsbD 4))

/-- FLG as sticky flags (R264). -/
def flagsOfFlg (g : BitVec 3) : FpFlags :=
  FpFlags.when (g.getLsbD 0) FpFlags.nv ||| FpFlags.when (g.getLsbD 1) FpFlags.of ||| FpFlags.when (g.getLsbD 2) FpFlags.nx

end Sys2Proof.Machine
end

