-- ==== Sys2Proof/Machine/Packet.lean ====
section
/-! DEFINITION. Endpoints, routes and packets entering and crossing the mesh (R236, R237, R241 to R245, R248, R261). -/

namespace Sys2Proof.Machine

/-- The hub units of a cluster. -/
def epHub (u : Nat) : Nat := u * 256 + 0x30
def epClm (u : Nat) : Nat := u * 256 + 0x31
def epHbm (n : Nat) : Nat := n / 2 * 256 + 0x32 + n % 2
def epDdr (n : Nat) : Nat := if n < 6 then 0xC10 + n else 0xD10 + (n - 6)
def epTrail (p : Nat) : Nat := if p < 9 then 0xC00 + p else 0xD00 + (p - 9)
def siteOfEp (ep : Nat) : Nat := ep / 256
def unitOfEp (ep : Nat) : Nat := ep % 256

/-- The core whose TAP an endpoint names. -/
def coreOfEp (ep : Nat) : Option Nat := if siteOfEp ep < 12 ∧ unitOfEp ep < 40 then some (40 * siteOfEp ep + unitOfEp ep) else none

/-- A tag that no outstanding request uses. -/
def State.newTag (s : State) : Nat × State := (s.net.tags, { s with net := { s.net with tags := s.net.tags + 1 } })

/-- CLM slice of an address (R236): CLM banks 6x to 6x + 5. -/
def clmSlice (addr : Nat) : Nat := addr % 0x100000000 / 0x100000 / 6

/-- The output by which a unicast packet leaves a node (R237). -/
def routeOut (n : Node) (p : Packet) : Port :=
  let site := siteOfEp p.dst
  let unit := unitOfEp p.dst
  match n with
  | .router c r =>
    let x := r % 8
    let y := r / 8
    if site = c ∧ unit < 40 then
      (if unit % 8 > x then .e else if unit % 8 < x then .w else if unit / 8 > y then .s else if unit / 8 < y then .n else .tap)
    else if site = c ∧ unit = 0x31 then
      (if clmSlice p.addr > x then .e else if clmSlice p.addr < x then .w else .s)
    else .n
  | .hub c =>
    if site = c then (if unit < 40 then .hubPort (unit % 8) else .units)
    else if site < 12 then
      (if site % 4 > c % 4 then .e else if site % 4 < c % 4 then .w else if site / 4 > c / 4 then .s else .n)
    else if site = 0xC then (if c / 4 = 0 then .io (c % 4) else .n)
    else (if c / 4 = 2 then .io (c % 4) else .s)
  | .die south =>
    if site = (if south then 0xD else 0xC) then .units
    else if site < 12 then .io (site % 4)
    else .io (unitOfEp p.src % 4)

/-- The outputs by which a multicast packet's copies leave a node (R248, Table 8-8); a packet does not go back to where it came
from because OUT never names PARENT in a tree that follows R237. -/
def State.groupOuts (s : State) (n : Node) (g : Nat) : List Port :=
  match n with
  | .router c r =>
    let a := Reg.CLU_RT_GRP c r g
    if s.rbit a Reg.CLU_RT_GRP.V then
      [(1, Port.n), (2, .s), (3, .e), (4, .w), (5, .tap)].filterMap fun (b, q) => if tb (s.reg a) b then some q else none
    else []
  | .hub c =>
    let a := Reg.CLU_RT_HGRP c g
    if s.rbit a Reg.CLU_RT_HGRP.V then
      ((List.range 8).filterMap fun x => if tb (s.reg a) (1 + x) then some (Port.hubPort x) else none)
      ++ [(9, Port.n), (10, .s), (11, .e), (12, .w), (13, .io (c % 4))].filterMap fun (b, q) => if tb (s.reg a) b then some q else none
    else []
  | .die _ => []

def State.outsOf (s : State) (n : Node) (p : Packet) : List Port :=
  if p.mc then s.groupOuts n p.group else [routeOut n p]

/-- Whether two REDs combine (R260, R261). -/
def redMatch (p q : Packet) : Bool :=
  p.kind == .red && q.kind == .red && p.dst == q.dst && p.chid == q.chid && p.round == q.round && p.rop == q.rop && p.part == q.part

/-- The payload of a RED as a vector. -/
def Packet.vec (p : Packet) : VReg := BitVec.ofNat 1024 (ofBytes p.payload)

/-- Two vectors combined by an operation; in MOM the spec does not say which record comes first (R261), so the order is free. -/
def State.combineVec (s : State) (r : Rop) (a b : VReg) : (VReg × FpFlags) × State :=
  if r = .mom then
    let (c, s) := s.fresh
    (if c % 2 = 0 then r.combine a b else r.combine b a, s)
  else (r.combine a b, s)

/-- Two REDs combined: the vectors, CNT added, FLG ored (R261). -/
def State.redCombine (s : State) (q p : Packet) : Packet × State :=
  match Rop.ofCode p.rop with
  | none => (q, s)
  | some r =>
    let ((v, f), s) := s.combineVec r q.vec p.vec
    ({ q with payload := toBytes 128 v.toNat, cnt := (q.cnt + p.cnt) % 65536, flg := q.flg ||| p.flg ||| flgOf f }, s)

/-- Order of 32-bit counts that wrap (R254, R255). -/
def serialLe (a b : Nat) : Bool := decide ((b + 2 ^ 32 - a % 2 ^ 32) % 2 ^ 32 < 2 ^ 31)

/-- The payload of a CRD (R254): REL, FETCHED and the hamper head; the spec gives no places, these are the model's (log entry 19). -/
def crdPayload (rel fetched hpos : Nat) (hlap : Bool) : List Byte := toBytes 4 rel ++ toBytes 4 fetched ++ toBytes 8 (hpos + 2 ^ 18 * bit hlap)
def Packet.crdRel (p : Packet) : Nat := ofBytes (p.payload.take 4)
def Packet.crdFetched (p : Packet) : Nat := ofBytes ((p.payload.drop 4).take 4)
def Packet.crdHead (p : Packet) : Nat × Bool :=
  let h := ofBytes (p.payload.drop 8)
  (h % 2 ^ 18, h / 2 ^ 18 % 2 == 1)

/-- The port toward the root of a group's tree (Table 8-8). -/
def State.parentPort (s : State) (n : Node) (g : Nat) : Port :=
  match n with
  | .router c r =>
    match s.rf (Reg.CLU_RT_GRP c r g) Reg.CLU_RT_GRP.PARENT with
    | 0 => .n | 1 => .s | 2 => .e | 3 => .w | _ => .tap
  | .hub c =>
    let p := s.rf (Reg.CLU_RT_HGRP c g) Reg.CLU_RT_HGRP.PARENT
    if p < 8 then .hubPort p else (match p with
      | 8 => .n | 9 => .s | 10 => .e | 11 => .w | _ => .io (c % 4))
  | .die _ => .units

/-- Cluster of a router or hub. -/
def Node.cluster? : Node → Option Nat
  | .router c _ => some c
  | .hub c => some c
  | .die _ => none

/-- A packet takes a place in an input buffer; it takes the place of one that it updates, given by its index. -/
def State.place (s : State) (at_ : Option Nat) (x : NetPkt) : State :=
  { s with net := { s.net with flight := match at_ with
    | some j => s.net.flight.set j x
    | none => s.net.flight ++ [x] } }

/-- A multicast queue's credit reaches a router of its tree (R254): the router keeps the last REL of each branch; when the least of
them rises it reports that toward its own parent, in the CRD that still waits there if there is one. A branch that has reported
nothing counts as zero. -/
def State.creditNode (s : State) (n : Node) (inp : Port) (p : Packet) : State :=
  let g := p.group
  let net := s.net
  let rel := ((n, g, inp), p.crdRel) :: net.treeRel.filter fun e => e.1 != (n, g, inp)
  let of (q : Port) : Nat := ((rel.find? fun e => e.1 == (n, g, q)).map (·.2)).getD 0
  let branches := s.groupOuts n g
  let least := branches.foldl (fun m q => if serialLe (of q) m then of q else m) p.crdRel
  let up := ((net.treeUp.find? fun e => e.1 == (n, g)).map (·.2)).getD 0
  let s := { s with net := { net with treeRel := rel } }
  if least = up ∨ !serialLe up least then s
  else
    let out := s.parentPort n g
    let s := { s with net := { s.net with treeUp := ((n, g), least) :: s.net.treeUp.filter fun e => e.1 != (n, g) } }
    let q := { p with payload := crdPayload least p.crdFetched 0 false }
    s.place (s.net.flight.findIdx? fun x => x.node == n && x.p.kind == .crd && x.p.mc && x.p.group == g && x.outs == [out])
      ⟨q, n, inp, [out]⟩

/-- A packet enters an input buffer of a node (R240, R261). A multicast packet at a node without an entry of its group goes
nowhere. -/
def State.enterNode (s : State) (n : Node) (inp : Port) (p : Packet) : State :=
  if p.kind = .crd ∧ p.mc then s.creditNode n inp p
  else
    let outs := s.outsOf n p
    if outs.isEmpty then s
    else
      match s.net.flight.findIdx? fun x => p.kind == .red && x.node == n && x.outs == outs && redMatch x.p p with
      | none => s.place none ⟨p, n, inp, outs⟩
      | some j => match s.net.flight[j]? with
        | none => s
        | some x =>
          let (q, s) := s.redCombine x.p p
          let s := s.place (some j) { x with p := q }
          match Node.cluster? n with
          | some c => s.bump (Reg.MESH_RED_COMB c) Reg.MESH_RED_COMB.COMB 1
          | none => s

/-- Where a packet of an endpoint enters the mesh (R236, R237): a core at its router's TAP, the CLM's answers to its own cores at
the slice's router, every other unit of a cluster at its hub, the units of an I/O die at their die. -/
def injectAt (p : Packet) : Node × Port :=
  let site := siteOfEp p.src
  let unit := unitOfEp p.src
  if site < 12 then
    (if unit < 40 then (.router site unit, .tap)
     else if unit = 0x31 ∧ siteOfEp p.dst = site ∧ unitOfEp p.dst < 40 then (.router site (32 + clmSlice p.addr), .s)
     else (.hub site, .units))
  else (.die (site == 0xD), .units)

/-- A unit sends a packet. -/
def State.inject (s : State) (p : Packet) : State :=
  let (n, q) := injectAt p
  s.enterNode n q p

/-- An answer to a request (R244, R245): it carries the request's PART and TAG. The address stays with it for the CLM's slice. -/
def Packet.answer (p : Packet) (k : PKind) (payload : List Byte) (code : Nat := 0) : Packet :=
  { kind := k, part := p.part, dst := p.src, src := p.dst, tag := p.tag, addr := p.addr, code := code, payload := payload }

/-- A cluster counts a refused packet in MESH_ISO_ERR (R245, R270). -/
def State.countRefusal (s : State) (u : Nat) (p : Packet) : State :=
  let a := Reg.MESH_ISO_ERR u
  (((s.bump a Reg.MESH_ISO_ERR.COUNT 1).setRf a Reg.MESH_ISO_ERR.PART p.part).setRf a Reg.MESH_ISO_ERR.SRC p.src).setRf a
    Reg.MESH_ISO_ERR.KIND p.kind.code

/-- Kinds whose refusal is answered with ERR 0x01 (R245). -/
def PKind.answered : PKind → Bool
  | .rd | .wr | .amo | .sig | .msg | .htl | .red => true
  | _ => false

/-- Whether a cluster's hub admits a packet (R245). -/
def State.admits (s : State) (u : Nat) (p : Packet) : Bool :=
  (p.part == s.partOf u && p.part != 0xF) || (p.part == 0xF && p.src == epCheter)

/-- A hub refuses a packet (R245). -/
def State.refuse (s : State) (u : Nat) (p : Packet) : State :=
  let s := s.countRefusal u p
  if p.kind.answered then s.inject { (p.answer .err [] 0x01) with src := epHub u } else s

/-- A packet reaches its endpoint and waits there to be served. -/
def State.deliver (s : State) (ep : Nat) (p : Packet) : State := { s with net := { s.net with sinks := s.net.sinks ++ [(ep, p)] } }

/-- Where an output leads: another node's input, or an endpoint. -/
inductive Hop where
  | node (n : Node) (inp : Port)
  | sink (ep : Nat)
deriving DecidableEq, Repr

def hopOf (n : Node) (out : Port) (p : Packet) : Hop :=
  match n, out with
  | .router c r, .n => if r / 8 = 0 then .node (.hub c) (.hubPort (r % 8)) else .node (.router c (r - 8)) .s
  | .router c r, .s => if r / 8 = 4 then .sink (epClm c) else .node (.router c (r + 8)) .n
  | .router c r, .e => .node (.router c (r + 1)) .w
  | .router c r, .w => .node (.router c (r - 1)) .e
  | .router c r, _ => .sink (c * 256 + r)
  | .hub c, .hubPort x => .node (.router c x) .n
  | .hub c, .n => .node (.hub (c - 4)) .s
  | .hub c, .s => .node (.hub (c + 4)) .n
  | .hub c, .e => .node (.hub (c + 1)) .w
  | .hub c, .w => .node (.hub (c - 1)) .e
  | .hub c, .io _ => .node (.die (decide (c / 4 ≠ 0))) (.io (c % 4))
  | .hub _, _ => .sink p.dst
  | .die south, .io col => .node (.hub (if south then 8 + col else col)) (.io col)
  | .die _, _ => .sink p.dst

end Sys2Proof.Machine
end

