-- ==== Sys2Proof/Machine/Phys.lean ====
section
/-! DEFINITION. The physical address map and the memory side of an access: holes, banks, poison, DDR5 keys and tags (R26, R27, R208,
R307 to R310, R314 to R320). -/

namespace Sys2Proof.Machine

/-- What a physical address names (Table 1-4). -/
inductive Site where
  | hbm (n off : Nat)
  | ddr (n off : Nat)
  | clm (u off : Nat)
  | store (k : Nat) (st : Store) (off : Nat)
  | register (off : Nat)
  | hole
deriving DecidableEq, Repr

/-- State field of a cluster in ID_CLU_STATE (Table 1-7). -/
def State.cluField (s : State) (u : Nat) : Nat := fld (s.reg Reg.ID_CLU_STATE) (5 * u + 4) (5 * u)
def State.cluRetired (s : State) (u : Nat) : Bool := decide (s.cluField u % 8 = 4)

/-- Whether a core is in service (Table 1-6). -/
def State.coreLive (s : State) (k : Nat) : Bool := decide (k < 480) && tb (s.reg (Reg.ID_CORE_LIVE (k / 64))) (k % 64)

/-- Installed bytes of a DDR5 channel (R306, R307, Table 10-5). -/
def State.ddrBytes (s : State) (n : Nat) : Nat :=
  s.rf (Reg.DDR_STAT n) Reg.DDR_STAT.DIMMS * s.rf (Reg.DDR_STAT n) Reg.DDR_STAT.CAP * 2 ^ 35

/-- The store that an offset of a core's 16 MiB window lies in. -/
def windowStore (o : Nat) : Option (Store × Nat) :=
  if o < 0x200000 then some (.ws, o)
  else if 0x800000 ≤ o ∧ o < 0x880000 then some (.as, o - 0x800000)
  else if 0xC00000 ≤ o ∧ o < 0xC40000 then some (.ps, o - 0xC00000)
  else if 0xE00000 ≤ o ∧ o < 0xE20000 then some (.qram, o - 0xE00000)
  else none

/-- The physical address map (R26, R27, R28). -/
def State.site (s : State) (pa : Nat) : Site :=
  let o := pa % 2 ^ 48
  match pa / 2 ^ 48 with
  | 0 =>
    let n := o / 2 ^ 36
    if n < 24 ∧ tb (s.reg Reg.ID_MEM_LIVE) n then .hbm n (o % 2 ^ 36) else .hole
  | 1 =>
    let n := o / 2 ^ 39
    if n < 12 ∧ tb (s.reg Reg.ID_MEM_LIVE) (24 + n) ∧ o % 2 ^ 39 < s.ddrBytes n then .ddr n (o % 2 ^ 39) else .hole
  | 2 =>
    let u := o / 2 ^ 32
    if u < 12 ∧ o % 2 ^ 32 < 0x3000000 ∧ !s.cluRetired u then .clm u (o % 2 ^ 32) else .hole
  | 3 =>
    let u := o / 2 ^ 32
    let c := o % 2 ^ 32 / 0x1000000
    if u < 12 ∧ c < 40 ∧ s.coreLive (40 * u + c) then
      (match windowStore (o % 0x1000000) with
       | some (st, x) => .store (40 * u + c) st x
       | none => .hole)
    else .hole
  | 15 => if (blkOf o).isSome ∧ o < 0x100000000 then .register o else .hole
  | _ => .hole

/-- The enabled aperture that covers a physical address (R362). -/
def State.aperture (s : State) (pa : Nat) : Option Nat :=
  (List.range 64).find? fun a =>
    let lo := s.rf (Reg.TRL_APTA a) Reg.TRL_APTA.BASE * 65536
    s.rbit (Reg.TRL_APTA a) Reg.TRL_APTA.EN && decide (lo ≤ pa)
      && decide (pa < lo + s.rf (Reg.TRL_APTB a) Reg.TRL_APTB.PAGES * 65536)

/-- The port that the route table names for a device (R347). -/
def State.routePort (s : State) (dev : Nat) : Option Nat :=
  let p := fld (s.reg (Reg.TRL_ROUTE (dev / 8))) (8 * (dev % 8) + 7) (8 * (dev % 8))
  if p < 18 then some p else none

/-- Whether the hub of a requester admits it to an aperture (R362): a cluster's partition must be the aperture's. -/
def State.apertureAdmits (s : State) (src a : Nat) : Bool :=
  !decide (siteOfEp src < 12) || s.partOf (siteOfEp src) == s.rf (Reg.TRL_APTA a) Reg.TRL_APTA.PART

/-- The endpoint that answers a request of a unit at endpoint `from` for an address (R27, R237). -/
def State.serverOf (s : State) (src : Nat) (pa : Nat) : Nat :=
  let own := if siteOfEp src < 12 then epHub (siteOfEp src) else src
  match s.site pa with
  | .hbm n _ => match s.aperture pa with
    | none => epHbm n
    | some a => match s.routePort (s.rf (Reg.TRL_APTB a) Reg.TRL_APTB.DDEV) with
      | some p => if s.apertureAdmits src a then epTrail p else own
      | none => own
  | .ddr n _ => epDdr n
  | .clm u _ => epClm u
  | .store k _ _ => epCore k
  | .register _ => own
  | .hole =>
    let o := pa % 2 ^ 48
    if pa / 2 ^ 48 = 1 ∧ o / 2 ^ 39 < 12 then epDdr (o / 2 ^ 39)
    else if pa / 2 ^ 48 = 3 ∧ o / 2 ^ 32 < 12 ∧ o % 2 ^ 32 / 0x1000000 < 40 ∧ (windowStore (o % 0x1000000)).isSome
        ∧ !s.cluRetired (o / 2 ^ 32) then epHub (o / 2 ^ 32)
    else own

/-- The tag byte's address for a page of a DDR5 channel (R315). -/
def tagIndex (n off : Nat) : Nat := n * 2 ^ 23 + off / 65536

/-- A page's key tag, read from the primary table (R315, R316); none when not VALID or the tables are not in use (Table 10-5). -/
def State.tagSlot (s : State) (n off : Nat) : Option Nat :=
  if s.rbit Reg.DDR_TAG_BASE Reg.DDR_TAG_BASE.EN then
    let b := s.byte (s.rf Reg.DDR_TAG_BASE Reg.DDR_TAG_BASE.BASE * 2 ^ 20 + tagIndex n off)
    if tb b 6 then some (b.toNat % 64) else none
  else none

/-- Whether a running re-key job joins two slots (R317). -/
def State.rekeyJoins (s : State) (a b : Nat) : Bool :=
  let f := s.rf Reg.DDR_RK_CTL Reg.DDR_RK_CTL.FROM
  let t := s.rf Reg.DDR_RK_CTL Reg.DDR_RK_CTL.TO
  s.rbit Reg.DDR_RK_CTL Reg.DDR_RK_CTL.BUSY && ((a == f && b == t) || (a == t && b == f))

/-- The slot under which an access to a DDR5 page is served, if it is admitted (R317): key is the leaf's KEY; none for an access by
physical address. -/
def State.ddrAdmit (s : State) (n off : Nat) (key : Option Nat) : Option Nat :=
  match s.tagSlot n off with
  | none => none
  | some slot => match key with
    | none => some slot
    | some k => if k = slot ∨ s.rekeyJoins k slot then some slot else none

def State.poisoned (s : State) (unit : Nat) : Bool := s.ext.poison.contains unit

/-- The key that a unit's bytes are encrypted under (R314). -/
def State.unitKey (s : State) (unit : Nat) : Option XtsKey := Sparse.get (fun _ => none) s.ext.unitKey unit
def State.setUnitKey (s : State) (unit : Nat) (k : Option XtsKey) : State :=
  { s with ext := { s.ext with unitKey := Sparse.set (fun _ => none) s.ext.unitKey unit k } }

/-- The plaintext of one DDR5 unit under a slot's key: the bytes written under that key, and a value that the spec does not define
under any other (R314, R318). -/
def State.ddrUnit (s : State) (unit slot : Nat) : List Byte × State :=
  let key := vget s.ext.keys slot
  if key.isSome ∧ s.unitKey unit = key then (s.bytes (unit * 64) 64, s)
  else let (v, s1) := s.fresh; (toBytes 64 v, s1)

/-- Units of 64 bytes that a range touches. -/
def unitsOf (pa n : Nat) : List Nat := (List.range ((pa + n - 1) / 64 + 1 - pa / 64)).map (pa / 64 + ·)

/-- The statistics register of a memory. -/
def eccReg : ExtMem → Nat × Fld × Fld × Fld
  | .hbm n => (Reg.HBM_ECC n, Reg.HBM_ECC.CORR, Reg.HBM_ECC.UNCOR, Reg.HBM_ECC.POISON_RD)
  | .ddr n => (Reg.DDR_ECC n, Reg.DDR_ECC.CORR, Reg.DDR_ECC.UNCOR, Reg.DDR_ECC.POISON_RD)

/-- A read at the memory side: the ERR code, or the bytes (R27, R208, R309, R317). -/
def State.physRead (s : State) (pa n : Nat) (key : Option Nat) : (Nat ⊕ List Byte) × State :=
  let pois (m : ExtMem) : Option State :=
    if (unitsOf pa n).any s.poisoned then
      let (a, _, _, f) := eccReg m
      some (s.bump a f 1)
    else none
  match s.site pa with
  | .hole => (.inl 0x02, s)
  | .register _ => (.inl 0x02, s)
  | .clm u off => if s.bankState (.clm u (off / 0x100000)) = .on then (.inr (s.bytes pa n), s) else (.inl 0x03, s)
  | .store k st off => if (s.storeOff k st off n).isNone then (.inr (s.bytes pa n), s) else (.inl 0x03, s)
  | .hbm m _ => match pois (.hbm m) with
    | some s1 => (.inl 0x04, s1)
    | none => (.inr (s.bytes pa n), s)
  | .ddr m off => match s.ddrAdmit m off key with
    | none => (.inl 0x02, s)
    | some slot => match pois (.ddr m) with
      | some s1 => (.inl 0x04, s1)
      | none =>
        let (bs, s1) := (unitsOf pa n).foldl (fun (acc : List Byte × State) u =>
          let (b, s2) := acc.2.ddrUnit u slot
          (acc.1 ++ b, s2)) ([], s)
        (.inr ((bs.drop (pa % 64)).take n), s1)

/-! ### Pages (R309, R313, R315, R316, R318, R320, R420) -/

def pageBytes : Nat := 65536

/-- Pages of an external memory: the first, and how many. -/
def State.pagesOf (s : State) : ExtMem → Nat × Nat
  | .hbm n => (n * 2 ^ 20, 2 ^ 20)
  | .ddr n => (2 ^ 32 + n * 2 ^ 23, s.ddrBytes n / pageBytes)

/-- The external memory that holds a page. -/
def memOfPage (pg : Nat) : ExtMem := if pg < 2 ^ 32 then .hbm (pg / 2 ^ 20) else .ddr ((pg - 2 ^ 32) / 2 ^ 23)

/-- A page that firmware has given to nobody and has not retired. -/
def State.pageFree (s : State) (pg : Nat) : Bool := !s.ext.owned.any (·.1 == pg) && !s.ext.retired.contains pg

/-- The first free page of a ring of n pages from a place on. -/
def State.searchPage (s : State) (lo n : Nat) : Nat → Nat → Option Nat
  | 0, _ => none
  | f + 1, j => if s.pageFree (lo + j % n) then some (lo + j % n) else s.searchPage lo n f (j + 1)

/-- A page taken for an owner from an external memory; which of the free ones is firmware's choice. -/
def State.allocPage (s : State) (m : ExtMem) (owner : Nat) : Option Nat × State :=
  let (lo, n) := s.pagesOf m
  if n = 0 then (none, s)
  else
    let (h, s) := s.fresh
    match s.searchPage lo n (min n (s.ext.owned.length + s.ext.retired.length + 1)) (h % n) with
    | some pg => (some pg, { s with ext := { s.ext with owned := s.ext.owned ++ [(pg, owner)] } })
    | none => (none, s)

/-- A tag's byte written in the primary and in the mirror, and the page counts (R316, R318, R320). -/
def State.writeTag (s : State) (n page : Nat) (slot : Option Nat) : State :=
  let i := tagIndex n (page * pageBytes)
  let at_ := s.rf Reg.DDR_TAG_BASE Reg.DDR_TAG_BASE.BASE * 2 ^ 20 + i
  let old := s.byte at_
  let new : Byte := match slot with
    | some k => BitVec.ofNat 8 (64 + k)
    | none => BitVec.ofNat 8 (fld old 5 0)
  let s := if tb old 6 then
      s.setRf (Reg.KEY_CTL (fld old 5 0)) Reg.KEY_CTL.PAGES (s.rf (Reg.KEY_CTL (fld old 5 0)) Reg.KEY_CTL.PAGES - 1) else s
  let s := match slot with
    | some k => s.setRf (Reg.KEY_CTL k) Reg.KEY_CTL.PAGES (s.rf (Reg.KEY_CTL k) Reg.KEY_CTL.PAGES + 1)
    | none => s
  let s := s.setByte at_ new
  if s.rbit Reg.DDR_TAG_MIR Reg.DDR_TAG_MIR.EN then
    s.setByte (s.rf Reg.DDR_TAG_MIR Reg.DDR_TAG_MIR.BASE * 2 ^ 20 + i) new else s

/-- The tag's slot of a page of DDR5. -/
def State.pageSlot (s : State) (pg : Nat) : Option Nat :=
  match memOfPage pg with
  | .hbm _ => none
  | .ddr n => s.tagSlot n ((pg - 2 ^ 32) % 2 ^ 23 * pageBytes)

/-- One unit of a page copied; a poisoned unit gives a poisoned unit (R309). -/
def State.copyUnit (s : State) (src dst : Nat) (sslot dslot : Option Nat) : State :=
  if s.poisoned src then
    (if s.poisoned dst then s else { s with ext := { s.ext with poison := s.ext.poison ++ [dst] } })
  else
    let (b, s) := match sslot with
      | some k => s.ddrUnit src k
      | none => (s.bytes (src * 64) 64, s)
    let s := { s with ext := { s.ext with poison := s.ext.poison.filter (· != dst) } }
    let s := s.setBytes (dst * 64) b
    match dslot with
    | some k => s.setUnitKey dst (vget s.ext.keys k)
    | none => s

/-- A page copied, unit by unit. -/
def State.copyPage (s : State) (src dst : Nat) : State :=
  let a := s.pageSlot src
  let b := s.pageSlot dst
  (List.range 1024).foldl (fun s u => s.copyUnit (src * 1024 + u) (dst * 1024 + u) a b) s

/-- The aside of a guarded page (R420): its contents go to a free page of the same memory and its guard is cleared; none when no page is
free. -/
def State.makeAside (s : State) (pg part : Nat) : Option State :=
  match s.allocPage (memOfPage pg) part with
  | (none, _) => none
  | (some a, s) =>
    let s := match memOfPage pg, s.pageSlot pg with
      | .ddr n, some k => s.writeTag n ((a - 2 ^ 32) % 2 ^ 23) (some k)
      | _, _ => s
    let s := s.copyPage pg a
    some { s with ext := { s.ext with
      guards := s.ext.guards.filter fun g => !(g.1 == pg && g.2 == part), asides := s.ext.asides ++ [(pg, a, part)] } }

/-- The guards of the pages that a range touches. -/
def State.guardsOn (s : State) (pa n : Nat) : List (Nat × Nat) :=
  s.ext.guards.filter fun g => decide (pa / pageBytes ≤ g.1) && decide (g.1 ≤ (pa + n - 1) / pageBytes)

/-- Before a write of a range every guarded page of it makes its aside; none while one finds no free page (R420). -/
def State.asidesFor (s : State) (pa n : Nat) : Option State :=
  (s.guardsOn pa n).foldl (fun r g => r.bind fun s => s.makeAside g.1 g.2) (some s)

/-- An uncorrectable unit is poisoned, counted, recorded and reported (R309); in which subchannel a DDR5 unit lies the spec does not
say. -/
def State.poisonUnit (s : State) (m : ExtMem) (off : Nat) (patrol : Bool) : State :=
  let unit := ((s.pagesOf m).1 * pageBytes + off) / 64
  let s := if s.poisoned unit then s else { s with ext := { s.ext with poison := s.ext.poison ++ [unit] } }
  let (a, _, f, _) := eccReg m
  let s := s.bump a f 1
  let s := match m with
    | .hbm n =>
      let r := Reg.HBM_ERR_ADDR n
      let o := off / 64 * 64
      let pc := (((fld (BitVec.ofNat 36 o) 13 8).xor (fld (BitVec.ofNat 36 o) 19 14)).xor (fld (BitVec.ofNat 36 o) 25 20)).xor
        ((fld (BitVec.ofNat 36 o) 31 26).xor (fld (BitVec.ofNat 36 o) 35 32))
      ((s.setRf r Reg.HBM_ERR_ADDR.OFFSET o).setRf r Reg.HBM_ERR_ADDR.PC pc).setRf r Reg.HBM_ERR_ADDR.PATROL (bit patrol)
    | .ddr n =>
      let r := Reg.DDR_ERR_ADDR n
      let o := off / 64 * 64
      let (v, s) := s.fresh
      (((s.setRf r Reg.DDR_ERR_ADDR.OFFSET o).setRf r Reg.DDR_ERR_ADDR.DIMM
        (o / (s.rf (Reg.DDR_STAT n) Reg.DDR_STAT.CAP * 2 ^ 35))).setRf r Reg.DDR_ERR_ADDR.SUB v).setRf r Reg.DDR_ERR_ADDR.PATROL (bit patrol)
  s.note (.poisoned m (off / 64 * 64))

/-- Corrected units are counted (R308), and remembered for page retirement (R313). -/
def State.corrected (s : State) (m : ExtMem) (off : Nat) : State :=
  let (a, f, _, _) := eccReg m
  let s := s.bump a f 1
  { s with ext := { s.ext with corrLog := s.ext.corrLog ++ [((s.pagesOf m).1 + off / pageBytes, s.time.inNs)] } }

/-- What a memory's code meets while units of a range are accessed (R308, R309). -/
def State.extEcc (s : State) (m : ExtMem) (ecc : Ecc) (off n : Nat) (patrol : Bool) : State :=
  let here (u : Nat) : Bool := decide (off / 64 ≤ u) && decide (u ≤ (off + n - 1) / 64)
  let s := (ecc.corr.filter here).foldl (fun s u => s.corrected m (64 * u)) s
  (ecc.unc.filter here).foldl (fun s u => s.poisonUnit m (64 * u) patrol) s

/-- One unit written at an external memory: its part of the bytes; a part of a poisoned unit is not written (R309). The Bool says
that the unit was refused. -/
def State.writeUnit (s : State) (unit pa : Nat) (bytes : List Byte) (slot : Option Nat) : Bool × State :=
  let lo := max pa (unit * 64)
  let hi := min (pa + bytes.length) (unit * 64 + 64)
  let part := (bytes.drop (lo - pa)).take (hi - lo)
  if s.poisoned unit ∧ part.length < 64 then (true, s)
  else
    let s := { s with ext := { s.ext with poison := s.ext.poison.filter (· != unit) } }
    match slot with
    | none => (false, s.setBytes lo part)
    | some k =>
      if part.length < 64 then
        let (old, s1) := s.ddrUnit unit k
        (false, ((s1.setBytes (unit * 64) old).setBytes lo part).setUnitKey unit (vget s1.ext.keys k))
      else (false, (s.setBytes lo part).setUnitKey unit (vget s.ext.keys k))

/-- A write at the memory side: the ERR code if it is refused, wholly or for a poisoned unit (R27, R208, R309, R314, R317); guarded
pages make their asides first (R420). -/
def State.physWrite (s : State) (pa : Nat) (bytes : List Byte) (key : Option Nat) : Option Nat × State :=
  let units (slot : Option Nat) : Option Nat × State :=
    let s := (s.asidesFor pa bytes.length).getD s
    let (bad, s1) := (unitsOf pa bytes.length).foldl (fun (acc : Bool × State) u =>
      let (b, s2) := acc.2.writeUnit u pa bytes slot
      (acc.1 || b, s2)) (false, s)
    (if bad then some 0x04 else none, s1)
  match s.site pa with
  | .hole => (some 0x02, s)
  | .register _ => (some 0x02, s)
  | .clm u off => if s.bankState (.clm u (off / 0x100000)) = .on then (none, s.setBytes pa bytes) else (some 0x03, s)
  | .store k st off => if (s.storeOff k st off bytes.length).isNone then (none, s.setBytes pa bytes) else (some 0x03, s)
  | .hbm _ _ => units none
  | .ddr n off => match s.ddrAdmit n off key with
    | none => (some 0x02, s)
    | some slot => units (some slot)

end Sys2Proof.Machine
end

