-- ==== Sys2Proof/Machine/Translate.lean ====
section
/-! DEFINITION. Address translation: page tables, walks, TLBs, permissions, A and D, the register window (R29, R225 to R232). -/

namespace Sys2Proof.Machine

/-- Lowest VA bit of a level's index, which is also log2 of the page size of a leaf there (Table 7-5, R228). -/
def walkShift : Nat → Nat
  | 0 => 39
  | 1 => 30
  | 2 => 21
  | _ => 16

/-- Index bits of a level (Table 7-5). -/
def walkBits : Nat → Nat
  | 3 => 5
  | _ => 9

/-- PA of a leaf and of the table that a pointer names (R227). -/
def ptePage (e : W64) : Nat := fld e 55 20 * 2 ^ 16
def pteTable (e : W64) : Nat := fld e 63 20 * 2 ^ 8

/-- A malformed entry (R228). -/
def pteMalformed (e : W64) (level : Nat) : Bool :=
  decide (fld e 19 18 ≠ 0)
  || (if tb e 1 then
        decide (fld e 63 56 ≠ 0) || level == 0 || decide (ptePage e % 2 ^ walkShift level ≠ 0) || (tb e 3 && !tb e 2)
          || (decide (fld e 17 12 ≠ 0) && decide (ptePage e / 2 ^ 48 ≠ 1)) || decide (ptePage e / 2 ^ 48 = 15)
      else level == 3 || decide (pteTable e % (if level = 2 then 256 else 4096) ≠ 0))

/-- How a walk ends (R228): a leaf with its level and where it lies, a fault, or an entry that goes to firmware (R234). -/
inductive WalkEnd where
  | leaf (e : W64) (level : Nat) (at_ : Nat)
  | fault
  | firmware
deriving DecidableEq, Repr

/-- An entry joins a full structure of n places: it replaces one that the spec does not name (Config.tlbVictim). -/
def State.capped {α : Type} (s : State) (n : Nat) (l : List α) (x : α) : List α × State :=
  if l.length < n then (l ++ [x], s)
  else (l.set (Config.tlbVictim s.free % n) x, { s with free := s.free + 1 })

/-- A pointer that a walk read is cached (R232): the table of a level that covers va. -/
def State.cachePointer (s : State) (u va level table : Nat) : State :=
  let c := (s.cluster u).nonleaf.filter fun n => !(n.level == level && n.idx == va / 2 ^ walkShift (level - 1))
  let (l, s1) := s.capped 64 c ⟨level, va / 2 ^ walkShift (level - 1), table⟩
  s1.modCluster u fun x => { x with nonleaf := l }

/-- The walk from a table of a level on (R228). -/
def State.walkFrom (u va : Nat) : Nat → Nat → Nat → State → WalkEnd × State
  | 0, _, _, s => (.fault, s)
  | fuel + 1, level, table, s =>
    let a := table + 8 * (va / 2 ^ walkShift level % 2 ^ walkBits level)
    match s.physRead a 8 none with
    | (.inl _, s1) => (.fault, s1)
    | (.inr b, s1) =>
      let e : W64 := BitVec.ofNat 64 (ofBytes b)
      if !tb e 0 then (if tb e 9 then .firmware else .fault, s1)
      else if pteMalformed e level then (.fault, s1)
      else if tb e 1 then (.leaf e level a, s1)
      else State.walkFrom u va fuel (level + 1) (pteTable e) (s1.cachePointer u va (level + 1) (pteTable e))

/-- The deepest cached pointer that covers va. -/
def Cluster.pointer (c : Cluster) (va : Nat) : Option NonLeaf :=
  [3, 2, 1].findSome? fun l => c.nonleaf.find? fun n => n.level == l && n.idx == va / 2 ^ walkShift (l - 1)

/-- A walk of a cluster's MMU (R228, R232). -/
def State.walk (s : State) (u va : Nat) : WalkEnd × State :=
  match (s.cluster u).pointer va with
  | some n => State.walkFrom u va 4 n.level n.table s
  | none => State.walkFrom u va 4 0 (s.rf (Reg.MMU_ROOT u) Reg.MMU_ROOT.ROOT * 4096) s

/-- Whether a leaf allows an access (R229, Table 7-7). -/
def allows (e : W64) (acc : Access) (user : Bool) : Bool :=
  (!user || tb e 5) &&
  (match acc with
   | .fetch => tb e 4
   | .load | .rowLoad => tb e 2
   | .store | .rowStore => tb e 3
   | .pick => tb e 2 && tb e 3
   | .inv => true)

/-- Accesses that write (R231). -/
def Access.writes : Access → Bool
  | .store | .pick | .rowStore => true
  | _ => false

/-- A TLB entry covers an address. -/
def TlbEnt.covers (t : TlbEnt) (va : Nat) : Bool := t.page == va / 2 ^ t.size

/-- The physical address that an entry gives. -/
def TlbEnt.pa (t : TlbEnt) (va : Nat) : Nat := ptePage t.leaf + va % 2 ^ t.size

/-- A leaf joins the shared TLB; A is set in memory if it is 0 (R231, R232). -/
def State.installShared (s : State) (u va : Nat) (e : W64) (level at_ : Nat) : TlbEnt × State :=
  let e1 := setBit e 6 true
  let s := if tb e 6 then s else (s.physWrite at_ (toBytes 8 e1.toNat) none).2
  let t : TlbEnt := ⟨va / 2 ^ walkShift level, walkShift level, e1, at_⟩
  let l := (s.cluster u).stlb.filter (· != t)
  let (l, s) :=
    if l.length < 8 then (l ++ [t], s)
    else
      let set (x : TlbEnt) : Nat := Config.stlbSet (x.page * 2 ^ (x.size - 16)) % 512
      let same := l.filter fun x => set x == set t
      if same.length < 8 then (l ++ [t], s)
      else
        let v := same[Config.tlbVictim s.free % 8]?
        ((l.filter fun x => some x != v) ++ [t], { s with free := s.free + 1 })
  (t, s.modCluster u fun c => { c with stlb := l })

/-- An entry joins a core's TLB (R232). -/
def State.installCore (s : State) (k : Nat) (acc : Access) (t : TlbEnt) : State :=
  if acc = .fetch then
    let (l, s1) := s.capped 16 ((s.core k).itlb.filter (· != t)) t
    s1.modCore k fun c => { c with itlb := l }
  else
    let (l, s1) := s.capped 32 ((s.core k).dtlb.filter (· != t)) t
    s1.modCore k fun c => { c with dtlb := l }

/-- The entry of a core's TLB that covers an address. -/
def State.coreTlb (s : State) (k : Nat) (acc : Access) (va : Nat) : Option TlbEnt :=
  (if acc = .fetch then (s.core k).itlb else (s.core k).dtlb).find? (·.covers va)

/-- An entry is replaced, or removed, in the shared TLB and in a core's data TLB. -/
def State.replaceTlb (s : State) (u : Nat) (k : Option Nat) (t : TlbEnt) (new : Option TlbEnt) : State :=
  let f (l : List TlbEnt) : List TlbEnt := l.filterMap fun x => if x = t then new else some x
  let s := s.modCluster u fun c => { c with stlb := f c.stlb }
  match k with
  | some k => s.modCore k fun c => { c with dtlb := f c.dtlb }
  | none => s

/-- The atomic update of D before a write leaves through an entry that holds D = 0 (R231): the entry with D = 1, or none when the
entry in memory has changed and the access walks again. -/
def State.setDirty (s : State) (u : Nat) (k : Option Nat) (t : TlbEnt) : Option TlbEnt × State :=
  if tb t.leaf 7 then (some t, s)
  else match s.physRead t.at_ 8 none with
  | (.inl _, s1) => (none, s1.replaceTlb u k t none)
  | (.inr b, s1) =>
    let e : W64 := BitVec.ofNat 64 (ofBytes b)
    if tb e 0 && tb e 1 && tb e 3 && ptePage e == ptePage t.leaf then
      let t1 := { t with leaf := setBit t.leaf 7 true }
      (some t1, ((s1.physWrite t.at_ (toBytes 8 (setBit e 7 true).toNat) none).2).replaceTlb u k t (some t1))
    else (none, s1.replaceTlb u k t none)

/-- What a translation answers. -/
inductive XRes where
  | ok (pa : Nat) (nc : Bool) (key : Option Nat)
  | fault
  | wait
deriving DecidableEq, Repr

/-- The answer of an entry for an access that it allows. -/
def TlbEnt.answer (t : TlbEnt) (va : Nat) : XRes := .ok (t.pa va) (tb t.leaf 8) (some (fld t.leaf 17 12))

/-- An access joins the walk of its 64 KiB page, or starts one (R232). -/
def State.joinWalk (s : State) (u va : Nat) (w : Walker) : State :=
  let c := s.cluster u
  let page := va / 65536
  if c.walks.any (fun x => x.page == page && !x.stale) then
    s.modCluster u fun c => { c with
      walks := c.walks.map fun x => if x.page == page && !x.stale then { x with who := x.who ++ [w] } else x }
  else
    let s := if c.walks.length < 16 then s.bump (Reg.MMU_WALKS u) Reg.MMU_WALKS.WALKS 1 else s
    s.modCluster u fun c => { c with walks := c.walks ++ [⟨page, [w], false⟩] }

/-- The entry that serves an access without a walk: in the core's TLB, or in the shared TLB, from where it joins the core's. -/
def State.tlbLookup (s : State) (u : Nat) (k : Option Nat) (acc : Access) (va : Nat) : Option (TlbEnt × State) :=
  match k.bind (fun k => s.coreTlb k acc va) with
  | some t => some (t, s)
  | none => match (s.cluster u).stlb.find? (·.covers va) with
    | some t => some (t, match k with
      | some k => s.installCore k acc t
      | none => s)
    | none => none

/-- Translation in a cluster (R228 to R232). `now` is an access that never waits, a PREF: its walk is done at once, and one that needs
firmware fails (R162, R217). -/
def State.xlate (s : State) (u : Nat) (k : Option Nat) (acc : Access) (user : Bool) (va : Nat) (now : Bool) (w : Walker) :
    XRes × State :=
  if !s.rbit (Reg.MMU_ROOT u) Reg.MMU_ROOT.EN then (.fault, s)
  else match s.tlbLookup u k acc va with
  | some (t, s1) =>
    if !allows t.leaf acc user then (.fault, s1)
    else if acc.writes then
      (match s1.setDirty u k t with
       | (some t1, s2) => (t1.answer va, s2)
       | (none, s2) => (.wait, s2.joinWalk u va w))
    else (t.answer va, s1)
  | none =>
    let s := s.bump (Reg.MMU_STLB_MISS u) Reg.MMU_STLB_MISS.MISSES 1
    if now then
      (match (s.bump (Reg.MMU_WALKS u) Reg.MMU_WALKS.WALKS 1).walk u va with
       | (.leaf e level at_, s1) =>
         if !allows e acc user then (.fault, s1)
         else
           let (t, s2) := s1.installShared u va e level at_
           (t.answer va, match k with
             | some k => s2.installCore k acc t
             | none => s2)
       | (_, s1) => (.fault, s1))
    else (.wait, s.joinWalk u va w)

/-- Translation of an access of a strand. A steward core has no MMU: its address is physical (log entry 15). -/
def State.xlateFor (s : State) (k i : Nat) (acc : Access) (va : Nat) (now : Bool := false) : XRes × State :=
  if isSteward k then (.ok va false none, s)
  else s.xlate (clusterOf k) (some k) acc ((s.strand k i).priv == 0) va now (.strand k i acc va)

/-- A strand leaves the walks and the firmware fault queue: it took a cause while it waited (R172). -/
def State.leaveWalks (s : State) (k i : Nat) : State :=
  let other : Walker → Bool
    | .strand k' i' _ _ => !(k' == k && i' == i)
    | .dma _ _ _ _ => true
  s.modCluster (clusterOf k) fun c => { c with
    walks := c.walks.map fun x => { x with who := x.who.filter other }
    fq := c.fq.map fun x => { x with who := x.who.filter other } }

/-- The register window (R29). -/
def windowBase : Nat := 0xFFFF00000000
def inWindow (va : W48) : Bool := decide (windowBase ≤ va.toNat)

/-- Whether R29 lets a core reach an offset of register space. -/
def State.windowAllows (s : State) (k : Nat) (write : Bool) (off : Nat) : Bool :=
  if isSteward k then true
  else
    let own := s.partOf (clusterOf k)
    match blkOf off with
    | some (.core, _, n) => decide (n < 480) && s.partOf (clusterOf n) == own && own != 0xF
    | some (.cluster, o, u) => s.partOf u == own && own != 0xF && !(write && decide (0x50000 ≤ o) && decide (o < 0x60000))
    | some (.device 5, _, _) => !write
    | some (.device 9, _, _) => !write
    | _ => false

end Sys2Proof.Machine
end

