-- ==== Sys2Proof/Machine/Cache.lean ====
section
/-! DEFINITION. The L1 data cache, its side buffer and line fetches, the instruction cache, the store queue (R211 to R219). -/

namespace Sys2Proof.Machine

/-- Bytes of a cache line (R211). -/
def lineBytes : Nat := 128

/-- Set of a line, by its address in lines (R211). -/
def lineSet (line : Nat) : Nat :=
  (List.range 7).foldl (fun x j => x.xor (line / 2 ^ (6 * j) % 64)) 0

/-- The tree pseudo-LRU bits after way w of 2^levels ways has been used: every node on its path points to the other side. -/
def plruTouch (w : Nat) : Nat → Nat → Nat → Nat
  | 0, _, bits => bits
  | l + 1, node, bits =>
    let b := w / 2 ^ l % 2
    let bits := bits - bits / 2 ^ node % 2 * 2 ^ node + (1 - b) * 2 ^ node
    plruTouch w l (2 * node + b) bits

/-- The way that the tree points to. -/
def plruVictim (bits : Nat) : Nat → Nat → Nat → Nat
  | 0, _, w => w
  | l + 1, node, w => let b := bits / 2 ^ node % 2; plruVictim bits l (2 * node + b) (2 * w + b)

/-- An empty set of 2^levels ways. -/
def CSet.empty (levels : Nat) : CSet := ⟨List.replicate (2 ^ levels) none, 0⟩

def CSet.wayOf (c : CSet) (line : Nat) : Option Nat := c.ways.findIdx? fun w => w.any (·.line == line)

/-- A line enters a set: the lowest invalid way, else the tree's choice (R211, R219). -/
def CSet.alloc (c : CSet) (levels : Nat) (l : Line) : CSet :=
  let w := match c.wayOf l.line with
    | some w => w
    | none => match c.ways.findIdx? (·.isNone) with
      | some w => w
      | none => plruVictim c.plru levels 1 0
  ⟨c.ways.set w (some l), plruTouch w levels 1 c.plru⟩

/-- A cache of 64 sets. -/
def cacheSet (levels : Nat) (m : List (Nat × CSet)) (line : Nat) : CSet := Sparse.get (fun _ => CSet.empty levels) m (lineSet line)
def cachePut (levels : Nat) (m : List (Nat × CSet)) (line : Nat) (c : CSet) : List (Nat × CSet) :=
  Sparse.set (fun _ => CSet.empty levels) m (lineSet line) c
def cacheFind (levels : Nat) (m : List (Nat × CSet)) (line : Nat) : Option VReg :=
  let c := cacheSet levels m line
  (c.ways.findSome? fun w => match w with
    | some l => if l.line = line then some l.data else none
    | none => none)
def cacheAlloc (levels : Nat) (m : List (Nat × CSet)) (l : Line) : List (Nat × CSet) :=
  cachePut levels m l.line ((cacheSet levels m l.line).alloc levels l)
/-- A hit makes its line the most recently used. -/
def cacheTouch (levels : Nat) (m : List (Nat × CSet)) (line : Nat) : List (Nat × CSet) :=
  let c := cacheSet levels m line
  match c.wayOf line with
  | some w => cachePut levels m line { c with plru := plruTouch w levels 1 c.plru }
  | none => m
def cacheDrop (levels : Nat) (m : List (Nat × CSet)) (line : Nat) : List (Nat × CSet) :=
  let c := cacheSet levels m line
  cachePut levels m line { c with ways := c.ways.map fun w => if w.any (·.line == line) then none else w }
def cacheMap (levels : Nat) (m : List (Nat × CSet)) (line : Nat) (f : VReg → VReg) : List (Nat × CSet) :=
  let c := cacheSet levels m line
  cachePut levels m line { c with ways := c.ways.map fun w => w.map fun l => if l.line = line then { l with data := f l.data } else l }

/-- Bytes of a line replaced. -/
def lineMerge (data : VReg) (m : Merge) : VReg :=
  let n := m.bytes.length
  BitVec.ofNat 1024 (data.toNat - data.toNat / 2 ^ (8 * m.off) % 2 ^ (8 * n) * 2 ^ (8 * m.off) + ofBytes m.bytes * 2 ^ (8 * m.off))

/-- Bytes of a line as a number. -/
def lineBits (data : VReg) (off n : Nat) : Nat := data.toNat / 2 ^ (8 * off) % 2 ^ (8 * n)

/-- A load finds its line in the cache or the side buffer (R213): a hit moves a side-buffer line into the cache. -/
def State.l1Hit (s : State) (k line : Nat) : Option (VReg × State) :=
  let c := s.core k
  match cacheFind 3 c.l1 line with
  | some d => some (d, (s.modCore k fun c => { c with l1 := cacheTouch 3 c.l1 line }).bump (Reg.CORE_L1_HITS k) Reg.CORE_L1_HITS.HITS 1)
  | none => match c.side.find? (·.line == line) with
    | some l => some (l.data, ((s.modCore k fun c =>
        { c with l1 := cacheAlloc 3 c.l1 l, side := c.side.filter (·.line != line) }).bump (Reg.CORE_L1_HITS k) Reg.CORE_L1_HITS.HITS 1).bump
          (Reg.CORE_L1_PFUSE k) Reg.CORE_L1_PFUSE.PFUSE 1)
    | none => none

/-- The fetch that a load to a line waits for (R213): one whose line is still to be kept (R162). -/
def Core.fetchOf (c : Core) (line : Nat) : Option Fetch := c.fetches.find? fun f => f.line == line && f.keep

/-- Whether a store writes into a line. -/
def StoreEnt.hits (x : StoreEnt) (line : Nat) : Bool :=
  match x.dst with
  | .mem pa _ => pa / lineBytes == line
  | _ => false

/-- The merge that a store makes in its line. -/
def StoreEnt.merge (x : StoreEnt) : Merge :=
  match x.dst with
  | .mem pa _ => ⟨pa % lineBytes, x.bytes⟩
  | _ => ⟨0, []⟩

/-- A core's stores not yet accepted, oldest first. -/
def Core.stores (c : Core) : List StoreEnt := c.unacked ++ c.storeq

/-- A fetch starts (R213, R216); stores to the line younger than it are merged when the line arrives (R214). -/
def State.startFetch (s : State) (k line age : Nat) (demand : Bool) (key : Option Nat) : State :=
  s.modCore k fun c => { c with fetches := c.fetches ++
    [{ line := line, demand := demand, sent := false, keep := true, key := key, tag := age, failed := false, data := none,
       merges := (c.stores.filter fun x => x.hits line && decide (age < x.tag)).map StoreEnt.merge }] }

/-- A DPICK not yet sent. -/
def Part.pick (p : Part) : Option (Nat × Nat) :=
  match p.st with
  | .wantPick age => some (p.pa / lineBytes, age)
  | _ => none

/-- A load that waits for one of the 16 fetches. -/
def Part.want (p : Part) : Option (Nat × Nat) :=
  match p.st with
  | .wantFetch line age => some (line, age)
  | _ => none

/-- Every part of a core's counted loads. -/
def Core.parts (c : Core) : List Part := c.strands.toList.flatMap fun x => x.loads.flatMap (·.parts)

/-- Whether an older store, fetch or DPICK of the core to a line has not yet left or been accepted, as R146 and R215 order them:
`stores` for those that a fetch or DPICK waits for, `reads` for those that a store waits for. -/
def Core.olderStore (c : Core) (line age : Nat) : Bool := c.stores.any fun x => x.hits line && decide (x.tag < age)
def Core.olderPick (c : Core) (line age : Nat) : Bool :=
  c.parts.any fun p => match p.pick with
    | some (l, a) => l == line && decide (a < age)
    | none => false
def Core.olderFetch (c : Core) (line age : Nat) : Bool :=
  c.fetches.any (fun f => f.line == line && !f.sent && decide (f.tag < age))
  || c.parts.any fun p => match p.want with
    | some (l, a) => l == line && decide (a < age)
    | none => false

/-- A request of a core's TAP. -/
def State.coreRequest (s : State) (k : Nat) (kind : PKind) (pa tag size : Nat) (key : Option Nat) (payload : List Byte) : State :=
  s.inject { kind := kind, part := s.partOfCore k, dst := s.serverOf (epCore k) pa, src := epCore k, tag := tag, addr := pa,
             size := size, key := key, payload := payload }

/-- Every part of a core's loads rewritten. -/
def Core.mapParts (c : Core) (f : Part → Part) : Core :=
  { c with strands := c.strands.map fun x => { x with loads := x.loads.map fun l => { l with parts := l.parts.map f } } }

/-- A load that waited for a fetch begins one, or joins one that has begun, when a place is free (R213). -/
def State.startWanted (s : State) (k : Nat) : State :=
  let c := s.core k
  match c.parts.find? fun p => p.want.isSome with
  | none => s
  | some p => match p.want with
    | none => s
    | some (line, age) =>
      let repl (st : PartState) (s : State) : State := s.modCore k fun c => c.mapParts fun q => if q.st = .wantFetch line age then { q with st := st } else q
      match c.fetchOf line with
      | some f => repl (.fetching f.tag f.merges.length) s
      | none => if c.fetches.length < 16 then repl (.fetching age 0) (s.startFetch k line age true p.key) else s

/-- Fetches that R215 lets go leave for memory. -/
def State.sendFetches (s : State) (k : Nat) : State :=
  let c := s.core k
  let ok := c.fetches.filter fun f => !f.sent && !c.olderStore f.line f.tag && !c.olderPick f.line f.tag
  let s := s.modCore k fun c => { c with fetches := c.fetches.map fun f => if ok.any (·.tag == f.tag) then { f with sent := true } else f }
  ok.foldl (fun s f => s.coreRequest k .rd (f.line * lineBytes) f.tag lineBytes f.key []) s

/-- DPICKs that R146 lets go leave for the CLM (R163). -/
def State.sendPicks (s : State) (k : Nat) : State :=
  let c := s.core k
  let ok := c.parts.filterMap fun p => match p.pick with
    | some (line, age) => if !c.olderStore line age && !c.olderFetch line age then some (p.pa, age) else none
    | none => none
  let s := s.modCore k fun c => c.mapParts fun p => match p.pick with
    | some (_, age) => if ok.any (·.2 == age) then { p with st := .asked age } else p
    | none => p
  ok.foldl (fun s (pa, age) => s.inject { kind := .amo, part := s.partOfCore k, dst := epClm (clusterOf k), src := epCore k, tag := age, addr := pa, size := 8 }) s

/-- What may leave leaves. -/
def State.pump (s : State) (k : Nat) : State := ((((s.startWanted k).sendFetches k).sendPicks k).startWanted k).sendFetches k

/-- A load's access through the cache (R213). -/
def State.cachedPart (s : State) (k pa size : Nat) (dst : LoadDst) (key : Option Nat) : Part × State :=
  let line := pa / lineBytes
  match s.l1Hit k line with
  | some (d, s1) => (⟨pa, size, dst, key, .ready (lineBits d (pa % lineBytes) size)⟩, s1)
  | none =>
    let s := s.bump (Reg.CORE_L1_MISSES k) Reg.CORE_L1_MISSES.MISSES 1
    match (s.core k).fetchOf line with
    | some f => (⟨pa, size, dst, key, .fetching f.tag f.merges.length⟩, s)
    | none =>
      let (age, s) := s.newTag
      if (s.core k).fetches.length < 16 then (⟨pa, size, dst, key, .fetching age 0⟩, s.startFetch k line age true key)
      else (⟨pa, size, dst, key, .wantFetch line age⟩, s)

/-- A load's access outside the cache (R212). -/
def State.directPart (s : State) (k pa size : Nat) (dst : LoadDst) (key : Option Nat) : Part × State :=
  let (tag, s) := s.newTag
  (⟨pa, size, dst, key, .asked tag⟩, s.coreRequest k .rd pa tag size key [])

/-- A load's access to memory, through the cache unless the leaf has NC = 1 (R212). -/
def State.loadPart (s : State) (k pa size : Nat) (nc : Bool) (dst : LoadDst) (key : Option Nat) : Part × State :=
  if nc then s.directPart k pa size dst key else s.cachedPart k pa size dst key

/-- A store joins the store queue; through the cache it updates its line, or is merged into it when it arrives (R214). -/
def State.pushStore (s : State) (k i pa : Nat) (nc : Bool) (key : Option Nat) (bytes : List Byte) : State :=
  let (tag, s) := s.newTag
  let line := pa / lineBytes
  let m : Merge := ⟨pa % lineBytes, bytes⟩
  s.modCore k fun c =>
    let c := { c with storeq := c.storeq ++ [⟨i, .mem pa key, bytes, tag⟩] }
    if nc then c
    else { c with
      l1 := cacheMap 3 c.l1 line (lineMerge · m)
      side := c.side.map fun l => if l.line = line then { l with data := lineMerge l.data m } else l
      fetches := c.fetches.map fun f => if f.line = line then { f with merges := f.merges ++ [m] } else f }

/-- A line leaves the cache and the side buffer; a fetch under way for it is delivered and not kept (R162). -/
def State.dropLine (s : State) (k line : Nat) : State :=
  s.modCore k fun c => { c with
    l1 := cacheDrop 3 c.l1 line
    side := c.side.filter (·.line != line)
    fetches := c.fetches.map fun f => if f.line = line then { f with keep := false } else f }

/-- Every line leaves (R162, R218). -/
def State.dropAllLines (s : State) (k : Nat) : State :=
  s.modCore k fun c => { c with l1 := [], side := [], fetches := c.fetches.map fun f => { f with keep := false } }

/-- A prefetch of the line at a virtual address into the side buffer (R162, R216): dropped when its translation fails or needs
firmware, in the register window, through a leaf with NC = 1, and while all 16 fetches are in use (log entry 16). -/
def State.prefetch (s : State) (k i : Nat) (va : W48) : State :=
  if inWindow va then s
  else match s.xlateFor k i .load va.toNat true with
  | (.ok pa nc key, s1) =>
    let line := pa / lineBytes
    let c := s1.core k
    if nc || (cacheFind 3 c.l1 line).isSome || c.side.any (·.line == line) || (c.fetchOf line).isSome
        || decide (16 ≤ c.fetches.length) then s1
    else
      let (age, s2) := s1.newTag
      (s2.startFetch k line age false key).pump k
  | (_, s1) => s1

/-- The stride hint of an address register acts when an access through it touches another line than the one before (R217). -/
def State.hintAccess (s : State) (k i : Nat) (an : BitVec 3) (ea : W48) : State :=
  let x := s.strand k i
  let line := ea.toNat / lineBytes
  let moved := vget x.lastLine an.toNat != some line
  let h := vget x.hint an.toNat
  let s := s.modStrand k i fun x => { x with lastLine := vset x.lastLine an.toNat (some line) }
  if moved && h != 0 then
    s.prefetch k i (ea + BitVec.ofInt 48 (h.toInt * (s.rf (Reg.CORE_L1_CTL k) Reg.CORE_L1_CTL.PFDIST : Int)))
  else s

end Sys2Proof.Machine
end

