-- ==== Sys2Proof/Machine/Flags.lean ====
section
/-! DEFINITION. The scalar results and their flags (R139, R140, R141, R169). -/

namespace Sys2Proof.Machine

/-- Z and N of a result, with C and V (R140). -/
def flagsOf (r : W32) (c v : Bool) : Flags := { z := r == 0, n := r.msb, c := c, v := v }

/-- Whether the exact signed value fits in 32 bits. -/
def fits32 (i : Int) : Bool := decide (-(2 ^ 31 : Int) ≤ i) && decide (i < 2 ^ 31)

def addV (a b : W32) : Bool := !fits32 (a.toInt + b.toInt)
def subV (a b : W32) : Bool := !fits32 (a.toInt - b.toInt)

/-- ADD: C is the carry out of bit 31. -/
def addFlags (a b : W32) : Flags := flagsOf (a + b) (decide (2 ^ 32 ≤ a.toNat + b.toNat)) (addV a b)
/-- SUB and CMPI: C is 1 when a is at least b unsigned. -/
def subFlags (a b : W32) : Flags := flagsOf (a - b) (decide (b.toNat ≤ a.toNat)) (subV a b)
def logicFlags (r : W32) : Flags := flagsOf r false false

/-- Scalar operations by FN (Table 5-8). -/
inductive AluOp where
  | add | sub | and | or | xor | shl | shr | sra | slt | sltu | min | max | minu | maxu | mul | mulh | mulhu
  | div | divu | rem | remu
deriving DecidableEq, Repr

/-- Shifts use bits [4:0] of the amount (R139). -/
def amount (b : W32) : Nat := b.toNat % 32

/-- The result (R139, R141). -/
def AluOp.result (o : AluOp) (a b : W32) : W32 :=
  match o with
  | .add => a + b
  | .sub => a - b
  | .and => a &&& b
  | .or => a ||| b
  | .xor => a ^^^ b
  | .shl => a <<< amount b
  | .shr => a >>> amount b
  | .sra => a.sshiftRight (amount b)
  | .slt => if a.toInt < b.toInt then 1 else 0
  | .sltu => if a.toNat < b.toNat then 1 else 0
  | .min => if a.toInt ≤ b.toInt then a else b
  | .max => if a.toInt ≤ b.toInt then b else a
  | .minu => if a.toNat ≤ b.toNat then a else b
  | .maxu => if a.toNat ≤ b.toNat then b else a
  | .mul => a * b
  | .mulh => BitVec.ofInt 32 ((a.toInt * b.toInt) / 2 ^ 32)
  | .mulhu => BitVec.ofNat 32 (a.toNat * b.toNat / 2 ^ 32)
  | .div => if b = 0 then 0xFFFFFFFF#32 else BitVec.ofInt 32 (a.toInt.tdiv b.toInt)
  | .divu => if b = 0 then 0xFFFFFFFF#32 else BitVec.ofNat 32 (a.toNat / b.toNat)
  | .rem => if b = 0 then a else BitVec.ofInt 32 (a.toInt.tmod b.toInt)
  | .remu => if b = 0 then a else BitVec.ofNat 32 (a.toNat % b.toNat)

/-- C after a shift is the last bit shifted out, or 0 when the amount is 0 (R140). -/
def shiftCarry (o : AluOp) (a b : W32) : Bool :=
  let n := amount b
  if n = 0 then false
  else match o with
    | .shl => a.getLsbD (32 - n)
    | _ => a.getLsbD (n - 1)

/-- The flags that an operation with F = 1 sets (R140). -/
def AluOp.flags (o : AluOp) (a b : W32) : Flags :=
  match o with
  | .add => addFlags a b
  | .sub => subFlags a b
  | .shl | .shr | .sra => flagsOf (o.result a b) (shiftCarry o a b) false
  | _ => logicFlags (o.result a b)

/-- F may be 1 only for FN 0x000 to 0x007 (R139). -/
def AluOp.takesF : AluOp → Bool
  | .add | .sub | .and | .or | .xor | .shl | .shr | .sra => true
  | _ => false

/-- Distance of the result (Table 5-10). -/
def AluOp.dist : AluOp → Nat
  | .mul | .mulh | .mulhu => 1
  | .div | .divu | .rem | .remu => 7
  | _ => 0

/-- The traps that a steward core raises when SXEN enables them (R169): the cause. -/
def AluOp.trap (o : AluOp) (sxen a b : W32) : Option Nat :=
  let dz := tb sxen 0
  let ov := tb sxen 1
  match o with
  | .div => if b = 0 then (if dz then some 0x0C else none) else if ov && a == 0x80000000#32 && b == 0xFFFFFFFF#32 then some 0x0D else none
  | .rem => if b = 0 then (if dz then some 0x0C else none) else if ov && a == 0x80000000#32 && b == 0xFFFFFFFF#32 then some 0x0D else none
  | .divu | .remu => if b = 0 && dz then some 0x0C else none
  | .add => if ov && addV a b then some 0x0D else none
  | .sub => if ov && subV a b then some 0x0D else none
  | .mul => if ov && !fits32 (a.toInt * b.toInt) then some 0x0D else none
  | _ => none

/-- Branch conditions (Table 5-11); none for the reserved code. -/
def condHolds (c : BitVec 4) (f : Flags) : Option Bool :=
  match c.toNat with
  | 0 => some f.z
  | 1 => some (!f.z)
  | 2 => some (f.n != f.v)
  | 3 => some (f.n == f.v)
  | 4 => some (f.z || f.n != f.v)
  | 5 => some (!f.z && f.n == f.v)
  | 6 => some (!f.c)
  | 7 => some f.c
  | 8 => some (!f.c || f.z)
  | 9 => some (f.c && !f.z)
  | 10 => some f.n
  | 11 => some (!f.n)
  | 12 => some f.v
  | 13 => some (!f.v)
  | 14 => some true
  | _ => none

end Sys2Proof.Machine
end

