-- ==== Sys2Proof/Machine/Scalar.lean ====
section
/-! DEFINITION. The scalar instructions: OP, the immediate forms, branches, LOOP and the counted waits (R137 to R141, R150 to R155,
R169). -/

namespace Sys2Proof.Machine

/-- OP with an arithmetic FN (R139, R140, R169). -/
def aluBody (op : AluOp) (o : OpR) (e : Env) (s : State) : Res :=
  let x := s.strand e.k e.i
  let a := x.rg o.ra
  let b := x.rg o.rb
  if o.f && !op.takesF then illegal e
  else match (if isSteward e.k then op.trap x.sxen a b else none) with
  | some code => .trap { code := code }
  | none =>
    .done (s.modStrand e.k e.i fun x =>
      let y := if o.f then { x with flags := op.flags a b } else x
      if op.dist = 0 then y.putG e.t o.rd (op.result a b) else y.later (e.t + 4 * op.dist + 3) (.g o.rd (op.result a b)))

def aluInfo (o : OpR) : Info := { setsFlags := o.f, writes := [o.rd] }

/-- JR and JALR (R151): the target must be a multiple of 4. -/
def jumpRegBody (link : Bool) (o : OpR) (e : Env) (s : State) : Res :=
  let x := s.strand e.k e.i
  let target := (x.rg o.ra).setWidth 48
  if o.f then illegal e
  else if target &&& 3#48 ≠ 0 then .trap { code := 0x07, xtval := target.toNat }
  else
    let s1 := if link then s.modStrand e.k e.i fun y => y.putG e.t o.rd ((y.pc + 8).setWidth 32) else s
    .branch s1 (some target) (if link then some o.rd else none)
      ((if link then [o.ra, o.rd] else [o.ra]).filter (· ≠ 0))

def jumpRegInfo (link : Bool) (o : OpR) : Info := { branch := true, writes := if link then [o.rd] else [] }

/-- The immediate forms that write rd (Table 5-6). -/
def immBody (rd : BitVec 5) (bad : Bool) (v : Strand → W32) (trap : Strand → Option Nat) (e : Env) (s : State) : Res :=
  let x := s.strand e.k e.i
  if bad then illegal e
  else match (if isSteward e.k then trap x else none) with
  | some code => .trap { code := code }
  | none => .done (s.modStrand e.k e.i fun y => y.putG e.t rd (v x))

def addiBody (o : OpI) : Env → State → Res :=
  immBody o.rd false (fun x => x.rg o.ra + o.imm.signExtend 32) (fun x => AluOp.trap .add x.sxen (x.rg o.ra) (o.imm.signExtend 32))
def andiBody (o : OpI) : Env → State → Res := immBody o.rd false (fun x => x.rg o.ra &&& o.imm.setWidth 32) (fun _ => none)
def oriBody (o : OpI) : Env → State → Res := immBody o.rd false (fun x => x.rg o.ra ||| o.imm.setWidth 32) (fun _ => none)
def xoriBody (o : OpI) : Env → State → Res := immBody o.rd false (fun x => x.rg o.ra ^^^ o.imm.setWidth 32) (fun _ => none)
/-- SHI: imm16[15:14] selects the shift, imm16[4:0] is the amount, imm16[13:5] is reserved (Table 5-6). -/
def shiBody (o : OpI) : Env → State → Res :=
  let n := o.imm.toNat % 32
  immBody o.rd (decide (fld o.imm 15 14 = 3) || decide (fld o.imm 13 5 ≠ 0))
    (fun x => match fld o.imm 15 14 with
      | 0 => x.rg o.ra <<< n
      | 1 => x.rg o.ra >>> n
      | _ => (x.rg o.ra).sshiftRight n) (fun _ => none)
def luiBody (o : OpI) : Env → State → Res :=
  immBody o.rd (decide (o.ra ≠ 0)) (fun _ => o.imm.setWidth 32 <<< 16) (fun _ => none)
def immInfo (o : OpI) : Info := { writes := [o.rd] }

/-- CMPI: flags of ra minus the sign-extended immediate; rd must be g0 (Table 5-6, R140). -/
def cmpiBody (o : OpI) (e : Env) (s : State) : Res :=
  if o.rd ≠ 0 then illegal e
  else .done (s.modStrand e.k e.i fun x => { x with flags := subFlags (x.rg o.ra) (o.imm.signExtend 32) })

/-- A signed displacement in words from the branch (R138). -/
def branchTarget {n : Nat} (pc : W48) (d : BitVec n) : W48 := pc + BitVec.ofInt 48 (4 * d.toInt)

/-- BC (R151, Table 5-11). -/
def bcBody (cond : BitVec 4) (disp : BitVec 22) (e : Env) (s : State) : Res :=
  let x := s.strand e.k e.i
  match condHolds cond x.flags with
  | none => illegal e
  | some t => .branch s (if t then some (branchTarget x.pc disp) else none) none []

/-- JAL (R151). -/
def jalBody (rd : BitVec 5) (disp : BitVec 21) (e : Env) (s : State) : Res :=
  let x := s.strand e.k e.i
  .branch (s.modStrand e.k e.i fun y => y.putG e.t rd ((y.pc + 8).setWidth 32)) (some (branchTarget x.pc disp)) (some rd)
    ([rd].filter (· ≠ 0))

/-- LOOP (R153). -/
def loopBody (o : OpL) (e : Env) (s : State) : Res :=
  let x := s.strand e.k e.i
  if o.last = 0 ∨ (o.i = false ∧ 32 ≤ o.count.toNat) then illegal e
  else
    let count := if o.i then o.count.setWidth 32 else x.rg (o.count.setWidth 5)
    let last := x.pc + BitVec.ofNat 48 (4 * o.last.toNat)
    let l : LoopReg := ⟨x.pc + 4, last, count⟩
    let s1 := s.modStrand e.k e.i fun y => if o.n then { y with l1 := l } else { y with l0 := l }
    if count = 0 then .goto s1 (last + (if o.wide then 8 else 4)) else .done s1

/-- A strand's load counter (R147) holds the instructions whose count is not yet removed. -/
def Strand.lcnt (x : Strand) : Nat := x.loads.length

/-- WAITL (R150). -/
def waitlBody (n : BitVec 4) (e : Env) (s : State) : Res :=
  if 8 < n.toNat then illegal e
  else if (s.strand e.k e.i).lcnt ≤ n.toNat then .done s
  else .wait s (.waiting (.loads n.toNat)) (some .loads)

/-- WAITM (R150). -/
def waitmBody (n : BitVec 4) (e : Env) (s : State) : Res :=
  if 2 < n.toNat then illegal e
  else if (s.strand e.k e.i).matrix ≤ n.toNat then .done s
  else .wait s (.waiting (.matrix n.toNat)) (some .matrix)

/-- ADD (R139). -/
def execAdd (w : Who) (o : OpR) (s : State) : Out := .next (issue w (aluInfo o) (aluBody .add o) s)
/-- SUB (R139). -/
def execSub (w : Who) (o : OpR) (s : State) : Out := .next (issue w (aluInfo o) (aluBody .sub o) s)
/-- AND (R139). -/
def execAnd (w : Who) (o : OpR) (s : State) : Out := .next (issue w (aluInfo o) (aluBody .and o) s)
/-- OR (R139). -/
def execOr (w : Who) (o : OpR) (s : State) : Out := .next (issue w (aluInfo o) (aluBody .or o) s)
/-- XOR (R139). -/
def execXor (w : Who) (o : OpR) (s : State) : Out := .next (issue w (aluInfo o) (aluBody .xor o) s)
/-- SHL (R139). -/
def execShl (w : Who) (o : OpR) (s : State) : Out := .next (issue w (aluInfo o) (aluBody .shl o) s)
/-- SHR (R139). -/
def execShr (w : Who) (o : OpR) (s : State) : Out := .next (issue w (aluInfo o) (aluBody .shr o) s)
/-- SRA (R139). -/
def execSra (w : Who) (o : OpR) (s : State) : Out := .next (issue w (aluInfo o) (aluBody .sra o) s)
/-- SLT (R139). -/
def execSlt (w : Who) (o : OpR) (s : State) : Out := .next (issue w (aluInfo o) (aluBody .slt o) s)
/-- SLTU (R139). -/
def execSltu (w : Who) (o : OpR) (s : State) : Out := .next (issue w (aluInfo o) (aluBody .sltu o) s)
/-- MIN (R139). -/
def execMin (w : Who) (o : OpR) (s : State) : Out := .next (issue w (aluInfo o) (aluBody .min o) s)
/-- MAX (R139). -/
def execMax (w : Who) (o : OpR) (s : State) : Out := .next (issue w (aluInfo o) (aluBody .max o) s)
/-- MINU (R139). -/
def execMinu (w : Who) (o : OpR) (s : State) : Out := .next (issue w (aluInfo o) (aluBody .minu o) s)
/-- MAXU (R139). -/
def execMaxu (w : Who) (o : OpR) (s : State) : Out := .next (issue w (aluInfo o) (aluBody .maxu o) s)
/-- MUL (R139). -/
def execMul (w : Who) (o : OpR) (s : State) : Out := .next (issue w (aluInfo o) (aluBody .mul o) s)
/-- MULH (R139). -/
def execMulh (w : Who) (o : OpR) (s : State) : Out := .next (issue w (aluInfo o) (aluBody .mulh o) s)
/-- MULHU (R139). -/
def execMulhu (w : Who) (o : OpR) (s : State) : Out := .next (issue w (aluInfo o) (aluBody .mulhu o) s)
/-- DIV (R139). -/
def execDiv (w : Who) (o : OpR) (s : State) : Out := .next (issue w (aluInfo o) (aluBody .div o) s)
/-- DIVU (R139). -/
def execDivu (w : Who) (o : OpR) (s : State) : Out := .next (issue w (aluInfo o) (aluBody .divu o) s)
/-- REM (R139). -/
def execRem (w : Who) (o : OpR) (s : State) : Out := .next (issue w (aluInfo o) (aluBody .rem o) s)
/-- REMU (R139). -/
def execRemu (w : Who) (o : OpR) (s : State) : Out := .next (issue w (aluInfo o) (aluBody .remu o) s)
/-- JR (R151). -/
def execJr (w : Who) (o : OpR) (s : State) : Out := .next (issue w (jumpRegInfo false o) (jumpRegBody false o) s)
/-- JALR (R151). -/
def execJalr (w : Who) (o : OpR) (s : State) : Out := .next (issue w (jumpRegInfo true o) (jumpRegBody true o) s)
/-- ADDI (R137, Table 5-6). -/
def execAddi (w : Who) (o : OpI) (s : State) : Out := .next (issue w (immInfo o) (addiBody o) s)
/-- ANDI (R137, Table 5-6). -/
def execAndi (w : Who) (o : OpI) (s : State) : Out := .next (issue w (immInfo o) (andiBody o) s)
/-- ORI (R137, Table 5-6). -/
def execOri (w : Who) (o : OpI) (s : State) : Out := .next (issue w (immInfo o) (oriBody o) s)
/-- XORI (R137, Table 5-6). -/
def execXori (w : Who) (o : OpI) (s : State) : Out := .next (issue w (immInfo o) (xoriBody o) s)
/-- SHI (R137, Table 5-6). -/
def execShi (w : Who) (o : OpI) (s : State) : Out := .next (issue w (immInfo o) (shiBody o) s)
/-- LUI (R137, Table 5-6). -/
def execLui (w : Who) (o : OpI) (s : State) : Out := .next (issue w (immInfo o) (luiBody o) s)
/-- CMPI (R140). -/
def execCmpi (w : Who) (o : OpI) (s : State) : Out := .next (issue w { setsFlags := true } (cmpiBody o) s)
/-- BC (R151). -/
def execBc (w : Who) (cond : BitVec 4) (disp : BitVec 22) (s : State) : Out := .next (issue w { branch := true } (bcBody cond disp) s)
/-- JAL (R151). -/
def execJal (w : Who) (rd : BitVec 5) (disp : BitVec 21) (s : State) : Out :=
  .next (issue w { branch := true, writes := [rd] } (jalBody rd disp) s)
/-- LOOP (R153). -/
def execLoop (w : Who) (o : OpL) (s : State) : Out := .next (issue w { noDelay := true } (loopBody o) s)
/-- WAITL (R150). -/
def execWaitl (w : Who) (n : BitVec 4) (s : State) : Out := .next (issue w {} (waitlBody n) s)
/-- WAITM (R150). -/
def execWaitm (w : Who) (n : BitVec 4) (s : State) : Out := .next (issue w {} (waitmBody n) s)

end Sys2Proof.Machine
end

