-- ==== Sys2Proof/Machine/Csr.lean ====
section
/-! DEFINITION. Strand control registers and the SYS major (R134, R135, R165, R166, R169, R179 to R183). -/

namespace Sys2Proof.Machine

/-- The strand control registers (Tables 5-5 and 6-4). -/
inductive Csr where
  | status | cycleLo | cycleHi | whoami
  | loopS (n : Bool) | loopE (n : Bool) | loopC (n : Bool)
  | abase (i : Nat) | actl (i : Nat) | lcnt | mcnt | tstart
  | xpc | xstatus | xcause | xtval | xvec | rucksack | xscratch | xtstart
  | xloopS (n : Bool) | xloopE (n : Bool) | xloopC (n : Bool)
  | ienable | ipend | timecmpLo | timecmpHi | sxen
deriving DecidableEq, Repr

/-- The register that a number names; none where the tables list none. SXEN exists only on steward cores (R166, R169). -/
def csrOf (k : Nat) (num : BitVec 12) : Option Csr :=
  let n := num.toNat
  match n with
  | 0x000 => some .status | 0x001 => some .cycleLo | 0x002 => some .cycleHi | 0x003 => some .whoami
  | 0x010 => some (.loopS false) | 0x011 => some (.loopE false) | 0x012 => some (.loopC false)
  | 0x013 => some (.loopS true) | 0x014 => some (.loopE true) | 0x015 => some (.loopC true)
  | 0x030 => some .lcnt | 0x031 => some .mcnt | 0x040 => some .tstart
  | 0x100 => some .xpc | 0x101 => some .xstatus | 0x102 => some .xcause | 0x103 => some .xtval | 0x104 => some .xvec
  | 0x105 => some .rucksack | 0x106 => some .xscratch | 0x107 => some .xtstart
  | 0x108 => some (.xloopS false) | 0x109 => some (.xloopE false) | 0x10A => some (.xloopC false)
  | 0x10B => some (.xloopS true) | 0x10C => some (.xloopE true) | 0x10D => some (.xloopC true)
  | 0x110 => some .ienable | 0x111 => some .ipend | 0x112 => some .timecmpLo | 0x113 => some .timecmpHi
  | 0x120 => if isSteward k then some .sxen else none
  | _ =>
    if 0x020 ≤ n ∧ n < 0x028 then some (.abase (n - 0x020))
    else if 0x028 ≤ n ∧ n < 0x030 then some (.actl (n - 0x028))
    else none

/-- Registers that a write may not name (Table 5-5). -/
def Csr.readOnly : Csr → Bool
  | .cycleLo | .cycleHi | .whoami | .lcnt | .mcnt => true
  | _ => false

/-- Registers marked S, which need the handler level (R166, Tables 5-5 and 6-4); SXEN needs M. -/
def Csr.sLevel : Csr → Bool
  | .tstart | .xpc | .xstatus | .xcause | .xtval | .xvec | .rucksack | .xscratch | .xtstart | .xloopS _ | .xloopE _ | .xloopC _
  | .ienable | .ipend | .timecmpLo | .timecmpHi | .sxen => true
  | _ => false

/-- Whether a strand is at the handler level of its core (R165). -/
def Strand.handler (x : Strand) (k : Nat) : Bool := decide (handlerLevel k ≤ x.priv)

/-- WHOAMI gives bits [10:2] to the global core number and bit 11 to a steward core (Table 5-5): a steward's number there is its
number among the steward cores (log entry 14). -/
def whoNumber (k : Nat) : Nat := if isSteward k then k - 480 else k

/-- The value of a register, zero-extended to 48 bits. -/
def Csr.value (c : Csr) (k i t : Nat) (x : Strand) : W48 :=
  match c with
  | .status => x.status.setWidth 48
  | .cycleLo => BitVec.ofNat 48 (t % 2 ^ 32)
  | .cycleHi => x.cycleHi.setWidth 48
  | .whoami => BitVec.ofNat 48 (i + 4 * whoNumber k + 2048 * bit (isSteward k))
  | .loopS n => if n then x.l1.first else x.l0.first
  | .loopE n => if n then x.l1.last else x.l0.last
  | .loopC n => (if n then x.l1.count else x.l0.count).setWidth 48
  | .abase j => (vget x.abase j).setWidth 48
  | .actl j => (vget x.actl j).setWidth 48
  | .lcnt => BitVec.ofNat 48 x.lcnt
  | .mcnt => BitVec.ofNat 48 x.matrix
  | .tstart => x.tstart.setWidth 48
  | .xpc => x.xpc
  | .xstatus => x.xstatus.setWidth 48
  | .xcause => x.xcause.setWidth 48
  | .xtval => x.xtval
  | .xvec => x.xvec
  | .rucksack => x.rucksack.setWidth 48
  | .xscratch => x.xscratch.setWidth 48
  | .xtstart => x.xtstart.setWidth 48
  | .xloopS n => if n then x.xl1.first else x.xl0.first
  | .xloopE n => if n then x.xl1.last else x.xl0.last
  | .xloopC n => (if n then x.xl1.count else x.xl0.count).setWidth 48
  | .ienable => x.ienable.setWidth 48
  | .ipend => BitVec.ofNat 48 (bit (x.timer t) + 2 * bit x.mbox + 4 * bit x.fpt)
  | .timecmpLo => (x.timecmp.setWidth 32).setWidth 48
  | .timecmpHi => BitVec.ofNat 48 (fld x.timecmp 63 32)
  | .sxen => x.sxen.setWidth 48

/-- XSTATUS as a write stores it (R180): unheld bits are discarded, PRIV holds only levels that the core has. -/
def xstatusStore (k : Nat) (v : W32) : W32 :=
  let w := v &&& 0xF7F#32
  let p := fld w 2 1
  if p = 2 ∨ (p = 3 ∧ !isSteward k) then setFld w 2 1 1 else w

/-- A write of a register (R134, R135, R156, R171, R180). whole: all 48 bits are given (CSRWA); otherwise bits [31:0], and a
48-bit register keeps its upper bits. -/
def Csr.store (c : Csr) (k : Nat) (whole : Bool) (v : W48) (x : Strand) : Strand :=
  let w := v.setWidth 32
  let wide (old : W48) : W48 := if whole then v else setFld old 31 0 w.toNat
  let even (old : W48) : W48 := wide old &&& ~~~ 3#48
  match c with
  | .status =>
    { x with shadow := x.shadow ++ [⟨4, .status (tb w 0) (tb w 3) (BitVec.ofNat 3 (heldRm (fld w 6 4)))⟩] }
  | .loopS n => if n then { x with l1 := { x.l1 with first := wide x.l1.first } } else { x with l0 := { x.l0 with first := wide x.l0.first } }
  | .loopE n => if n then { x with l1 := { x.l1 with last := wide x.l1.last } } else { x with l0 := { x.l0 with last := wide x.l0.last } }
  | .loopC n => if n then { x with l1 := { x.l1 with count := w } } else { x with l0 := { x.l0 with count := w } }
  | .abase j => { x with abase := vset x.abase j w }
  | .actl j => { x with actl := vset x.actl j (actlStore w) }
  | .tstart => { x with tstart := w.setWidth 6 }
  | .xpc => { x with xpc := even x.xpc }
  | .xstatus => { x with xstatus := xstatusStore k w }
  | .xcause => { x with xcause := w &&& 0x1FFF7F#32 }
  | .xtval => { x with xtval := wide x.xtval }
  | .xvec => { x with xvec := even x.xvec }
  | .rucksack => { x with rucksack := w &&& 0x7FF80#32 }
  | .xscratch => { x with xscratch := w }
  | .xtstart => { x with xtstart := w.setWidth 6 }
  | .xloopS n => if n then { x with xl1 := { x.xl1 with first := wide x.xl1.first } } else { x with xl0 := { x.xl0 with first := wide x.xl0.first } }
  | .xloopE n => if n then { x with xl1 := { x.xl1 with last := wide x.xl1.last } } else { x with xl0 := { x.xl0 with last := wide x.xl0.last } }
  | .xloopC n => if n then { x with xl1 := { x.xl1 with count := w } } else { x with xl0 := { x.xl0 with count := w } }
  | .ienable => { x with ienable := w &&& 3#32 }
  | .ipend => { x with mbox := x.mbox && !tb w 1, fpt := x.fpt && !tb w 2 }
  | .timecmpLo => { x with timecmp := setFld x.timecmp 31 0 w.toNat }
  | .timecmpHi => { x with timecmp := setFld x.timecmp 63 32 w.toNat }
  | .sxen => { x with sxen := w &&& 3#32 }
  | .cycleLo | .cycleHi | .whoami | .lcnt | .mcnt => x

/-- CSRR and CSRRA (R135); a read of CYCLE_LO latches bits [63:32] (Table 5-5). -/
def csrReadBody (toA : Bool) (r : BitVec 5) (num : BitVec 12) (e : Env) (s : State) : Res :=
  let x := s.strand e.k e.i
  if toA && decide (8 ≤ r.toNat) then illegal e
  else match csrOf e.k num with
  | none => illegal e
  | some c =>
    if c.sLevel && !x.handler e.k then privileged e
    else
      let v := c.value e.k e.i e.t x
      .done (s.modStrand e.k e.i fun y =>
        let y := if c = .cycleLo then { y with cycleHi := BitVec.ofNat 32 (e.t / 2 ^ 32) } else y
        if toA then y.wa (r.setWidth 3) v else y.putG e.t r (v.setWidth 32))

/-- CSRW and CSRWA (R134, R135). -/
def csrWriteBody (fromA : Bool) (r : BitVec 5) (num : BitVec 12) (e : Env) (s : State) : Res :=
  let x := s.strand e.k e.i
  if fromA && decide (8 ≤ r.toNat) then illegal e
  else match csrOf e.k num with
  | none => illegal e
  | some c =>
    let v : W48 := if fromA then x.ra (r.setWidth 3) else (x.rg r).setWidth 48
    if c.readOnly then illegal e
    else if c.sLevel && !x.handler e.k then privileged e
    else if c = .status ∧ x.priv = 0 ∧ v.getLsbD 0 ≠ x.mask then privileged e
    else .done (s.modStrand e.k e.i fun y => c.store e.k fromA v y)

/-- CSRR (R135). -/
def execCsrr (w : Who) (r : BitVec 5) (num : BitVec 12) (s : State) : Out :=
  .next (issue w { writes := [r] } (csrReadBody false r num) s)
/-- CSRW (R135). -/
def execCsrw (w : Who) (r : BitVec 5) (num : BitVec 12) (s : State) : Out := .next (issue w {} (csrWriteBody false r num) s)
/-- CSRRA (R135). -/
def execCsrra (w : Who) (r : BitVec 5) (num : BitVec 12) (s : State) : Out := .next (issue w {} (csrReadBody true r num) s)
/-- CSRWA (R135). -/
def execCsrwa (w : Who) (r : BitVec 5) (num : BitVec 12) (s : State) : Out := .next (issue w {} (csrWriteBody true r num) s)

/-- XRET (R166, R179). -/
def xretBody (e : Env) (s : State) : Res :=
  if !(s.strand e.k e.i).handler e.k then privileged e else .ret s

/-- RSTOP (R182). -/
def rstopBody (_ : Env) (s : State) : Res := .rest s

/-- Size of the class of RKST and RKLD (Table 6-7). -/
def rkSize (c : BitVec 2) : Nat :=
  match c.toNat with
  | 0 => 4
  | 1 => 8
  | _ => 128

def rkBad (o : OpK) : Bool := o.cls == 3#2 || (o.cls == 1#2 && decide (8 ≤ o.r.toNat))

/-- An error that a local store's code meets (R209): a corrected one is counted, an uncorrectable one counted, recorded and
notified. -/
def State.storeEcc (s : State) (k : Nat) (st : Store) (off : Nat) (ecc : Option Bool) : State :=
  match ecc with
  | none => s
  | some false => s.bump (Reg.CORE_ECC k) Reg.CORE_ECC.CORR 1
  | some true =>
    let s := s.bump (Reg.CORE_ECC k) Reg.CORE_ECC.UNCOR 1
    let s := s.setRf (Reg.CORE_ECC k) Reg.CORE_ECC.STORE (match st with | .ws => 0 | .as => 1 | .ps => 2 | .qram => 3)
    let s := s.setRf (Reg.CORE_ECC_ADDR k) Reg.CORE_ECC_ADDR.OFFSET (off / 8 * 8)
    s.note (.sramError k st (off / 8 * 8))

/-- What a read of a local store returns: the bytes, or a free value where a word of it is uncorrectable (R209). -/
def State.readStore (s : State) (k : Nat) (st : Store) (off n : Nat) (ecc : Option Bool) : Nat × State :=
  let s1 := s.storeEcc k st off ecc
  if ecc = some true then let (v, s2) := s1.fresh; (v % 2 ^ (8 * n), s2)
  else (s1.num (storeBase k st + off) n, s1)

/-- The check that an access lies within its store and in banks that are On (R160, R182, R208). -/
def State.storeFault (s : State) (k : Nat) (st : Store) (off n : Nat) : Option Nat :=
  if storeSize st < off + n then some off else (s.storeOff k st off n).map fun _ => off

/-- RKST (R166, R182). -/
def rkstBody (o : OpK) (e : Env) (s : State) : Res :=
  let x := s.strand e.k e.i
  let n := rkSize o.cls
  let off := x.rucksack.toNat + o.off.toNat * n
  if rkBad o then illegal e
  else if !x.handler e.k then privileged e
  else match s.storeFault e.k .as off n with
  | some a => .trap { code := 0x05, xtval := a }
  | none =>
    let bytes := match o.cls.toNat with
      | 0 => toBytes 4 (x.rg o.r).toNat
      | 1 => toBytes 8 (x.ra (o.r.setWidth 3)).toNat
      | _ => toBytes 128 (x.rv o.r).toNat
    .done (s.setBytes (storeBase e.k .as + off) bytes)

/-- RKLD (R166, R182). -/
def rkldBody (o : OpK) (e : Env) (s : State) : Res :=
  let x := s.strand e.k e.i
  let n := rkSize o.cls
  let off := x.rucksack.toNat + o.off.toNat * n
  if rkBad o then illegal e
  else if !x.handler e.k then privileged e
  else match s.storeFault e.k .as off n with
  | some a => .trap { code := 0x04, xtval := a }
  | none =>
    let (d, s1) := s.readStore e.k .as off n e.ecc
    .done (s1.modStrand e.k e.i fun y => match o.cls.toNat with
      | 0 => y.putG e.t o.r (BitVec.ofNat 32 d)
      | 1 => y.wa (o.r.setWidth 3) (BitVec.ofNat 48 d)
      | _ => y.putV e.t o.r (BitVec.ofNat 1024 d))

/-- A strand that has executed SEXIT goes Off when both counters are zero (R183), and its waiter entries go (R276). -/
def State.exitIfDone (s : State) (k i : Nat) : State :=
  let x := s.strand k i
  if x.exiting && x.lcnt == 0 && x.matrix == 0 then s.modStrand k i fun y => { y with run := .off, exiting := false } else s

/-- SEXIT (R183). -/
def sexitBody (e : Env) (s : State) : Res := .stay ((s.modStrand e.k e.i fun y => { y with exiting := true }).exitIfDone e.k e.i)

/-- XRET (R179). -/
def execXret (w : Who) (s : State) : Out := .next (issue w { noDelay := true, noLast := true } xretBody s)
/-- RSTOP (R182). -/
def execRstop (w : Who) (s : State) : Out := .next (issue w { noDelay := true } rstopBody s)
/-- RKST (R182). -/
def execRkst (w : Who) (o : OpK) (s : State) : Out := .next (issue w {} (rkstBody o) s)
/-- RKLD (R182). -/
def execRkld (w : Who) (o : OpK) (s : State) : Out :=
  .next (issue w { writes := if o.cls = 0 then [o.r] else [] } (rkldBody o) s)
/-- SEXIT (R183). -/
def execSexit (w : Who) (s : State) : Out := .next (issue w { noDelay := true, noLast := true } sexitBody s)

end Sys2Proof.Machine
end

