-- ==== Sys2Proof/Machine/Memory.lean ====
section
/-! DEFINITION. Loads, stores, cache instructions, DPICK, address-register arithmetic, and the events that complete them: fills,
walks (R146 to R148, R156 to R163, R211 to R234). -/

namespace Sys2Proof.Machine

/-! ### Local stores -/

/-- A steward core has no WS and no PS (R16, R160). -/
def noStore (k : Nat) (st : BitVec 2) : Bool := isSteward k && (st == 0#2 || st == 2#2)

/-- LDL (R160, R158). -/
def ldlBody (o : OpM) (e : Env) (s : State) : Res :=
  let x := s.strand e.k e.i
  let n := accessSize o.sz
  if sizeBad o || noStore e.k o.st then illegal e
  else
    let (ea, u) := effAddr x o.an o.am o.d n
    if ea.toNat % n ≠ 0 then .trap { code := 0x07, xtval := ea.toNat }
    else match s.storeFault e.k (storeOf o.st) ea.toNat n with
    | some a => .trap { code := 0x04, xtval := a }
    | none =>
      let (d, s1) := s.readStore e.k (storeOf o.st) ea.toNat n e.ecc
      .done (s1.modStrand e.k e.i fun y =>
        let y := y.postModify o.an u
        match loadDst o with
        | .g r _ => y.putG e.t r (loadExtend o.sz d)
        | .a r => y.wa r (BitVec.ofNat 48 d)
        | .v r => y.putV e.t r (BitVec.ofNat 1024 d)
        | .frag _ _ _ _ => y)

/-- STL (R160, R158). -/
def stlBody (o : OpM) (e : Env) (s : State) : Res :=
  let x := s.strand e.k e.i
  let n := accessSize o.sz
  if sizeBad o || noStore e.k o.st then illegal e
  else
    let (ea, u) := effAddr x o.an o.am o.d n
    if ea.toNat % n ≠ 0 then .trap { code := 0x07, xtval := ea.toNat }
    else match s.storeFault e.k (storeOf o.st) ea.toNat n with
    | some a => .trap { code := 0x05, xtval := a }
    | none =>
      .done ((s.setBytes (storeBase e.k (storeOf o.st) + ea.toNat) (storeBytes x o)).modStrand e.k e.i fun y => y.postModify o.an u)

/-! ### Memory -/

/-- A counted instruction joins the strand's outstanding ones (R147). -/
def Strand.addLoad (x : Strand) (l : Load) : Strand := { x with loads := x.loads ++ [l] }

/-- The offset in register space that a window address names. -/
def windowOffset (ea : W48) : Nat := ea.toNat - windowBase

/-- LD (R161, R158, R29). -/
def ldBody (o : OpM) (e : Env) (s : State) : Res :=
  let x := s.strand e.k e.i
  let n := accessSize o.sz
  if sizeBad o || o.st != 0#2 then illegal e
  else
    let (ea, u) := effAddr x o.an o.am o.d n
    let win := inWindow ea
    let count (p : Part) (s : State) : Res :=
      .done (((s.modStrand e.k e.i fun y => (y.postModify o.an u).addLoad { parts := [p] }).hintAccess e.k e.i o.an ea).pump e.k)
    if win && x.priv == 0 then privileged e
    else if ea.toNat % n ≠ 0 || (win && n != 8) then .trap { code := 0x07, xtval := ea.toNat }
    else if 8 ≤ x.lcnt then .hold s .loadLimit (some .loads)
    else if win then
      (if s.windowAllows e.k false (windowOffset ea) then count ⟨windowOffset ea, 8, loadDst o, none, .register (windowOffset ea)⟩ s
       else .trap { code := 0x04, xtval := ea.toNat })
    else match s.xlateFor e.k e.i .load ea.toNat with
    | (.fault, _) => .trap { code := 0x04, xtval := ea.toNat }
    | (.wait, s1) => .hold s1 .translation none
    | (.ok pa nc key, s1) =>
      let (p, s2) := s1.loadPart e.k pa n nc (loadDst o) key
      count p s2

/-- ST (R161, R158, R29, R214). -/
def stBody (o : OpM) (e : Env) (s : State) : Res :=
  let x := s.strand e.k e.i
  let n := accessSize o.sz
  if sizeBad o || o.st != 0#2 then illegal e
  else
    let (ea, u) := effAddr x o.an o.am o.d n
    let win := inWindow ea
    if win && x.priv == 0 then privileged e
    else if ea.toNat % n ≠ 0 || (win && n != 8) then .trap { code := 0x07, xtval := ea.toNat }
    else if win then
      (if !s.windowAllows e.k true (windowOffset ea) then .trap { code := 0x05, xtval := ea.toNat }
       else if 16 ≤ (s.core e.k).storeq.length then .hold s .storeQueue (some .storeQueue)
       else
         let (tag, s1) := s.newTag
         .done ((s1.modCore e.k fun c => { c with
             storeq := c.storeq ++ [⟨e.i, .reg (windowOffset ea), storeBytes x o, tag⟩] }).modStrand e.k e.i fun y => y.postModify o.an u))
    else match s.xlateFor e.k e.i .store ea.toNat with
    | (.fault, _) => .trap { code := 0x05, xtval := ea.toNat }
    | (.wait, s1) => .hold s1 .translation none
    | (.ok pa nc key, s1) =>
      if 16 ≤ (s1.core e.k).storeq.length then .hold s1 .storeQueue (some .storeQueue)
      else .done ((s1.pushStore e.k e.i pa nc key (storeBytes x o)).modStrand e.k e.i fun y => y.postModify o.an u)

/-- The field checks of the CACHE major (R162). -/
def cacheBad (o : OpM) (op : Nat) : Bool :=
  decide (o.rt.toNat ≠ op) || o.sz != 0#3 || o.st != 0#2

/-- PREF (R162, R216). -/
def prefBody (o : OpM) (e : Env) (s : State) : Res :=
  if cacheBad o 0 || formBad o.am o.d then illegal e
  else
    let (ea, u) := effAddr (s.strand e.k e.i) o.an o.am o.d lineBytes
    .done ((s.prefetch e.k e.i ea).modStrand e.k e.i fun y => y.postModify o.an u)

/-- PREF.S (R162, R217). -/
def prefSBody (o : OpM) (e : Env) (s : State) : Res :=
  if cacheBad o 1 || formBad o.am o.d || o.am != 1#2 then illegal e
  else .done (s.modStrand e.k e.i fun y => { y with hint := vset y.hint o.an.toNat (y.rg (o.d.setWidth 5)) })

/-- CINV (R162). -/
def cinvBody (o : OpM) (e : Env) (s : State) : Res :=
  if cacheBad o 2 || formBad o.am o.d then illegal e
  else
    let x := s.strand e.k e.i
    let (ea, u) := effAddr x o.an o.am o.d lineBytes
    let fin (s : State) : Res := .done (s.modStrand e.k e.i fun y => { (y.postModify o.an u) with invDrop := false })
    if inWindow ea || x.invDrop then fin s
    else match s.xlateFor e.k e.i .inv ea.toNat with
    | (.fault, s1) => fin s1
    | (.wait, s1) => .hold s1 .translation none
    | (.ok pa _ _, s1) => fin (s1.dropLine e.k (pa / lineBytes))

/-- CINV.ALL (R162). -/
def cinvAllBody (o : OpM) (e : Env) (s : State) : Res :=
  if cacheBad o 3 then illegal e else .done (s.dropAllLines e.k)

/-- DPICK (R163). Its line leaves the core's cache, so that a later load of the header by the strand returns what DPICK left there
(R146; log entry 17). -/
def dpickBody (o : OpM) (e : Env) (s : State) : Res :=
  let x := s.strand e.k e.i
  if o.am != 0#2 || o.sz != 5#3 || o.st != 0#2 then illegal e
  else
    let (ea, _) := effAddr x o.an o.am o.d 8
    if inWindow ea && x.priv == 0 then privileged e
    else if ea.toNat % 8 ≠ 0 then .trap { code := 0x07, xtval := ea.toNat }
    else if inWindow ea then .trap { code := 0x05, xtval := ea.toNat }
    else if 8 ≤ x.lcnt then .hold s .loadLimit (some .loads)
    else match s.xlateFor e.k e.i .pick ea.toNat with
    | (.fault, _) => .trap { code := 0x05, xtval := ea.toNat }
    | (.wait, s1) => .hold s1 .translation none
    | (.ok pa _ key, s1) =>
      match s1.site pa with
      | .clm u _ =>
        if isSteward e.k || u != clusterOf e.k then .trap { code := 0x05, xtval := ea.toNat }
        else
          let (age, s2) := s1.newTag
          .done (((s2.dropLine e.k (pa / lineBytes)).modStrand e.k e.i fun y =>
            y.addLoad { parts := [⟨pa, 4, .g o.rt false, key, .wantPick age⟩] }).pump e.k)
      | _ => .trap { code := 0x05, xtval := ea.toNat }

/-! ### Address-register arithmetic (R158) -/

def aaddiBody (ad as : BitVec 3) (imm : BitVec 18) (e : Env) (s : State) : Res :=
  .done (s.modStrand e.k e.i fun x => x.wa ad (x.ra as + imm.signExtend 48))
def amodBody (ad as : BitVec 3) (imm : BitVec 18) (e : Env) (s : State) : Res :=
  .done (s.modStrand e.k e.i fun x =>
    x.wa ad (updateAddr (x.ra as) (vget x.abase as.toNat) (vget x.actl as.toNat) imm.toInt))
def amovBody (ad : BitVec 3) (gl gh : BitVec 5) (e : Env) (s : State) : Res :=
  .done (s.modStrand e.k e.i fun x => x.wa ad (setFld ((x.rg gl).setWidth 48) 47 32 (x.rg gh).toNat))
def aaddBody (ad as : BitVec 3) (g : BitVec 5) (e : Env) (s : State) : Res :=
  .done (s.modStrand e.k e.i fun x => x.wa ad (x.ra as + (x.rg g).signExtend 48))

/-! ### Completion of counted instructions (R148) -/

/-- Data reaches its destination (R148, R158, Table 5-14). -/
def State.writeDst (s : State) (k i size : Nat) (dst : LoadDst) (data : Nat) : State :=
  match dst with
  | .g r sgn => s.modStrand k i fun x => x.wg r (if sgn then BitVec.ofInt 32 (signed (8 * size) data) else BitVec.ofNat 32 (data % 2 ^ (8 * size)))
  | .a r => s.modStrand k i fun x => x.wa r (BitVec.ofNat 48 data)
  | .v r => s.modStrand k i fun x => x.wv r (BitVec.ofNat 1024 data)
  | .frag j f row off => s.modStrand k j fun x =>
    { x with f := vset x.f f.toNat (setFld (vget x.f f.toNat) (8 * (128 * row + off + size) - 1) (8 * (128 * row + off)) data) }

/-- Waits that the load counter's fall satisfies (R147, R150, R183). -/
def State.releaseLoads (s : State) (k i : Nat) : State :=
  let x := s.strand k i
  (match x.run with
   | .waiting (.loads n) => if x.lcnt ≤ n then s.modStrand k i fun y => { (y.stepPast 4) with run := .running } else s
   | .waiting .loadLimit => if x.lcnt < 8 then s.modStrand k i fun y => { y with run := .running } else s
   | _ => s).exitIfDone k i

/-- A part of a counted instruction is written once its data is here; rd reads a register (R29). -/
def State.writePart (s : State) (k i : Nat) (rd : State → Nat → W64 × State) (p : Part) : State :=
  match p.st with
  | .ready d => s.writeDst k i p.size p.dst d
  | .register a => let (v, s1) := rd s a; s1.writeDst k i p.size p.dst v.toNat
  | _ => s

/-- A part whose data was here has been written. -/
def Part.settled (p : Part) : Part :=
  match p.st with
  | .ready _ | .register _ => { p with st := .written }
  | _ => p

/-- The n-th counted instruction outstanding of a strand writes what has arrived, and the counter falls in issue order (R148). -/
def State.completeLoad (s : State) (k i n : Nat) (rd : State → Nat → W64 × State) : State :=
  match (s.strand k i).loads[n]? with
  | none => s
  | some l =>
    let s1 := l.parts.foldl (fun s p => s.writePart k i rd p) s
    (s1.modStrand k i fun x =>
      Strand.dropLoads { x with loads := x.loads.set n { l with parts := l.parts.map Part.settled } }).releaseLoads k i

/-! ### Fills -/

/-- A fetched line arrives (R213, R214, R216): the loads that wait for it take their bytes, each with the stores issued before it;
the line with every merge is kept unless an invalidation came between. A failed fetch gives values that are not defined (R27). -/
def State.lineFill (s : State) (k line : Nat) : State :=
  match (s.core k).fetches.find? fun f => f.line == line && (f.data.isSome || f.failed) with
  | none => s
  | some f =>
    let (d, s) := match f.data with
      | some d => (d, s)
      | none => let (v, s1) := s.fresh; (BitVec.ofNat 1024 v, s1)
    let at_ (n : Nat) : VReg := (f.merges.take n).foldl lineMerge d
    let waited := (s.core k).parts.any fun p => match p.st with
      | .fetching t _ => t == f.tag
      | _ => false
    let l : Line := ⟨line, at_ f.merges.length⟩
    let s := s.modCore k fun c =>
      Core.mapParts { c with fetches := c.fetches.filter (·.tag != f.tag) } fun p => match p.st with
        | .fetching t n => if t = f.tag then { p with st := .ready (lineBits (at_ n) (p.pa % lineBytes) p.size) } else p
        | _ => p
    let s :=
      if !f.keep || f.failed then s
      else if f.demand then s.modCore k fun c => { c with l1 := cacheAlloc 3 c.l1 l, side := c.side.filter (·.line != line) }
      else if waited then
        (s.modCore k fun c => { c with l1 := cacheAlloc 3 c.l1 l }).bump (Reg.CORE_L1_PFUSE k) Reg.CORE_L1_PFUSE.PFUSE 1
      else s.modCore k fun c => { c with side := (if c.side.length < 16 then c.side else c.side.drop 1) ++ [l] }
    s.pump k

/-- INSTRUCTION_FILL: a fetch of a strand misses, and its line arrives (R219, R220). -/
def State.instructionFill (s : State) (w : Who) (va : W48) : State :=
  let k := w.core
  let i := w.strand
  let x := s.strand k i
  if !whoOk w || !(x.run == .running || x.run == .waiting .fetch) || !(va == x.pc || va == x.pc + 4) then s
  else
    let t := s.slotFor k i w.cycle
    let s := s.modCore k (Core.advance t)
    let fault (s : State) : State := s.syncCause k i t { code := 0x04, xtval := va.toNat }
    let go (s : State) : State := s.modStrand k i fun y => { y with run := .running }
    if inWindow va then fault s
    else match s.xlateFor k i .fetch va.toNat with
    | (.fault, s1) => fault s1
    | (.wait, s1) => if x.run = .running then s1.setRun k i (.waiting .fetch) (some (t, .icache)) else s1
    | (.ok pa _ key, s1) =>
      let line := pa / lineBytes
      match cacheFind 2 (s1.core k).icache line with
      | some _ => go (s1.modCore k fun c => { c with icache := cacheTouch 2 c.icache line })
      | none =>
        let s2 := s1.bump (Reg.CORE_IC_MISSES k) Reg.CORE_IC_MISSES.MISSES 1
        match s2.physRead (line * lineBytes) lineBytes key with
        | (.inl _, s3) => fault s3
        | (.inr b, s3) => go (s3.modCore k fun c => { c with icache := cacheAlloc 2 c.icache ⟨line, BitVec.ofNat 1024 (ofBytes b)⟩ })

/-! ### The end of a walk (R228 to R234) -/

/-- A waiting access walks or is answered again. -/
def State.walkAgain (s : State) (u : Nat) (w : Walker) : State :=
  match w with
  | .strand k i _ _ => match (s.strand k i).run with
    | .waiting .translation => s.modStrand k i fun x => { x with run := .running }
    | .waiting .fetch => s.modStrand k i fun x => { x with run := .running }
    | _ => s
  | .dma n _ _ _ => s.modCluster u fun c => { c with
    chans := Sparse.set (fun _ => {}) c.chans n { Sparse.get (fun _ => {}) c.chans n with waiting := false } }

/-- The cause of a translation that fails (Table 6-2). -/
def walkCause : Access → Nat
  | .rowLoad | .rowStore => 0x06
  | .fetch | .load => 0x04
  | .store | .pick | .inv => 0x05

/-- A waiting access gets the result of a translation that fails (R230). -/
def State.walkFails (s : State) (u : Nat) (w : Walker) : State :=
  match w with
  | .strand k i acc va =>
    if acc = .inv then s.modStrand k i fun x => { x with run := .running, invDrop := true }
    else
      let t := s.slotFor k i 0
      let s := s.atSlot k i t
      s.syncCause k i t { code := walkCause acc, xtval := va }
  | .dma n run _ _ => s.modCluster u fun c =>
    let ch := Sparse.get (fun _ => {}) c.chans n
    { c with
      chans := Sparse.set (fun _ => {}) c.chans n { ch with
        waiting := false
        runs := ch.runs.map fun r => if r.id = run ∧ r.bad.isNone then { r with bad := some 0x01 } else r } }

/-- Whether a leaf allows a waiting access. -/
def State.walkerAllowed (s : State) (e : W64) (w : Walker) : Bool :=
  match w with
  | .strand k i acc _ => allows e acc ((s.strand k i).priv == 0)
  | .dma _ _ write _ => allows e (if write then .store else .load) false

/-- PAGE_WALK_END: the k-th of the at most 16 walks in progress ends (R228, R231 to R234). -/
def State.pageWalkEnd (s : State) (u k : Nat) : State :=
  let c := s.cluster u
  match c.walks[k]? with
  | none => s
  | some w =>
    if 16 ≤ k then s
    else
      let leave (s : State) : State :=
        let s := if 16 < (s.cluster u).walks.length then s.bump (Reg.MMU_WALKS u) Reg.MMU_WALKS.WALKS 1 else s
        s.modCluster u fun c => { c with walks := c.walks.eraseIdx k }
      let va := w.page * 65536
      if w.stale then w.who.foldl (fun s x => s.walkAgain u x) (leave s)
      else match s.walk u va with
      | (.fault, s1) => w.who.foldl (fun s x => s.walkFails u x) (leave s1)
      | (.firmware, s1) =>
        if c.fq.any (·.page == w.page) then
          (leave s1).modCluster u fun c => { c with
            fq := c.fq.map fun q => if q.page = w.page then { q with who := q.who ++ w.who } else q }
        else if c.fq.length < 64 then
          ((leave s1).modCluster u fun c => { c with fq := c.fq ++ [⟨w.page, w.who⟩] }).note (.translation u)
        else s1
      | (.leaf e level at_, s1) =>
        let s2 := leave s1
        let good := w.who.filter (s2.walkerAllowed e)
        let s3 := if good.isEmpty then s2 else
          let (t, s3) := s2.installShared u va e level at_
          good.foldl (fun s x => match x with
            | .strand k _ acc _ => s.installCore k acc t
            | .dma _ _ _ _ => s) s3
        w.who.foldl (fun s x => if s2.walkerAllowed e x then s.walkAgain u x else s.walkFails u x) s3

/-! ### Commands -/

def memInfo (o : OpM) : Info := { writes := loadWrites o }

/-- LDL (R160). -/
def execLdl (w : Who) (o : OpM) (s : State) : Out := .next (issue w (memInfo o) (ldlBody o) s)
/-- STL (R160). -/
def execStl (w : Who) (o : OpM) (s : State) : Out := .next (issue w {} (stlBody o) s)
/-- LD (R161). -/
def execLd (w : Who) (o : OpM) (s : State) : Out := .next (issue w (memInfo o) (ldBody o) s)
/-- ST (R161). -/
def execSt (w : Who) (o : OpM) (s : State) : Out := .next (issue w {} (stBody o) s)
/-- PREF (R162). -/
def execPref (w : Who) (o : OpM) (s : State) : Out := .next (issue w {} (prefBody o) s)
/-- PREF.S (R162). -/
def execPrefS (w : Who) (o : OpM) (s : State) : Out := .next (issue w {} (prefSBody o) s)
/-- CINV (R162). -/
def execCinv (w : Who) (o : OpM) (s : State) : Out := .next (issue w {} (cinvBody o) s)
/-- CINV.ALL (R162). -/
def execCinvAll (w : Who) (o : OpM) (s : State) : Out := .next (issue w {} (cinvAllBody o) s)
/-- DPICK (R163). -/
def execDpick (w : Who) (o : OpM) (s : State) : Out := .next (issue w { writes := [o.rt] } (dpickBody o) s)
/-- AADDI (R158). -/
def execAaddi (w : Who) (ad as : BitVec 3) (imm : BitVec 18) (s : State) : Out := .next (issue w {} (aaddiBody ad as imm) s)
/-- AMOD (R158). -/
def execAmod (w : Who) (ad as : BitVec 3) (imm : BitVec 18) (s : State) : Out := .next (issue w {} (amodBody ad as imm) s)
/-- AMOV (R158). -/
def execAmov (w : Who) (ad : BitVec 3) (gl gh : BitVec 5) (s : State) : Out := .next (issue w {} (amovBody ad gl gh) s)
/-- AADD (R158). -/
def execAadd (w : Who) (ad as : BitVec 3) (g : BitVec 5) (s : State) : Out := .next (issue w {} (aaddBody ad as g) s)
/-- LINE_FILL (R213). -/
def execLineFill (core line : Nat) (s : State) : Out := .next (s.lineFill core line)
/-- INSTRUCTION_FILL (R219). -/
def execInstructionFill (w : Who) (va : W48) (s : State) : Out := .next (s.instructionFill w va)
/-- PAGE_WALK_END (R228). -/
def execPageWalkEnd (cluster k : Nat) (s : State) : Out := .next (s.pageWalkEnd cluster k)

end Sys2Proof.Machine
end

