-- ==== Sys2Proof/Machine/Tile.lean ====
section
/-! DEFINITION. TLOAD, TSTORE and their rows (R84 to R87). -/

namespace Sys2Proof.Machine

/-- Bytes per row (Table 3-5); none for the reserved code. -/
def rowBytes (rb : BitVec 2) : Option Nat :=
  match rb.toNat with
  | 0 => some 128
  | 1 => some 64
  | 2 => some 32
  | _ => none

/-- The condition of Table 3-6 that a tile instruction breaks. -/
def tileBad (o : OpTile) : Bool :=
  match rowBytes o.rb with
  | none => true
  | some n => (!o.g && decide (15 < o.rows.toNat)) || decide (128 < 32 * o.roff.toNat + n)

/-- An illegal shape: its reason is recorded for the strand (R87). -/
def shapeFault (e : Env) (op reason : Nat) (s : State) : Res :=
  .shape ((s.setRf (Reg.CORE_MX_SHAPE e.k e.i) Reg.CORE_MX_SHAPE.REASON reason).setRf (Reg.CORE_MX_SHAPE e.k e.i)
    Reg.CORE_MX_SHAPE.OP op) { code := 0x03, xtval := e.word, sub := reason }

/-- What the issue of one row comes to. -/
inductive RowRes where
  | issued (s : State)
  | hold (s : State) (why : WaitWhy) (lost : Option Lost)
  | trap (c : Cause)

/-- A row's bytes by cache line: virtual address and length of each part. -/
def rowPieces (va n : Nat) : List (Nat × Nat) :=
  let m := min n (lineBytes - va % lineBytes)
  (va, m) :: if m < n then [(va + m, n - m)] else []

/-- Every part of a row is translated before any of it is issued. -/
def State.rowXlate (s : State) (k i : Nat) (acc : Access) (va : Nat) : List (Nat × Nat) → List (Nat × Nat × Bool × Option Nat) →
    Except XRes (List (Nat × Nat × Bool × Option Nat)) × State
  | [], done => (.ok done.reverse, s)
  | (a, n) :: l, done =>
    match s.xlate (clusterOf k) (some k) acc ((s.strand k i).priv == 0) a false (.strand k i acc va) with
    | (.ok pa nc key, s1) => s1.rowXlate k i acc va l ((pa, n, nc, key) :: done)
    | (r, s1) => (.error r, s1)

/-- A part of the strand's newest counted instruction. -/
def Strand.addPart (x : Strand) (p : Part) : Strand :=
  { x with loads := match x.loads.reverse with
      | [] => []
      | l :: r => (({ l with parts := l.parts ++ [p] }) :: r).reverse }

/-- One row of a tile instruction issues (R84 to R86): row TSTART of the run. -/
def rowIssue (r : TileRun) (e : Env) (s : State) : RowRes :=
  let x := s.strand e.k e.i
  let n := x.tstart.toNat
  let va := r.base + BitVec.ofInt 48 (n * r.stride.toInt)
  let size := (rowBytes r.o.rb).getD 0
  let owner := if r.o.g then n / 16 else e.i
  let off := 32 * r.o.roff.toNat
  let pieces := rowPieces va.toNat size
  if inWindow va && x.priv == 0 then .trap { code := 0x02, xtval := e.word }
  else if va.toNat % 16 ≠ 0 || inWindow va then .trap { code := 0x07, xtval := va.toNat }
  else match s.rowXlate e.k e.i (if r.store then .rowStore else .rowLoad) va.toNat pieces [] with
  | (.error .wait, s1) => .hold s1 .translation none
  | (.error _, _) => .trap { code := 0x06, xtval := va.toNat }
  | (.ok l, s1) =>
    if r.store && decide (16 < (s1.core e.k).storeq.length + l.length) then .hold s1 .storeQueue (some .storeQueue)
    else
      let frag := (vget (s1.strand e.k owner).f r.o.fidx.toNat).toNat
      let (s2, _) := l.foldl (fun (s, d) (pa, m, nc, key) =>
        if r.store then
          (s.pushStore e.k e.i pa nc key (toBytes m (frag >>> (8 * (128 * (n % 16) + off + d)))), d + m)
        else
          let (p, s1) := s.loadPart e.k pa m nc (.frag owner r.o.fidx (n % 16) (off + d)) key
          (s1.modStrand e.k e.i fun y => y.addPart p, d + m)) (s1, 0)
      .issued (if r.store then s2 else (s2.hintAccess e.k e.i r.o.ab va).pump e.k)

/-- A row has issued: TSTART names the next one, or is cleared after the last (R85); the count of the instruction may then go
(R86). -/
def State.afterRow (s : State) (k i : Nat) (last : Bool) : State :=
  s.modStrand k i fun x =>
    if last then Strand.dropLoads { x with tstart := 0, tile := none, loads := x.loads.map fun l => { l with issuing := false } }
    else { x with tstart := x.tstart + 1 }

/-- TLOAD and TSTORE: the first row, TSTART, issues with the instruction. -/
def tileBody (store : Bool) (o : OpTile) (e : Env) (s : State) : Res :=
  let x := s.strand e.k e.i
  let r : TileRun := ⟨store, o, x.ra o.ab, x.rg o.gs, x.delay.isSome⟩
  if isSteward e.k || (o.g && e.i != 0) then illegal e
  else if tileBad o then shapeFault e (if store then 3 else 2) 0x0D s
  else if 8 ≤ x.lcnt then .hold s .loadLimit (some .loads)
  else if o.rows.toNat < x.tstart.toNat then .done (s.modStrand e.k e.i fun y => { y with tstart := 0 })
  else
    let s1 := s.modStrand e.k e.i fun y => { (y.addLoad { issuing := true }) with tile := some r }
    match rowIssue r e s1 with
    | .trap c => .trap c
    | .hold s2 why lost =>
      .hold (s2.modStrand e.k e.i fun y => { y with tile := none, loads := y.loads.dropLast }) why lost
    | .issued s2 =>
      if x.tstart.toNat = o.rows.toNat then .done (s2.afterRow e.k e.i true) else .stay (s2.afterRow e.k e.i false)

/-- TILE_ROW: a tile instruction in progress issues its next row in the strand's slot (R84); a deferrable cause may be taken before
it (R172). -/
def State.tileRow (s : State) (w : Who) : State :=
  let k := w.core
  let i := w.strand
  match (s.strand k i).tile with
  | none => s
  | some r =>
    if !whoOk w || (s.strand k i).run != .running then s
    else
      let t := s.slotFor k i w.cycle
      let s1 := s.atSlot k i t
      let x := s1.strand k i
      let e : Env := ⟨k, i, t, w.word.toNat, w.ecc⟩
      if x.haltReq && x.boundary then s1.enterRest k i 2 0 0 x.pc
      else match s1.tryDeferrable k i t with
      | some s2 => s2
      | none => match rowIssue r e s1 with
        | .trap c => s1.syncCause k i t c
        | .hold s2 why lost => s2.setRun k i (.waiting why) (lost.map (t, ·))
        | .issued s2 =>
          let last := x.tstart.toNat == r.o.rows.toNat
          (s2.afterRow k i last).modStrand k i fun y => { (if last then y.stepPast 8 else y) with nextSlot := t + 4 }

/-- TLOAD (R84). -/
def execTload (w : Who) (o : OpTile) (s : State) : Out := .next (issue w { len := 8 } (tileBody false o) s)
/-- TSTORE (R84). -/
def execTstore (w : Who) (o : OpTile) (s : State) : Out := .next (issue w { len := 8 } (tileBody true o) s)
/-- TILE_ROW (R84). -/
def execTileRow (w : Who) (s : State) : Out := .next (s.tileRow w)

end Sys2Proof.Machine
end

