-- ==== Sys2Proof/Machine/Matrix.lean ====
section
/-! DEFINITION. MMA, MDRAIN, the runs and the completion of matrix instructions (R65 to R95, R119 to R123). -/

namespace Sys2Proof.Machine

/-! ### Shape (R87, Table 3-6) -/

/-- The formats of a matrix operand (Table 2-1). -/
def mxOperand (c : BitVec 4) : Option Fmt :=
  match Fmt.ofCode c with
  | some f => if f.width ≤ 16 then some f else none
  | none => none

/-- K, RUN, ROWS and COLS of the encodings (Tables 3-2 and 3-3). -/
def mmaK (o : OpMma) : Nat := o.klen.toNat + 1
def mmaRunLen (o : OpMma) : Nat := 8 * 2 ^ o.run.toNat
def mmaRows (o : OpMma) : Nat := o.rows.toNat + 1
def mmaCols (o : OpMma) : Nat := o.cols.toNat + 1
def drainRows (o : OpDrain) : Nat := o.rows.toNat + 1
def drainCols (o : OpDrain) : Nat := o.cols.toNat + 1

/-- The block span of a pair with a block operand (R48, R74). -/
def blockSpan (a b : Fmt) : Nat := if a = .yb8 ∨ b = .yb8 then 16 else 32

/-- The strands whose banks an instruction uses (R67). -/
def mxBanks (g : Bool) (i : Nat) : List Nat := if g then [0, 1, 2, 3] else [i]

/-- The PS offset is not that of slots within the PS (R76). -/
def psBad (p : Nat) (g : Bool) : Bool := decide (p % 0x2000 ≠ 0) || decide ((if g then 0x38000 else 0x3E000) < p)

/-- Bytes that n groups of K values take in the AS and the WS (R69, R70). -/
def groupsOf (f : Fmt) (k : Nat) : Nat := (k + f.group - 1) / f.group

/-- An AS region misplaced (R79). -/
def asBad (a n : Nat) : Bool := decide (a % 32 ≠ 0) || decide (storeSize .as < a + n)

/-- The first condition of Table 3-6 that an MMA breaks. -/
def mmaShape (c : Core) (g : Bool) (i : Nat) (o : OpMma) : Option Nat :=
  let x := vget c.strands i
  match mxOperand o.ta, mxOperand o.tb with
  | some a, some b =>
    let k := mmaK o
    let p := min a.group b.group
    let ws := (x.rg o.gb).toNat
    let sb := (x.rg (o.gb + 1)).toNat
    if k % p ≠ 0 then some 0x02
    else if (!o.asrc && decide (64 * a.group < k)) || (a.isBlock && decide (8 * a.blockLen < k)) then some 0x03
    else if (a.isBlock || b.isBlock) && (decide (mmaRunLen o * p % blockSpan a b ≠ 0) || (a.isBlock && decide (k % a.blockLen ≠ 0))
      || (b.isBlock && decide (k % b.blockLen ≠ 0))) then some 0x04
    else if o.dest = 2 ∧ mmaRunLen o < k / p then some 0x05
    else if o.dest = 3 then some 0x06
    else if o.dest ≠ 2 ∧ psBad (x.rg o.gp).toNat g then some 0x07
    else if ws % 128 ≠ 0 ∨ storeSize .ws < ws + 128 * groupsOf b k ∨
      (b.isBlock ∧ (o.gb = 31 ∨ sb % 64 ≠ 0 ∨ storeSize .ws < sb + 64 * (k / b.blockLen))) then some 0x08
    else if o.asrc && (mxBanks g i).any (fun j => asBad ((vget c.strands j).ra o.aidx).toNat (32 * groupsOf a k)) then some 0x09
    else none
  | _, _ => some 0x01

/-- The formats of TD in any destination, in a fragment or in step layout, and of TF (R82, Table 3-4). -/
def drainFmt (f : Fmt) : Bool := decide (f.width ≤ 16) || f == .fp32 || f == .s32
def fuseFmt (f : Fmt) : Bool := f == .bf16 || f == .fp16 || f == .fp32 || f == .s8 || f == .s32

/-- Bytes from the first that a tensor in row layout and a drain in step layout touch (Table 3-4). -/
def rowExtent (f : Fmt) (rows cols : Nat) : Nat := ((rows - 1) * 64 * f.width + cols * f.width + 7) / 8
def stepExtent (f : Fmt) (rows cols : Nat) : Nat := 32 * ((cols - 1) / max 1 f.group) + 2 * rows

/-- The first condition of Table 3-6 that an MDRAIN breaks. -/
def drainShape (c : Core) (g : Bool) (i : Nat) (o : OpDrain) : Option Nat :=
  let x := vget c.strands i
  let rows := drainRows o
  let cols := drainCols o
  let fused := o.fuse = 1 ∨ o.fuse = 2
  match Fmt.ofCode o.td with
  | none => some 0x01
  | some td =>
    let tf := Fmt.ofCode o.tf
    if !drainFmt td ∨ (fused ∧ !tf.any fuseFmt) then some 0x01
    else if o.fuse = 3 then some 0x06
    else if !o.src && psBad (x.rg o.gp).toNat g then some 0x07
    else if (o.dst && (mxBanks g i).any fun j => asBad ((vget c.strands j).ra o.didx).toNat
        (if o.lay then stepExtent td rows cols else rowExtent td rows cols))
      ∨ (fused ∧ (mxBanks g i).any fun j => asBad ((vget c.strands j).ra o.fidx).toNat (rowExtent (tf.getD .bf16) rows cols)) then some 0x09
    else if (o.lay && !o.dst) || ((o.lay || !o.dst) && decide (16 < td.width)) then some 0x0A
    else if !o.dst && decide (1024 / td.width < 64 * o.coff.toNat + cols) then some 0x0B
    else if td.isBlock && (decide (cols % td.blockLen ≠ 0) || decide (8 < o.soff.toNat + cols / td.blockLen)) then some 0x0C
    else none

/-! ### Banks of the stores (R94, R206, R208) -/

/-- Bytes of a local store that a matrix instruction touches, and whether it reads them. -/
structure MxRange where
  read : Bool
  store : Store
  off : Nat
  len : Nat
deriving DecidableEq, Repr

/-- Number of a bank in CORE_LS_EN (Table 7-3). -/
def lsBankBit (st : Store) (n : Nat) : Nat :=
  match st with
  | .ws => n
  | .as => 16 + n
  | _ => 32 + n

/-- A bank that a matrix instruction may use: On, and no power-down asked of it (R206 step 1). -/
def State.mxBankOn (s : State) (k : Nat) (st : Store) (n : Nat) : Bool :=
  s.bankState (.ls k st n) == .on && !s.stops.contains (.ls k st n)

/-- The first byte of a range that lies in a bank that is not. -/
def State.rangeOff (s : State) (k : Nat) (r : MxRange) : Option Nat :=
  let lo := r.off / bankSize r.store
  let hi := (r.off + r.len - 1) / bankSize r.store
  ((List.range (hi + 1 - lo)).map (lo + ·)).findSome? fun b =>
    if s.mxBankOn k r.store b then none else some (max r.off (b * bankSize r.store))

/-- The cause that R208 gives a matrix instruction: 0x04 when it would read such a bank, 0x05 when it would only write one. -/
def State.mxRefused (s : State) (k : Nat) (l : List MxRange) : Option Cause :=
  match (l.filter (·.read)).findSome? (s.rangeOff k) with
  | some a => some { code := 0x04, xtval := a }
  | none => ((l.filter (!·.read)).findSome? (s.rangeOff k)).map fun a => { code := 0x05, xtval := a }

/-- PS rows of a slot. -/
def psLen (rows cols : Nat) : Nat := 512 * (rows - 1) + 8 * cols

/-- Steps of an MMA (R68) and whether its pair is an integer pair (Table 2-5). -/
def mmaP (o : OpMma) : Nat := min ((mxOperand o.ta).getD .bf16).group ((mxOperand o.tb).getD .bf16).group
def mmaSteps (o : OpMma) : Nat := mmaK o / mmaP o
def mmaInteger (o : OpMma) : Bool :=
  ((mxOperand o.ta).getD .bf16).int?.isSome && ((mxOperand o.tb).getD .bf16).int?.isSome

def MmaRun.ranges (r : MmaRun) : List MxRange :=
  let a := (mxOperand r.o.ta).getD .bf16
  let b := (mxOperand r.o.tb).getD .bf16
  let k := mmaK r.o
  (if r.o.asrc then r.banks.map fun m => ⟨true, .as, m.aoff, 32 * groupsOf a k⟩ else [])
  ++ [⟨true, .ws, r.b, 128 * groupsOf b k⟩]
  ++ (if b.isBlock then [⟨true, .ws, r.sb, 64 * (k / b.blockLen)⟩] else [])
  ++ (if r.o.dest = 2 then [] else r.banks.map fun m =>
      ⟨r.o.dest == 0#2 || decide (mmaRunLen r.o < mmaSteps r.o), .ps, m.ps, psLen (mmaRows r.o) (mmaCols r.o)⟩)

def DrainRun.ranges (r : DrainRun) : List MxRange :=
  let rows := drainRows r.o
  let cols := drainCols r.o
  let td := (Fmt.ofCode r.o.td).getD .bf16
  (if r.o.src then [] else r.banks.map fun b => ⟨true, .ps, b.ps, psLen rows cols⟩)
  ++ (if r.o.fuse = 0 then [] else r.banks.map fun b => ⟨true, .as, b.foff, rowExtent ((Fmt.ofCode r.o.tf).getD .bf16) rows cols⟩)
  ++ (if r.o.dst then r.banks.map fun b => ⟨false, .as, b.doff, if r.o.lay then stepExtent td rows cols else rowExtent td rows cols⟩
      else [])

def MxRun.ranges : MxRun → List MxRange
  | .mma r => r.ranges
  | .drain r => r.ranges

/-- Whether an outstanding matrix instruction of a core touches a bank (R94). -/
def State.mxTouches (s : State) (k : Nat) (st : Store) (n : Nat) : Bool :=
  (s.core k).mx.any fun r => r.ranges.any fun g =>
    g.store == st && decide (g.off / bankSize st ≤ n) && decide (n ≤ (g.off + g.len - 1) / bankSize st)

/-! ### Issue (R78, R88, R112) -/

/-- A matrix instruction joins the unit's queue (R88, R89). -/
def State.pushMx (s : State) (e : Env) (r : MxRun) : State :=
  (s.modCore e.k fun c => { c with mx := c.mx ++ [r] }).modStrand e.k e.i fun x => { x with matrix := x.matrix + 1 }

/-- What every matrix instruction takes at issue. -/
def mxBase (e : Env) (x : Strand) : MxBase := ⟨e.i, x.pc, x.precise && x.micro.isNone, x.fpctl, e.ecc, []⟩

/-- MMA and MMA.G. -/
def mmaBody (g : Bool) (o : OpMma) (e : Env) (s : State) : Res :=
  let c := s.core e.k
  let x := s.strand e.k e.i
  if isSteward e.k || (g && e.i != 0) then illegal e
  else if 2 ≤ x.matrix then .hold s .matrixLimit (some .matrix)
  else match mmaShape c g e.i o with
  | some reason => shapeFault e 0 reason s
  | none =>
    let r : MmaRun :=
      { base := mxBase e x, o := o, b := (x.rg o.gb).toNat, sb := (x.rg (o.gb + 1)).toNat, step := 0
        banks := (mxBanks g e.i).map fun j => let y := vget c.strands j
          ⟨j, (x.rg o.gp).toNat + (if g then 0x2000 * j else 0), (y.ra o.aidx).toNat, y.rv o.vsa⟩ }
    match s.mxRefused e.k r.ranges with
    | some cause => .trap cause
    | none => .mx (s.pushMx e (.mma r))

/-- MDRAIN and MDRAIN.G. -/
def drainBody (g : Bool) (o : OpDrain) (e : Env) (s : State) : Res :=
  let c := s.core e.k
  let x := s.strand e.k e.i
  match Rm.ofField o.rm x.rm with
  | none => illegal e
  | some rm =>
    if isSteward e.k || (g && e.i != 0) then illegal e
    else if 2 ≤ x.matrix then .hold s .matrixLimit (some .matrix)
    else match drainShape c g e.i o with
    | some reason => shapeFault e 1 reason s
    | none =>
      let r : DrainRun :=
        { base := mxBase e x, o := o, rm := rm, act := c.act, worked := false
          banks := (mxBanks g e.i).map fun j => let y := vget c.strands j
            ⟨j, (x.rg o.gp).toNat + (if g then 0x2000 * j else 0), (y.ra o.didx).toNat, (y.ra o.fidx).toNat, y.epictl⟩ }
      match s.mxRefused e.k r.ranges with
      | some cause => .trap cause
      | none => .mx (s.pushMx e (.drain r))

/-! ### One run (R47 to R50, R69 to R75) -/

/-- An element of a matrix operand: its code and, for a block format, its scale byte (R39 to R44, Table 2-3). -/
def matElem (f : Fmt) (raw scale : Nat) : Val :=
  match f.float?, f.int? with
  | some g, _ => match g.decode raw with
    | .nan _ => .nan false
    | v => v
  | none, some (sg, w) => Val.ofInt (if sg then signed w raw else raw)
  | none, none =>
    if scale = 0 then .fin false 0 0
    else if scale = 0xFF ∨ (f = .yb8 ∧ raw = 0x80) then .nan false
    else (Val.ofInt (signed f.width raw)).scale ((scale : Int) - 127)

/-- A value rounded into the cell format (R46, R47). -/
def cellRound (v : Val) : Val :=
  match v with
  | .fin neg m e =>
    if ilog2 m ≤ 23 then v else let lsb : Int := (ilog2 m : Int) + e - 23; .fin neg (roundTo .rne neg m e lsb 0).1 lsb
  | .nan _ => .nan false
  | .inf neg => .inf neg

/-- An addition into a cell: only NV may be set (R52, R54). -/
def cellAdd (acc : Val × FpFlags) (p : Val × FpFlags) : Val × FpFlags :=
  let (v, f) := Val.add false acc.1 p.1
  (cellRound v, (acc.2 ||| p.2 ||| f) &&& FpFlags.nv)

/-- A list cut into pieces of n, over fuel. -/
def piecesOf {α : Type} (n : Nat) : Nat → List α → List (List α)
  | 0, _ => []
  | f + 1, l => if l.isEmpty then [] else l.take n :: piecesOf n f (l.drop n)

/-- A cell's value after a run over two operand sequences (R47, R48, R49). -/
def cellRun (a b : Fmt) (xs ys : List Val) : Val × FpFlags :=
  let prods := List.zipWith Val.mul xs ys
  if a.int?.isSome && b.int?.isSome then (Val.ofInt (prods.foldl (fun t p => t + p.1.floor) 0), 0#6)
  else if a.float?.isSome || b.float?.isSome then prods.foldl cellAdd (.fin false 0 0, 0#6)
  else
    (piecesOf (blockSpan a b) prods.length prods).foldl (fun acc l =>
      cellAdd acc (l.foldl (fun t p => ((Val.add false t.1 p.1).1, 0#6)) (.fin false 0 0, 0#6))) (.fin false 0 0, 0#6)

/-- Rows of operand A over values κ0 to κ0 + n - 1 (R69, R71). -/
def State.readA (s : State) (k : Nat) (r : MmaRun) (m : MmaBank) (k0 n : Nat) : List (List Val) :=
  let f := (mxOperand r.o.ta).getD .bf16
  let g := f.group
  let q0 := k0 / g
  let region := if r.o.asrc then s.num (storeBase k .as + m.aoff + 32 * q0) (32 * (groupsOf f (k0 + n) - q0)) else 0
  let frag := (vget (s.strand k m.bank).f r.o.aidx.toNat).toNat
  (List.range (mmaRows r.o)).map fun i => (List.range n).map fun d =>
    let kap := k0 + d
    let raw := if r.o.asrc then elt f.width (elt 16 region (16 * (kap / g - q0) + i)) (kap % g)
      else elt f.width frag (1024 / f.width * i + kap)
    matElem f raw (elt 8 m.scales.toNat (8 * i + kap / f.blockLen))

/-- Columns of operand B over values κ0 to κ0 + n - 1 (R70), and what its store's code meets. -/
def State.readB (s : State) (k : Nat) (r : MmaRun) (k0 n : Nat) (ecc : Option Bool) : List (List Val) × State :=
  let f := (mxOperand r.o.tb).getD .bf16
  let g := f.group
  let q0 := k0 / g
  let (region, s1) := s.readStore k .ws (r.b + 128 * q0) (128 * (groupsOf f (k0 + n) - q0)) ecc
  let b0 := k0 / f.blockLen
  let scales := if f.isBlock then s.num (storeBase k .ws + r.sb + 64 * b0) (64 * ((k0 + n - 1) / f.blockLen + 1 - b0)) else 0
  ((List.range (mmaCols r.o)).map fun j => (List.range n).map fun d =>
    let kap := k0 + d
    matElem f (elt f.width (elt 16 region (64 * (kap / g - q0) + j)) (kap % g)) (elt 8 scales (64 * (kap / f.blockLen - b0) + j)), s1)

/-- A row of PS totals after a run's values are promoted into it (R51, R75). -/
def promoteRow (integer init : Bool) (old : Nat) (vals : List Val) : Nat × FpFlags :=
  let l := vals.zipIdx.map fun (v, j) =>
    let t := elt 64 old j
    if integer then (wrap 64 ((if init then 0 else (t : Int)) + v.floor), 0#6)
    else
      let w := (FFmt.fp64.round true .rne false 0 v).1
      if init then (w, 0#6) else ps64Add t w
  (packElts 64 (l.map (·.1)), l.foldl (fun f p => f ||| p.2) 0#6)

/-- Flags raised for a bank. -/
def MxBase.raise (b : MxBase) (bank : Nat) (f g : FpFlags) : MxBase :=
  { b with flags := b.flags ++ [(bank, f, g)] }

/-- One run of a bank: HOLD leaves its values in the cells, every other run promotes them into the PS totals and leaves the cells at
zero (R73, R75). -/
def State.bankRun (s : State) (k : Nat) (r : MmaRun) (cols : List (List Val)) (k0 n : Nat) (m : MmaBank) : FpFlags × State :=
  let a := (mxOperand r.o.ta).getD .bf16
  let b := (mxOperand r.o.tb).getD .bf16
  let rows := (s.readA k r m k0 n).map fun xs => cols.map fun ys => cellRun a b xs ys
  let fl := rows.foldl (fun f l => l.foldl (fun f p => f ||| p.2) f) 0#6
  if r.o.dest = 2 then
    let cell (i j : Nat) : Val := (((rows.getD i []).map (·.1)).getD j (.fin false 0 0))
    let bank : Bank := ⟨(List.range 1024).map fun q => cell (q / 64) (q % 64), mmaInteger r.o⟩
    (fl, s.modCore k fun c => { c with banks := vset c.banks m.bank bank })
  else
    let s1 := s.modCore k fun c => { c with banks := vset c.banks m.bank ⟨[], mmaInteger r.o⟩ }
    rows.zipIdx.foldl (fun (f, s) (l, i) =>
      let at_ := storeBase k .ps + m.ps + 512 * i
      let (x, g) := promoteRow (mmaInteger r.o) (r.o.dest == 1#2 && r.step == 0) (s.num at_ (8 * l.length)) (l.map (·.1))
      (f ||| g, s.setNum at_ (8 * l.length) x)) (fl, s1)

/-- The next run of an MMA over all its banks. -/
def State.mmaRun (s : State) (k : Nat) (r : MmaRun) : MmaRun × State :=
  let n := min (mmaRunLen r.o) (mmaSteps r.o - r.step)
  let p := mmaP r.o
  let (cols, s1) := s.readB k r (r.step * p) (n * p) (if r.step = 0 then r.base.ecc else none)
  let (base, s2) := r.banks.foldl (fun (b, s) m =>
    let (f, s1) := s.bankRun k r cols (r.step * p) (n * p) m
    (b.raise m.bank f 0#6, s1)) (r.base, s1)
  ({ r with base := base, step := r.step + n }, s2.bump (Reg.CORE_MX_STEPS k) Reg.CORE_MX_STEPS.STEPS (n * r.banks.length))

/-! ### Draining (R80 to R83, R116, R120) -/

/-- A rounding into FP64 by RTO that no mode touches (R80). -/
def rto64 (v : Val × FpFlags) : Val × FpFlags :=
  let (b, f) := FFmt.fp64.round true .rto false 0 v.1
  (quiet64 b, v.2 ||| f)

/-- An element of the fused tensor, read under the drain strand's mode (R80 step 2). -/
def fuseRead (tf : Fmt) (conf : Bool) (raw : Nat) : Val × FpFlags :=
  match tf.float?, tf.int? with
  | some f, _ => let (v, g) := f.read conf raw
    (match v with
      | .nan s => (.nan false, g ||| FpFlags.when s FpFlags.nv)
      | v => (v, g))
  | none, some (sg, w) => (Val.ofInt (if sg then signed w raw else raw), 0#6)
  | none, none => (.fin false 0 0, 0#6)

/-- The fused combination (R80 step 2). -/
def fuseElt (mul integer : Bool) (tf : Fmt) (v : Val) (t : Val × FpFlags) : Val × FpFlags :=
  if integer && tf.int?.isSome then
    (Val.ofInt (signed 64 (wrap 64 (if mul then v.floor * t.1.floor else v.floor + t.1.floor))), 0#6)
  else
    let (x, f) := if integer then rto64 (v, 0#6) else (v, 0#6)
    let (y, g) := if mul then Val.mul x t.1 else Val.add false x t.1
    rto64 (y, f ||| g ||| t.2)

/-- Low n bits of a number in memory replaced. -/
def State.setLowBits (s : State) (pa n x : Nat) : State :=
  let bytes := (n + 7) / 8
  let old := s.num pa bytes
  s.setNum pa bytes (old / 2 ^ n * 2 ^ n + x % 2 ^ n)

/-- A drained row reaches its destination (Table 3-4). -/
def State.putRow (s : State) (k : Nat) (r : DrainRun) (b : DrainBank) (td : Fmt) (i : Nat) (xs : List Nat) : State :=
  let w := td.width
  if !r.o.dst then
    s.modStrand k b.bank fun x =>
      let f := vget x.f r.o.didx.toNat
      let lo := w * (1024 / w * i + 64 * r.o.coff.toNat)
      { x with f := vset x.f r.o.didx.toNat (setFld f (lo + w * xs.length - 1) lo (packElts w xs)) }
  else
    let base := storeBase k .as + b.doff
    if r.o.lay then
      (piecesOf td.group xs.length xs).zipIdx.foldl (fun s (l, q) =>
        s.setLowBits (base + 32 * q + 2 * i) (w * l.length) (packElts w l)) s
    else s.setLowBits (base + 8 * w * i) (w * xs.length) (packElts w xs)

/-- A row's source values (R80 step 1). -/
def State.drainSource (s : State) (k : Nat) (r : DrainRun) (b : DrainBank) (i : Nat) (ecc : Option Bool) : List Val × Bool × State :=
  let cols := drainCols r.o
  if r.o.src then
    let bank := vget (s.core k).banks b.bank
    ((List.range cols).map fun j => bank.cells.getD (64 * i + j) (.fin false 0 0), bank.integer, s)
  else
    let (row, s1) := s.readStore k .ps (b.ps + 512 * i) (8 * cols) ecc
    ((List.range cols).map fun j =>
      let t := elt 64 row j
      if r.o.scls then Val.ofInt (signed 64 t) else quiet64 t, r.o.scls, s1)

/-- The final conversion of a row (R80 step 3, R83): elements, scale bytes, flags, and how many draws it made (R116). -/
def drainConvert (td : Fmt) (conf : Bool) (rm : Rm) (sat : Bool) (seed ctr : Nat) (vals : List Val) :
    List Nat × List Nat × FpFlags × Nat :=
  if td.isBlock then
    let n := td.blockLen
    let bl := (piecesOf n vals.length vals).zipIdx.map fun (l, q) =>
      encodeBlock (td == Fmt.yb4) rm sat (fun j => drawBits seed ctr (n * q + j)) (fun j => drawBits seed ((ctr + 1) % 2 ^ 64) (n * q + j)) l
    (bl.flatMap (·.1), bl.map (·.2.1), bl.foldl (fun f p => f ||| p.2.2.1) 0#6,
      if rm = .sr then (if bl.any (·.2.2.2) then 2 else 1) else 0)
  else
    let l := vals.zipIdx.map fun (v, j) => convertElt td conf rm sat (drawBits seed ctr j) v
    (l.map (·.1), [], l.foldl (fun f p => f ||| p.2) 0#6, if rm = .sr then 1 else 0)

/-- One row of a drain (R80). -/
def State.drainRow (s : State) (k : Nat) (r : DrainRun) (b : DrainBank) (i : Nat) : FpFlags × FpFlags × State :=
  let o := r.o
  let td := (Fmt.ofCode o.td).getD .bf16
  let tf := (Fmt.ofCode o.tf).getD .bf16
  let conf := tb r.base.fpctl 0
  let cols := drainCols o
  let (src, integer, s1) := s.drainSource k r b i (if i = 0 then r.base.ecc else none)
  let fusedRow := if o.fuse = 0 then 0 else s.num (storeBase k .as + b.foff + 8 * tf.width * i) ((tf.width * cols + 7) / 8)
  let vals : List (Val × FpFlags) := src.zipIdx.map fun (v, j) =>
    if o.fuse = 0 then (v, 0#6) else fuseElt (o.fuse == 2#2) integer tf v (fuseRead tf conf (elt tf.width fusedRow j))
  let c := (s1.core k).genSettled
  let seed := c.seed.toNat
  let ctr := c.ctr.toNat
  let fl := vals.foldl (fun f p => f ||| p.2) 0#6
  let regs (n : Nat) : VReg := vget (s.strand k b.bank).v n
  let chain : List ((Val × FpFlags) × FpFlags) := vals.zipIdx.map fun ((v, _), j) =>
    if !o.epi then ((v, 0#6), 0#6)
    else
      let (x, f) := f32r conf .rto 0 (v, 0#6)
      let last : LastRm := if td = .fp32 then ⟨r.rm, drawBits seed ctr j⟩ else .rto
      (epiChain conf b.epictl regs (vget r.act (epiSlot b.epictl)) last j (x, 0#6), f)
  let out := chain.map (·.1.1)
  let (xs, scales, fc, draws) := drainConvert td conf r.rm o.om seed ctr out
  let flM := fl ||| chain.foldl (fun f p => f ||| p.2) 0#6 ||| (if o.epi then 0#6 else fc)
  let flE := if o.epi then chain.foldl (fun f p => f ||| p.1.2) fc else 0#6
  let s2 := s1.modCore k fun c => { c.genSettled with ctr := c.genSettled.ctr + BitVec.ofNat 64 draws }
  let s3 := s2.putRow k r b td i xs
  let s4 := s3.modStrand k b.bank fun x => x.wv o.vsd (BitVec.ofNat 1024
    (scales.zipIdx.foldl (fun v (e, q) => setElt 8 v (8 * i + o.soff.toNat + q) e) (x.rv o.vsd).toNat))
  let s5 := if o.clr && !o.src then s4.setNum (storeBase k .ps + b.ps + 512 * i) (8 * cols) 0 else s4
  let s6 := if o.epi then s5.bump (Reg.CORE_EPI_ROWS k) Reg.CORE_EPI_ROWS.ROWS 1 else s5
  (flM, flE, s6)

/-- Every row of a drain, bank by bank in row order. -/
def State.drainWork (s : State) (k : Nat) (r : DrainRun) : DrainRun × State :=
  let (base, s1) := r.banks.foldl (fun (acc : MxBase × State) b =>
    (List.range (drainRows r.o)).foldl (fun (acc : MxBase × State) i =>
      let (f, g, s1) := acc.2.drainRow k r b i
      (acc.1.raise b.bank f g, s1)) acc) (r.base, s)
  ({ r with base := base, worked := true }, s1)

/-! ### The unit's queue (R89, R90, R93, R113) -/

/-- Whether everything but the completion of an instruction is done. -/
def MxRun.worked : MxRun → Bool
  | .mma r => decide (mmaSteps r.o ≤ r.step)
  | .drain r => r.worked

def MxRun.base : MxRun → MxBase
  | .mma r => r.base
  | .drain r => r.base

/-- The next thing that the unit does, in issue order: a drain's rows or a run of an MMA. -/
def State.mxWork (s : State) (k : Nat) : State :=
  match (s.core k).mx.findIdx? (!·.worked) with
  | none => s
  | some n =>
    let put (r : MxRun) (s : State) : State := s.modCore k fun c => { c with mx := c.mx.set n r }
    match (s.core k).mx[n]? with
    | some (.mma r) => let (r1, s1) := s.mmaRun k r; put (.mma r1) s1
    | some (.drain r) => let (r1, s1) := s.drainWork k r; put (.drain r1) s1
    | none => s

/-- Drains that stand before the next MMA act as if they had finished first (R89). -/
def State.drainsFirst (k : Nat) : Nat → State → State
  | 0, s => s
  | f + 1, s => match (s.core k).mx.find? (!·.worked) with
    | some (.drain _) => State.drainsFirst k f (s.mxWork k)
    | _ => s

/-- RUN_TRANSFER: the run at the head of the unit ends (R73, R90). -/
def State.runTransfer (s : State) (k : Nat) : State :=
  if (s.core k).mx.any fun r => match r with
    | .mma m => decide (m.step < mmaSteps m.o)
    | .drain _ => false
  then (State.drainsFirst k (s.core k).mx.length s).mxWork k
  else s

/-- Waits that the matrix counter's fall satisfies (R88, R150, R174, R183). -/
def State.releaseMatrix (s : State) (k i : Nat) : State :=
  let x := s.strand k i
  (match x.run with
   | .waiting (.matrix n) => if x.matrix ≤ n then s.modStrand k i fun y => { (y.stepPast 4) with run := .running } else s
   | .waiting .matrixLimit => if x.matrix < 2 then s.modStrand k i fun y => { y with run := .running } else s
   | .waiting .serial => if x.matrix = 0 then s.modStrand k i fun y => { y with run := .running } else s
   | _ => s).exitIfDone k i

/-- The flags of a completed instruction in the strand that owns the bank, and its trap (R93, R113, R114, R174, R175): first those of
the unit, then those of the epilogue path. -/
def State.mxFlags (s : State) (k : Nat) (b : MxBase) (e : Nat × FpFlags × FpFlags) : State :=
  let traps (f : FpFlags) : Bool := (tb b.fpctl 1 && f.getLsbD 0) || (tb b.fpctl 2 && f.getLsbD 2)
  s.modStrand k e.1 fun x =>
    let y := (x.applyEff (.fp e.2.1 (traps e.2.1) 2#2)).applyEff (.fp e.2.2 (traps e.2.2) 3#2)
    { y with ptrap := if (traps e.2.1 || traps e.2.2) && b.precise && !x.mask && e.1 == b.strand && x.run == .waiting .serial then some b.pc else y.ptrap }

/-- MATRIX_COMPLETE: the oldest matrix instruction of a core completes once its runs have ended; a drain's rows have then reached their
destination (R90, R149). -/
def State.matrixComplete (s : State) (k : Nat) : State :=
  let s1 := if ((s.core k).mx.take 1).all MxRun.worked then s else State.drainsFirst k 1 s
  match (s1.core k).mx with
  | [] => s
  | r :: rest =>
    if !r.worked then s
    else
      let s2 := s1.modCore k fun c => { c with mx := rest }
      let s3 := r.base.flags.foldl (fun s e => s.mxFlags k r.base e) s2
      (s3.modStrand k r.base.strand fun x => { x with matrix := x.matrix - 1 }).releaseMatrix k r.base.strand

/-- MMA (R75). -/
def execMma (w : Who) (o : OpMma) (s : State) : Out := .next (issue w { len := 8 } (mmaBody false o) s)
/-- MMA.G (R67). -/
def execMmaG (w : Who) (o : OpMma) (s : State) : Out := .next (issue w { len := 8 } (mmaBody true o) s)
/-- MDRAIN (R80). -/
def execMdrain (w : Who) (o : OpDrain) (s : State) : Out := .next (issue w { len := 8 } (drainBody false o) s)
/-- MDRAIN.G (R67). -/
def execMdrainG (w : Who) (o : OpDrain) (s : State) : Out := .next (issue w { len := 8 } (drainBody true o) s)
/-- RUN_TRANSFER (R73). -/
def execRunTransfer (core : Nat) (s : State) : Out := .next (s.runTransfer core)
/-- MATRIX_COMPLETE (R90). -/
def execMatrixComplete (core : Nat) (s : State) : Out := .next (s.matrixComplete core)

end Sys2Proof.Machine
end

