-- ==== Sys2Proof/Machine/Banks.lean ====
section
/-! DEFINITION. Power of the on-chip memory banks (R94, R205 to R207, R286). -/

namespace Sys2Proof.Machine

/-- Where a bank's enable bit and its PENDING_ON bit stand (Tables 7-3 and 7-4); queue RAM banks have none. -/
def bankBits : BankId → Option (Nat × Nat × Nat)
  | .ls _ .qram _ => none
  | .ls k st n => some (Reg.CORE_LS_EN k, Reg.CORE_LS_PEND k, lsBankBit st n)
  | .clm u n => some (Reg.CLU_CLM_EN u, Reg.CLU_CLM_PEND u, n)

def State.setBankState (s : State) (b : BankId) (p : PowerState) : State :=
  match bankStateAt b with
  | none => s
  | some (a, f) => s.setRf a f p.code

def State.bankPending (s : State) (b : BankId) : Bool :=
  match bankBits b with
  | none => false
  | some (_, p, n) => tb (s.reg p) n

def State.setBankPending (s : State) (b : BankId) (v : Bool) : State :=
  match bankBits b with
  | none => s
  | some (_, p, n) => s.setRf p ⟨n, n⟩ (bit v)

def State.setBankEnable (s : State) (b : BankId) (v : Bool) : State :=
  match bankBits b with
  | none => s
  | some (e, _, n) => s.setRf e ⟨n, n⟩ (bit v)

/-- Physical address and length of a bank (Table 1-4, Table 7-1, R223). -/
def bankRange : BankId → Nat × Nat
  | .ls k st n => (storeBase k st + n * bankSize st, bankSize st)
  | .clm u n => (0x2000000000000 + u * 0x100000000 + n * 0x100000, 0x100000)

/-- A write of 1 to a bank's enable bit (R205, R286). -/
def State.bankEnable (s : State) (b : BankId) : State :=
  let s1 := s.setBankEnable b true
  match s.bankState b with
  | .off => s1.setBankState b .starting
  | .stopping => s1.setBankPending b true
  | .starting | .on => s1

/-- A write of 0 to a bank's enable bit (R205, R206, R286). -/
def State.bankDisable (s : State) (b : BankId) : State :=
  let s1 := s.setBankEnable b false
  if (bankBits b).isNone then s
  else match s.bankState b with
  | .on | .starting => { s1 with stops := s1.stops.filter (· != b) ++ [b] }
  | .stopping => s1.setBankPending b false
  | .off => s1

/-- Whether outstanding matrix instructions keep a bank On (R94, R206 step 1). -/
def State.bankHeld (s : State) : BankId → Bool
  | .ls k st n => s.mxTouches k st n
  | .clm _ _ => false

/-- BANK_STOPPING: the power-down that was asked for begins (R206 step 2). -/
def State.bankStopping (s : State) (b : BankId) : State :=
  if s.bankState b = .on && s.stops.contains b && !s.bankHeld b then
    { (s.setBankState b .stopping) with stops := s.stops.filter (· != b) }
  else s

/-- BANK_OFF: the bank's last served write has committed (R206 step 3); with PENDING_ON it goes on to Starting (R207). -/
def State.bankOff (s : State) (b : BankId) : State :=
  if s.bankState b = .stopping then
    (if s.bankPending b then (s.setBankPending b false).setBankState b .starting else s.setBankState b .off)
  else s

/-- BANK_ON: Starting has written zeros into the bank (R207). -/
def State.bankOn (s : State) (b : BankId) : State :=
  if s.bankState b = .starting then
    let (lo, n) := bankRange b
    (s.zeroRange lo n).setBankState b .on
  else s

/-- BANK_ENABLE (R205). -/
def execBankEnable (b : BankId) (s : State) : Out := .next (s.bankEnable b)
/-- BANK_DISABLE (R205). -/
def execBankDisable (b : BankId) (s : State) : Out := .next (s.bankDisable b)
/-- BANK_STOPPING (R206). -/
def execBankStopping (b : BankId) (s : State) : Out := .next (s.bankStopping b)
/-- BANK_OFF (R206). -/
def execBankOff (b : BankId) (s : State) : Out := .next (s.bankOff b)
/-- BANK_ON (R207). -/
def execBankOn (b : BankId) (s : State) : Out := .next (s.bankOn b)

end Sys2Proof.Machine
end

