-- ==== Sys2Proof/Machine/Counter.lean ====
section
/-! DEFINITION. Sync counters, their modes, waiters and wake order, and the counter packets (R269 to R272, R275 to R279, R285). -/

namespace Sys2Proof.Machine

/-- The counter that a number names (Table 9-1). -/
def counterOfNum (n : Nat) : Option CounterId :=
  if n < 15360 then some (.core (n / 32) (n % 32)) else if n < 16384 then some (.shared (n - 15360)) else none

/-- SYN_VAL or SYN_SVAL of a counter. -/
def CounterId.valReg : CounterId → Nat
  | .core k i => Reg.SYN_VAL (k / 40) (k % 40) i
  | .shared n => Reg.SYN_SVAL n

/-- SYN_CTL or SYN_SCTL; the fields that both have stand at the same bits (Tables 9-10, 9-11). -/
def CounterId.ctlReg (c : CounterId) : Nat := c.valReg + 8

/-- The register address of a counter (Table 9-1). -/
def CounterId.addr (c : CounterId) : Nat := 0xF000000000000 + c.valReg

/-- The counter whose register address a packet names (R285). -/
def counterOfAddr (pa : Nat) : Option CounterId :=
  if pa / 2 ^ 48 ≠ 15 then none
  else match blkOf (pa % 2 ^ 48) with
  | some (.cluster, o, u) =>
    if 0x20000 ≤ o ∧ o < 0x25000 ∧ o % 16 = 0 then some (.core (40 * u + (o - 0x20000) / 0x200) ((o - 0x20000) % 0x200 / 16)) else none
  | some (.device 0, o, _) => if 0x1000 ≤ o ∧ o < 0x5000 ∧ o % 16 = 0 then some (.shared ((o - 0x1000) / 16)) else none
  | _ => none

/-- The cluster whose hub serves a counter; none when SYN_SHOME names no hub (Table 9-1, R300). -/
def State.counterHub (s : State) : CounterId → Option Nat
  | .core k _ => some (k / 40)
  | .shared n =>
    let h := s.rf (Reg.SYN_SHOME (n % 12)) Reg.SYN_SHOME.HUB
    if h < 12 then some h else none

def State.ctrValue (s : State) (c : CounterId) : Nat := s.rf c.valReg Reg.SYN_VAL.VALUE
def State.ctrTicket (s : State) (c : CounterId) : Bool := s.rbit c.ctlReg Reg.SYN_CTL.MODE
def State.ctrLimit (s : State) (c : CounterId) : Nat := s.rf c.ctlReg Reg.SYN_CTL.LIMIT

/-- Whether a value covers x (R271, R274). -/
def ctrCovers (ticket : Bool) (v : Nat) (x : W32) : Bool :=
  if ticket then decide (0 ≤ signed 32 (v + 2 ^ 32 - x.toNat)) else decide (x.toNat ≤ v)

/-- The value after an addition, with overflow and underflow (R271). -/
def ctrSum (ticket : Bool) (limit v : Nat) (d : Int) : Nat × Bool × Bool :=
  if ticket then (wrap 32 (v + d), false, false)
  else if (v : Int) + d > limit then (limit, true, false)
  else if (v : Int) + d < 0 then (0, false, true)
  else (((v : Int) + d).toNat, false, false)

/-- The value after a SET, with overflow (R271). -/
def ctrSet (ticket : Bool) (limit x : Nat) : Nat × Bool := if !ticket && decide (limit < x) then (limit, true) else (x, false)

/-- A strand's completed STAKE or SWATCH, or its answered counter operation: it goes on behind the instruction, Running from X + 2
(R279); with INV its core's L1 cache is invalidated (R283). -/
def State.finishSync (s : State) (k i : Nat) : State :=
  let x := s.strand k i
  let s := match x.run with
    | .sleeping (.counter c) => s.trace k i 10 x.pc c.num
    | _ => s
  let s := if x.syncOp.any (·.inv) then s.dropAllLines k else s
  s.modStrand k i fun y =>
    { (y.stepPast 4) with run := .running, syncOp := none, nextSlot := max y.nextSlot ((s.core k).cycle + 3) }

/-- The payload of an RDR that answers an AMO (Table 9-5). -/
def amoAnswer (v : Nat) (ovf unf done : Bool) : List Byte := toBytes 8 (v + 2 ^ 32 * bit ovf + 2 ^ 33 * bit unf + 2 ^ 34 * bit done)

/-- A satisfied waiter: a strand of the counter's own core is woken, any other is answered (R278, R279, R285). -/
def State.wakeWaiter (s : State) (w : Waiter) : State :=
  match w.own, w.ctr with
  | some i, .core k _ => s.finishSync k i
  | _, c =>
    let hub := (s.counterHub c).getD 0
    s.inject { kind := .rdr, part := w.part, dst := w.src, src := epHub hub, tag := w.tag,
               payload := amoAnswer (s.ctrValue c) false false false }

/-- Takers are served in FIFO order until one is not covered (R278). -/
def serveTakers (c : CounterId) : List Waiter → State → State
  | [], s => s
  | w :: l, s =>
    if ctrCovers (s.ctrTicket c) (s.ctrValue c) w.x then
      let s := s.setRf c.valReg Reg.SYN_VAL.VALUE (s.ctrValue c + 2 ^ 32 - w.x.toNat)
      serveTakers c l ({ s with waiters := s.waiters.filter (· != w) }.wakeWaiter w)
    else s

/-- The service of the waiters of a counter after its value changed or a wait arrived (R278). -/
def State.serveWaiters (s : State) (c : CounterId) : State :=
  let wake := s.waiters.filter fun w => w.ctr == c && !w.take && ctrCovers (s.ctrTicket c) (s.ctrValue c) w.x
  let s := wake.foldl (fun s w => s.wakeWaiter w) { s with waiters := s.waiters.filter fun w => !wake.contains w }
  serveTakers c (s.waiters.filter fun w => w.ctr == c && w.take) s

/-- The block counts an operation (Table 9-10). -/
def State.countOp (s : State) (c : CounterId) : State :=
  match s.counterHub c with
  | some u => s.bump (Reg.SYN_OPS u) Reg.SYN_OPS.OPS 1
  | none => s

/-- An ADD (R271, R277, R278): whether it overflowed or underflowed, and the state. -/
def State.ctrAdd (s : State) (c : CounterId) (d : Int) : (Bool × Bool) × State :=
  let (v, o, u) := ctrSum (s.ctrTicket c) (s.ctrLimit c) (s.ctrValue c) d
  let s := (s.countOp c).setRf c.valReg Reg.SYN_VAL.VALUE v
  let s := if o then s.setRf c.ctlReg Reg.SYN_CTL.OVF 1 else s
  let s := if u then s.setRf c.ctlReg Reg.SYN_CTL.UNF 1 else s
  ((o, u), s.serveWaiters c)

/-- A SET (R271). -/
def State.ctrAssign (s : State) (c : CounterId) (x : Nat) : (Bool × Bool) × State :=
  let (v, o) := ctrSet (s.ctrTicket c) (s.ctrLimit c) x
  let s := (s.countOp c).setRf c.valReg Reg.SYN_VAL.VALUE v
  let s := if o then s.setRf c.ctlReg Reg.SYN_CTL.OVF 1 else s
  ((o, false), s.serveWaiters c)

/-- A new wait (R278): whether it is satisfied at once; otherwise it joins the FIFO. -/
def State.ctrWait (s : State) (w : Waiter) : Bool × State :=
  let s := s.countOp w.ctr
  let cov := ctrCovers (s.ctrTicket w.ctr) (s.ctrValue w.ctr) w.x
  if w.take then
    (if cov && !(s.waiters.any fun y => y.ctr == w.ctr && y.take) then
      (true, s.setRf w.ctr.valReg Reg.SYN_VAL.VALUE (s.ctrValue w.ctr + 2 ^ 32 - w.x.toNat))
     else (false, { s with waiters := s.waiters ++ [w] }))
  else if cov then (true, s)
  else (false, { s with waiters := s.waiters ++ [w] })

/-- What an operation of a packet on a counter meets at the block of a hub (R270, R285, R300): the ERR code of a refusal. -/
def State.ctrRefusal (s : State) (u : Nat) (p : Packet) : Option Nat :=
  match counterOfAddr p.addr with
  | none => some 0x02
  | some c =>
    if s.counterHub c ≠ some u then some 0x02
    else match c with
    | .core k _ => if s.coreLive k then none else some 0x01
    | .shared n => if p.part = 0xF ∨ p.part = s.rf (Reg.SYN_SCTL n) Reg.SYN_SCTL.OWNER then none else some 0x01

/-- A refused operation is answered with ERR; refusals by owner are counted (R270). -/
def State.ctrErr (s : State) (u : Nat) (p : Packet) (code : Nat) : State :=
  (if code = 0x01 then s.countRefusal u p else s).inject (p.answer .err [] code)

/-- Whether an endpoint is a trail port (Table 8-5). -/
def isTrailEp (ep : Nat) : Bool := (siteOfEp ep == 0xC || siteOfEp ep == 0xD) && decide (unitOfEp ep < 9)

/-- An AMO to an aperture is refused at its port (R363, R364). -/
def State.apertureAmo (s : State) (p : Packet) : State :=
  (match s.aperture p.addr with
   | some a => s.bump (Reg.TRL_APTD a) Reg.TRL_APTD.NAKS 1
   | none => s).inject (p.answer .err [] 0x02)

/-- The first packet of a virtual channel at an endpoint, if it passes a test, taken from there. -/
def State.takeSink (s : State) (ep vc : Nat) (ok : Packet → Bool) : Option (Packet × State) :=
  match s.net.sinks.findIdx? fun x => x.1 == ep && x.2.kind.vc == vc with
  | none => none
  | some j => match s.net.sinks[j]? with
    | some x => if ok x.2 then some (x.2, { s with net := { s.net with sinks := s.net.sinks.eraseIdx j } }) else none
    | none => none

/-- Fields of a counter packet's payload (Table 9-5). -/
def Packet.ctrOp (p : Packet) : Nat := ofBytes p.payload % 16
def Packet.ctrX (p : Packet) : W32 := BitVec.ofNat 32 (ofBytes p.payload / 2 ^ 32)

/-- The codes of Table 9-5; CANCEL is 5. -/
def CtrOp.code : CtrOp → Nat
  | .add => 0
  | .set => 1
  | .take => 2
  | .watch => 3
  | .read => 4

/-- The cluster whose hub units an endpoint names. -/
def hubOfEp (ep : Nat) : Nat := siteOfEp ep

/-- A counter operation that arrives as an AMO of an operation code (R285): f answers with what follows once it is not refused. -/
def State.serveAmo (s : State) (ep code : Nat) (f : CounterId → Packet → State → State) : State :=
  match s.takeSink ep 0 (fun p => p.kind == .amo && p.ctrOp == code && unitOfEp ep != 0x31) with
  | none => s
  | some (p, s) =>
    if isTrailEp ep then s.apertureAmo p
    else match s.ctrRefusal (hubOfEp ep) p with
    | some e => s.ctrErr (hubOfEp ep) p e
    | none => match counterOfAddr p.addr with
      | some c => f c p s
      | none => s

/-- The RDR that answers an AMO. -/
def State.amoReply (s : State) (p : Packet) (ep v : Nat) (ovf unf done : Bool) : State :=
  s.inject { (p.answer .rdr (amoAnswer v ovf unf done)) with src := ep }

def State.amoAdd (s : State) (ep : Nat) : State :=
  s.serveAmo ep 0 fun c p s =>
    let ((o, u), s) := s.ctrAdd c p.ctrX.toInt
    s.amoReply p ep (s.ctrValue c) o u false

def State.amoSet (s : State) (ep : Nat) : State :=
  s.serveAmo ep 1 fun c p s =>
    let ((o, u), s) := s.ctrAssign c p.ctrX.toNat
    s.amoReply p ep (s.ctrValue c) o u false

/-- TAKE and WATCH are answered when they are satisfied (R285). -/
def State.amoWait (s : State) (ep : Nat) (take : Bool) : State :=
  s.serveAmo ep (if take then 2 else 3) fun c p s =>
    let (now, s) := s.ctrWait { ctr := c, take := take, x := p.ctrX, own := none, src := p.src, tag := p.tag, part := p.part }
    if now then s.amoReply p ep (s.ctrValue c) false false false else s

def State.amoRead (s : State) (ep : Nat) : State :=
  s.serveAmo ep 4 fun c p s => (s.countOp c).amoReply p ep (s.ctrValue c) false false false

/-- CANCEL withdraws the wait of the request whose tag it names, or finds it satisfied (R280, R285; log entry 18). -/
def State.amoCancel (s : State) (ep : Nat) : State :=
  s.serveAmo ep 5 fun c p s =>
    let mine (w : Waiter) : Bool := w.ctr == c && w.own.isNone && w.src == p.src && w.tag == p.chid
    let there := s.waiters.any mine
    let s := ({ s with waiters := s.waiters.filter fun w => !mine w }.countOp c).serveWaiters c
    s.amoReply p ep (s.ctrValue c) false false (!there)

/-- SIG (R285): ADD and SET; other operations are ignored. -/
def State.sigServe (s : State) (ep : Nat) (set : Bool) : State :=
  match s.takeSink ep 0 (fun p => p.kind == .sig && (p.ctrOp != 0) == set) with
  | none => s
  | some (p, s) => match s.ctrRefusal (hubOfEp ep) p with
    | some e => s.ctrErr (hubOfEp ep) p e
    | none => match counterOfAddr p.addr with
      | none => s
      | some c =>
        if p.ctrOp = 0 then (s.ctrAdd c p.ctrX.toInt).2
        else if p.ctrOp = 1 then (s.ctrAssign c p.ctrX.toNat).2
        else s

/-- TOK adds 1; one that names no counter of the block, or that R270 refuses, is ignored (R284, R285). -/
def State.tokServe (s : State) (ep : Nat) : State :=
  match s.takeSink ep 3 (fun p => p.kind == .tok) with
  | none => s
  | some (p, s) => match s.ctrRefusal (hubOfEp ep) p with
    | some e => if e = 0x01 then s.countRefusal (hubOfEp ep) p else s
    | none => match counterOfAddr p.addr with
      | none => s
      | some c => (s.ctrAdd c 1).2

/-- AMO ADD (R285). -/
def execAmoAdd (ep : BitVec 12) (s : State) : Out := .next (s.amoAdd ep.toNat)
/-- AMO SET (R285). -/
def execAmoSet (ep : BitVec 12) (s : State) : Out := .next (s.amoSet ep.toNat)
/-- AMO TAKE (R285). -/
def execAmoTake (ep : BitVec 12) (s : State) : Out := .next (s.amoWait ep.toNat true)
/-- AMO WATCH (R285). -/
def execAmoWatch (ep : BitVec 12) (s : State) : Out := .next (s.amoWait ep.toNat false)
/-- AMO READ (R285). -/
def execAmoRead (ep : BitVec 12) (s : State) : Out := .next (s.amoRead ep.toNat)
/-- AMO CANCEL (R280, R285). -/
def execAmoCancel (ep : BitVec 12) (s : State) : Out := .next (s.amoCancel ep.toNat)
/-- SIG ADD (R285). -/
def execSigAdd (ep : BitVec 12) (s : State) : Out := .next (s.sigServe ep.toNat false)
/-- SIG SET (R285). -/
def execSigSet (ep : BitVec 12) (s : State) : Out := .next (s.sigServe ep.toNat true)
/-- TOK (R284). -/
def execTok (ep : BitVec 12) (s : State) : Out := .next (s.tokServe ep.toNat)

/-- DPICK at the CLM (R163): one indivisible step on an 8-byte header. -/
def State.amoDpick (s : State) (ep : Nat) : State :=
  match s.takeSink ep 0 (fun p => p.kind == .amo && unitOfEp ep == 0x31) with
  | none => s
  | some (p, s) =>
    let u := siteOfEp ep
    match s.physRead p.addr 8 none with
    | (.inl code, s1) => s1.inject { (p.answer .err [] code) with src := ep }
    | (.inr b, s1) =>
      let h := ofBytes b
      let nxt := h % 2 ^ 32
      let s2 := s1.bump (Reg.CLU_CLM_PICKS u) Reg.CLU_CLM_PICKS.PICKS 1
      let (r, s3) := if nxt < h / 2 ^ 32 then (nxt, s2.setNum p.addr 4 (nxt + 1)) else (0xFFFFFFFF, s2)
      s3.inject { (p.answer .rdr (toBytes 8 r)) with src := ep }

/-- AMO DPICK (R163). -/
def execAmoDpick (ep : BitVec 12) (s : State) : Out := .next (s.amoDpick ep.toNat)

end Sys2Proof.Machine
end

