-- ==== Sys2Proof/Machine/Sync.lean ====
section
/-! DEFINITION. The SYNC instructions and the fence of a signal (R273 to R275, R280 to R284). -/

namespace Sys2Proof.Machine

/-- The seven SYNC instructions (Table 9-2). -/
inductive SyncFn where
  | sadd | saddP | stake | swatch | sset | sread | roll
deriving DecidableEq, Repr

/-- The fields that must be zero (R273, Table 9-2). -/
def SyncFn.bad (f : SyncFn) (o : OpS) : Bool :=
  match f with
  | .sread => o.imm != 0#8 || o.inv
  | .roll => o.imm != 0#8 || o.inv || o.ra != 0#5
  | .stake | .swatch => false
  | _ => o.inv

/-- Stores that a fence waits for: those of the core not yet accepted, and the ring writes of its sends (R281). -/
def State.fenceTags (s : State) (k : Nat) : List Nat :=
  ((s.core k).stores.filterMap fun x => match x.dst with
    | .sig _ _ => none
    | _ => some x.tag) ++ (s.msg k).spills.flatMap (·.tags)

/-- The endpoint to which a counter operation of a core goes (R269, R300): the serving hub, or the sender's own when SYN_SHOME names
none. -/
def State.ctrDst (s : State) (k : Nat) (c : CounterId) : Nat :=
  match s.counterHub c with
  | some u => epHub u
  | none => if isSteward k then epCheter else epHub (clusterOf k)

/-- An operation of a core leaves for a counter of another core or a shared one, as an AMO. -/
def State.sendAmo (s : State) (k : Nat) (c : CounterId) (op tag : Nat) (x : W32) : State :=
  s.inject { kind := .amo, part := s.partOfCore k, dst := s.ctrDst k c, src := epCore k, tag := tag, addr := c.addr,
             payload := toBytes 8 (op + 2 ^ 32 * x.toNat) }

/-- A counter is one of the core's own. -/
def ownCounter (k : Nat) : CounterId → Bool
  | .core j _ => j == k
  | .shared _ => false

/-- The cause of a SADD or SSET that overflowed or underflowed (R275). -/
def ctrCause (c : CounterId) (o u : Bool) : Option Cause :=
  if o then some { code := 0x09, xtval := c.num } else if u then some { code := 0x0A, xtval := c.num } else none

/-- A SADD or SSET whose fence has released it (R274): for a counter of its core its cause, if any. -/
def State.applySignal (s : State) (o : SyncOp) : Option Cause × State :=
  let ((ov, un), s1) := if o.op = .add then s.ctrAdd o.ctr o.x.toInt else s.ctrAssign o.ctr o.x.toNat
  (ctrCause o.ctr ov un, s1)

/-- A strand's counter operation leaves, or is applied for a counter of the core, and the strand waits for its answer. -/
def State.askCounter (s : State) (k i : Nat) (o : SyncOp) : State :=
  let (tag, s) := s.newTag
  (s.modStrand k i fun x => { x with syncOp := some { o with tag := some tag, fence := [] } }).sendAmo k o.ctr o.op.code tag o.x

/-- The SYNC instructions (R274). -/
def syncBody (f : SyncFn) (o : OpS) (e : Env) (s : State) : Res :=
  let x := s.strand e.k e.i
  let n := (x.rg o.rc).toNat
  if f.bad o then illegal e
  else match counterOfNum n with
  | none => illegal e
  | some c =>
    let own := ownCounter e.k c
    let v := x.rg o.ra + o.imm.setWidth 32
    let op (p : CtrOp) (fence : List Nat) : SyncOp := ⟨p, c, v, o.ra, o.inv, none, fence, none⟩
    let signal (p : CtrOp) : Res :=
      let fence := s.fenceTags e.k
      if fence.isEmpty then
        (if own then
          (match s.applySignal (op p []) with
           | (none, s1) => .done s1
           | (some cause, s1) => .late s1 cause (e.t + 4))
         else .wait (s.askCounter e.k e.i (op p [])) (.waiting .answer) none)
      else .wait (s.modStrand e.k e.i fun y => { y with syncOp := some (op p fence) }) (.waiting .fence) none
    let wait (p : CtrOp) : Res :=
      if own then
        (match s.ctrWait { ctr := c, take := p == .take, x := v, own := some e.i, src := epCore e.k, tag := 0, part := 0 } with
         | (true, s1) => .done (if o.inv then s1.dropAllLines e.k else s1)
         | (false, s1) => .wait (s1.modStrand e.k e.i fun y => { y with syncOp := some (op p []) }) (.sleeping (.counter c)) none)
      else .wait (s.askCounter e.k e.i (op p [])) (.sleeping (.counter c)) none
    match f with
    | .sadd => signal .add
    | .sset => signal .set
    | .stake => wait .take
    | .swatch => wait .watch
    | .sread =>
      if own then .done ((s.countOp c).modStrand e.k e.i fun y => y.later (e.t + 7) (.g o.ra (BitVec.ofNat 32 (s.ctrValue c))))
      else .wait (s.askCounter e.k e.i { op .read [] with x := 0 }) (.waiting .answer) none
    | .saddP =>
      if 16 ≤ (s.core e.k).storeq.length then .hold s .storeQueue (some .storeQueue)
      else
        let (tag, s1) := s.newTag
        .done (s1.modCore e.k fun k => { k with storeq := k.storeq ++ [⟨e.i, .sig c v, [], tag⟩] })
    | .roll =>
      if own then .done (s.ctrAdd c 1).2
      else
        .done (s.inject { kind := .tok, part := s.partOfCore e.k, dst := s.ctrDst e.k c, src := epCore e.k, addr := c.addr })

/-- SIGNAL_FENCE_RELEASE: every store issued before a waiting SADD or SSET has been accepted (R281); the signal is applied, or
leaves. -/
def State.fenceRelease (s : State) (k i : Nat) : State :=
  let x := s.strand k i
  match x.run, x.syncOp with
  | .waiting .fence, some o =>
    let open_ := s.fenceTags k
    if o.fence.any fun t => open_.contains t then s
    else if ownCounter k o.ctr then
      (match s.applySignal o with
       | (none, s1) => s1.finishSync k i
       | (some cause, s1) => s1.syncCause k i (s1.slotFor k i 0) cause)
    else (s.askCounter k i o).setRun k i (.waiting .answer) none
  | _, _ => s

/-- The answer of a counter block reaches the strand that asked (R274, R275, R280). -/
def State.counterAnswer (s : State) (k i : Nat) (v : Nat) : State :=
  match (s.strand k i).syncOp with
  | none => s
  | some o =>
    match o.op with
    | .add | .set =>
      (match ctrCause o.ctr (v / 2 ^ 32 % 2 == 1) (v / 2 ^ 33 % 2 == 1) with
       | none => s.finishSync k i
       | some c => s.syncCause k i (s.slotFor k i 0) c)
    | .read => (s.modStrand k i fun x => x.wg o.rd (BitVec.ofNat 32 v)).finishSync k i
    | .take | .watch => if o.cancel.isSome then s else s.finishSync k i

/-- The answer of a CANCEL (R280): DONE says that the wait had been satisfied, so that the instruction has completed; otherwise the
strand stands before it again. -/
def State.cancelAnswer (s : State) (k i : Nat) (v : Nat) : State :=
  if v / 2 ^ 34 % 2 = 1 then s.finishSync k i
  else s.modStrand k i fun x => { x with run := .running, syncOp := none }

/-- An ERR answers a strand's counter operation (R275). -/
def State.counterError (s : State) (k i : Nat) : State :=
  match (s.strand k i).syncOp with
  | none => s
  | some o => s.syncCause k i (s.slotFor k i 0) { code := 0x05, xtval := o.ctr.addr }

/-- A strand that sleeps on a counter withdraws its wait to take a cause (R280): at once for a counter of its core; otherwise a
CANCEL leaves and the strand waits for its answer. The Bool says that the strand may take the cause now. -/
def State.withdrawCounter (s : State) (k i : Nat) : Bool × State :=
  let x := s.strand k i
  match x.syncOp with
  | none => (true, s.modStrand k i fun y => { y with run := .running })
  | some o =>
    if ownCounter k o.ctr then
      (true, { s with waiters := s.waiters.filter fun w => !(w.ctr == o.ctr && w.own == some i) }.modStrand k i fun y =>
        { y with run := .running, syncOp := none })
    else
      let (tag, s) := s.newTag
      (false, ((s.modStrand k i fun y => { y with run := .waiting .answer, syncOp := some { o with cancel := some tag } }).inject
        { kind := .amo, part := s.partOfCore k, dst := s.ctrDst k o.ctr, src := epCore k, tag := tag, addr := o.ctr.addr,
          chid := o.tag.getD 0, payload := toBytes 8 5 }))

/-- SADD (R274). -/
def execSadd (w : Who) (o : OpS) (s : State) : Out := .next (issue w {} (syncBody .sadd o) s)
/-- SADD.P (R274). -/
def execSaddP (w : Who) (o : OpS) (s : State) : Out := .next (issue w {} (syncBody .saddP o) s)
/-- STAKE (R274). -/
def execStake (w : Who) (o : OpS) (s : State) : Out := .next (issue w {} (syncBody .stake o) s)
/-- SWATCH (R274). -/
def execSwatch (w : Who) (o : OpS) (s : State) : Out := .next (issue w {} (syncBody .swatch o) s)
/-- SSET (R274). -/
def execSset (w : Who) (o : OpS) (s : State) : Out := .next (issue w {} (syncBody .sset o) s)
/-- SREAD (R274). -/
def execSread (w : Who) (o : OpS) (s : State) : Out := .next (issue w { writes := [o.ra] } (syncBody .sread o) s)
/-- ROLL (R284). -/
def execRoll (w : Who) (o : OpS) (s : State) : Out := .next (issue w {} (syncBody .roll o) s)
/-- SIGNAL_FENCE_RELEASE (R281). -/
def execSignalFenceRelease (core strand : Nat) (s : State) : Out := .next (s.fenceRelease core strand)

end Sys2Proof.Machine
end

