-- ==== Sys2Proof/Machine/Events.lean ====
section
/-! DEFINITION. Events of strands and cores: causes and halts taken at a boundary, interrupts, resume, mode writes from register space,
cache invalidation and microcode entries (R111, R168 to R172, R185, R187, R196, R218, R221). -/

namespace Sys2Proof.Machine

/-- A strand stands at a boundary at which it may take a deferrable cause or a halt (R172): it leaves a wait or a sleep for it, and
f is what it takes. A strand that sleeps on a counter withdraws its wait first (R280). -/
def State.atBoundary (s : State) (w : Who) (wants : Strand → Nat → Bool) (f : State → Nat → State) : State :=
  let k := w.core
  let i := w.strand
  if !whoOk w || s.heldByPause k i then s
  else
    let t := s.slotFor k i w.cycle
    let s1 := s.atSlot k i t
    let x := s1.strand k i
    if !x.boundary || !wants x t then s
    else match x.run with
    | .off | .restStop => s
    | .sleeping (.counter _) => match s1.withdrawCounter k i with
      | (true, s2) => f s2 t
      | (false, s2) => s2
    | .waiting .translation | .waiting .fetch => f (s1.leaveWalks k i) t
    | .waiting .answer => if x.syncOp.any (·.cancel.isSome) then s else f s1 t
    | _ => f s1 t

/-- EXCEPTION_ENTRY: an enabled deferrable cause is taken (R168, R170 to R172, R176). -/
def State.exceptionEntry (s : State) (w : Who) : State :=
  s.atBoundary w (fun x t => (x.deferrable t).isSome) fun s t => (s.tryDeferrable w.core w.strand t).getD s

/-- REST_STOP_ENTRY: a halt that the operator has asked for is taken (R185). -/
def State.restStopEntry (s : State) (w : Who) : State :=
  s.atBoundary w (fun x _ => x.haltReq) fun s _ => s.enterRest w.core w.strand 2 0 0 (s.strand w.core w.strand).pc

/-- TIMER_INTERRUPT: the core's time comes to a cycle at which TIMECMP is reached (R171). -/
def State.timerInterrupt (s : State) (k i cycle : Nat) : State :=
  if (s.strand k i).timecmp.toNat ≤ cycle then s.modCore k (Core.advance cycle) else s

/-- A write of 1 to CORE_XIRQ.SET (R171). -/
def State.xirqSet (s : State) (k i : Nat) : State := s.modStrand k i fun x => { x with mbox := true }

/-- A write of 1 to CORE_RESUME.GO (R187). -/
def State.resumeGo (s : State) (k i : Nat) (usepc : Bool) (pc : W48) : State :=
  if (s.strand k i).run = .restStop then
    let r := Reg.CORE_RSTOP k i
    let s1 := s.modStrand k i fun x =>
      { x with run := .running, pc := if usepc then pc else BitVec.ofNat 48 (s.rf r Reg.CORE_RSTOP.PC)
               nextSlot := firstSlot ((s.core k).cycle + 8) i }
    ((s1.setRf r Reg.CORE_RSTOP.REASON 0).setRf r Reg.CORE_RSTOP.CODE 0).setRf r Reg.CORE_RSTOP.ORIG 0
  else s

/-- A register-space write of CORE_VFP_CTL (R111): it takes no slot, and the three instructions that follow use the old mode. -/
def State.vfpCtlWrite (s : State) (k i : Nat) (v : W64) : State :=
  s.modStrand k i fun x =>
    let m : ModeWrite := .fp (v.setWidth 3)
    if x.run = .off then x.applyMode m else { x with shadow := x.shadow ++ [⟨3, m⟩] }

/-- A write of 1 to CORE_L1_CTL.DINV (Table 7-3). -/
def State.dinv (s : State) (k : Nat) : State := s.dropAllLines k

/-- A write of 1 to CORE_L1_CTL.IINV (R221). -/
def State.iinv (s : State) (k : Nat) : State := s.modCore k fun c => { c with icache := [] }

/-- A write of CLU_UC_DEC (R196, Table 6-12): it toggles EPOCH. -/
def State.ucDecWrite (s : State) (u e : Nat) (v : W64) : State :=
  let r := Reg.CLU_UC_DEC u e
  let ep := s.rf r Reg.CLU_UC_DEC.EPOCH
  ((((s.setRf r Reg.CLU_UC_DEC.VALID (fld v 0 0)).setRf r Reg.CLU_UC_DEC.UMODE (fld v 1 1)).setRf r Reg.CLU_UC_DEC.START (fld v 9 2)).setRf r
    Reg.CLU_UC_DEC.LEN (fld v 14 10)).setRf r Reg.CLU_UC_DEC.EPOCH (1 - ep)

/-- EXCEPTION_ENTRY (R176). -/
def execExceptionEntry (w : Who) (s : State) : Out := .next (s.exceptionEntry w)
/-- REST_STOP_ENTRY (R185). -/
def execRestStopEntry (w : Who) (s : State) : Out := .next (s.restStopEntry w)
/-- TIMER_INTERRUPT (R171). -/
def execTimerInterrupt (core strand cycle : Nat) (s : State) : Out := .next (s.timerInterrupt core strand cycle)
/-- XIRQ_SET (R171). -/
def execXirqSet (core strand : Nat) (s : State) : Out := .next (s.xirqSet core strand)
/-- RESUME_GO (R187). -/
def execResumeGo (core strand : Nat) (usepc : Bool) (pc : BitVec 48) (s : State) : Out := .next (s.resumeGo core strand usepc pc)
/-- VFP_CTL_WRITE (R111). -/
def execVfpCtlWrite (core strand : Nat) (v : BitVec 64) (s : State) : Out := .next (s.vfpCtlWrite core strand v)
/-- DINV (R218). -/
def execDinv (core : Nat) (s : State) : Out := .next (s.dinv core)
/-- IINV (R221). -/
def execIinv (core : Nat) (s : State) : Out := .next (s.iinv core)
/-- UC_DEC_WRITE (R196). -/
def execUcDecWrite (cluster e : Nat) (v : BitVec 64) (s : State) : Out := .next (s.ucDecWrite cluster e v)

end Sys2Proof.Machine
end

