-- ==== Sys2Proof/Machine/ExtMem.lean ====
section
/-! DEFINITION. The engines of the external memories: scrub, mover, key tags, re-keying, key slots, patrol (R311, R316 to R323, R326,
R328 to R330). -/

namespace Sys2Proof.Machine

/-! ### Scrub (R326, R328, R329) -/

/-- Whether an external memory is live (Table 1-6). -/
def State.extLive (s : State) : ExtMem → Bool
  | .hbm n => decide (n < 24) && tb (s.reg Reg.ID_MEM_LIVE) n
  | .ddr n => decide (n < 12) && tb (s.reg Reg.ID_MEM_LIVE) (24 + n)

def State.scrubBusy (s : State) : ExtMem → Bool
  | .hbm n => s.rbit (Reg.HBM_SCR_A n) Reg.HBM_SCR_A.BUSY
  | .ddr n => s.rbit (Reg.DDR_SCR_A n) Reg.DDR_SCR_A.BUSY

/-- FIRST, COUNT and BUSY of a scrub engine. -/
def State.setScrub (s : State) (m : ExtMem) (first count : Nat) (busy : Bool) : State :=
  match m with
  | .hbm n => ((s.setRf (Reg.HBM_SCR_A n) Reg.HBM_SCR_A.FIRST first).setRf (Reg.HBM_SCR_A n) Reg.HBM_SCR_A.COUNT count).setRf
      (Reg.HBM_SCR_A n) Reg.HBM_SCR_A.BUSY (bit busy)
  | .ddr n => ((s.setRf (Reg.DDR_SCR_A n) Reg.DDR_SCR_A.FIRST first).setRf (Reg.DDR_SCR_A n) Reg.DDR_SCR_A.COUNT count).setRf
      (Reg.DDR_SCR_A n) Reg.DDR_SCR_A.BUSY (bit busy)

def State.setScrubDone (s : State) (m : ExtMem) (done : Nat) : State :=
  match m with
  | .hbm n => s.setRf (Reg.HBM_SCR_B n) Reg.HBM_SCR_B.DONE done
  | .ddr n => s.setRf (Reg.DDR_SCR_B n) Reg.DDR_SCR_B.DONE done

/-- Firmware gives an engine a job: it starts at once, or once the engine has finished what it was given before. -/
def State.addScrub (s : State) (m : ExtMem) (first count : Nat) : Nat × State :=
  let (id, s) := s.newTag
  let s := { s with ext := { s.ext with scrubs := s.ext.scrubs ++ [⟨id, m, first, count⟩] } }
  (id, if s.scrubBusy m then s else (s.setScrub m first count true).setScrubDone m 0)

/-- A write of GO (R328, R329): ignored while BUSY; beyond the slot of a channel it sets ERR. -/
def State.scrubGo (s : State) (m : ExtMem) (first count : Nat) : State :=
  let valid : Bool := match m with
    | .hbm n => decide (n < 24)
    | .ddr n => decide (n < 12)
  if !valid then s
  else if s.scrubBusy m then s.setScrub m first count true
  else match m with
  | .ddr n => if 2 ^ 23 < first + count then (s.setScrub m first count false).setRf (Reg.DDR_SCR_A n) Reg.DDR_SCR_A.ERR 1 else (s.addScrub m first count).2
  | .hbm _ => (s.addScrub m first count).2

/-- A page receives zeros: under its tag's slot where its tag is VALID, raw zeros otherwise; its poison is cleared (R326). -/
def State.zeroPage (s : State) (pg : Nat) : State :=
  let s := s.zeroRange (pg * pageBytes) pageBytes
  let s := { s with ext := { s.ext with poison := s.ext.poison.filter fun u => u / 1024 != pg } }
  match memOfPage pg with
  | .hbm _ => s
  | .ddr _ =>
    let key := match s.pageSlot pg with
      | some k => vget s.ext.keys k
      | none => none
    let clear := Sparse.clearRange s.ext.unitKey (pg * 1024) (pg * 1024 + 1024)
    let keys := Sparse.setRun (fun _ => none) clear (pg * 1024) (if key.isSome then List.replicate 1024 key else [])
    { s with ext := { s.ext with unitKey := keys } }

/-- The pages of a scrub that its memory has. -/
def State.scrubPages (s : State) (j : ScrubJob) : List Nat :=
  let (lo, n) := s.pagesOf j.m
  (List.range (min j.count (n - j.first))).map (lo + j.first + ·)

/-- Guarded pages of a list make their asides (R420). -/
def State.asidesOfPages (s : State) (pgs : List Nat) : Option State :=
  (s.ext.guards.filter fun g => pgs.contains g.1).foldl (fun r g => r.bind fun s => s.makeAside g.1 g.2) (some s)

/-- An engine finishes its scrub (R326): the number of the job that it finished. It goes on to the next one given to it. -/
def State.scrubEnd (s : State) (m : ExtMem) : Option (Nat × State) :=
  match s.ext.scrubs.find? (·.m == m) with
  | none => none
  | some j =>
    (s.asidesOfPages (s.scrubPages j)).map fun s =>
      let s := (s.scrubPages j).foldl (fun s pg => s.zeroPage pg) s
      let s := { s with ext := { s.ext with scrubs := s.ext.scrubs.erase j } }
      let s := s.setScrubDone m j.count
      (j.id, match s.ext.scrubs.find? (·.m == m) with
        | some k => (s.setScrub m k.first k.count true).setScrubDone m 0
        | none => s.setScrub m j.first j.count false)

/-! ### Mover (R323) -/

/-- A write of GO to the mover (R323, R329): ignored while BUSY. -/
def State.moveGo (s : State) (n hpage dpage : Nat) (toHbm : Bool) : State :=
  let a := Reg.DDR_MOVE n
  if 12 ≤ n then s
  else
    let s := ((s.setRf a Reg.DDR_MOVE.HPAGE hpage).setRf a Reg.DDR_MOVE.DPAGE dpage).setRf a Reg.DDR_MOVE.DIR (bit toHbm)
    if s.rbit a Reg.DDR_MOVE.BUSY then s
    else if 2 ^ 23 ≤ dpage ∨ 2 ^ 25 ≤ hpage then s.setRf a Reg.DDR_MOVE.ERR 1
    else { s.setRf a Reg.DDR_MOVE.BUSY 1 with ext := { s.ext with moves := s.ext.moves ++ [⟨n, hpage, dpage, toHbm⟩] } }

/-- Whether a page is memory that is there. -/
def State.pageThere (s : State) (pg : Nat) : Bool :=
  match s.site (pg * pageBytes) with
  | .hbm _ _ => true
  | .ddr _ _ => true
  | _ => false

/-- The mover finishes its copy, or sets ERR and copies nothing when the tag is not VALID or a page is not there. -/
def State.moveEnd (s : State) (n : Nat) : State :=
  match s.ext.moves.find? (·.n == n) with
  | none => s
  | some j =>
    let a := Reg.DDR_MOVE n
    let d := 2 ^ 32 + n * 2 ^ 23 + j.dpage
    let leave (s : State) : State := { s.setRf a Reg.DDR_MOVE.BUSY 0 with ext := { s.ext with moves := s.ext.moves.erase j } }
    if (s.pageSlot d).isNone ∨ !s.pageThere d ∨ !s.pageThere j.hpage then (leave s).setRf a Reg.DDR_MOVE.ERR 1
    else
      let (src, dst) := if j.toHbm then (d, j.hpage) else (j.hpage, d)
      match s.asidesOfPages [dst] with
      | none => s
      | some s => leave (s.copyPage src dst)

/-! ### Key tags (R315 to R318) -/

/-- Whether a running re-key job names a slot as FROM. -/
def State.rekeyFrom (s : State) (k : Nat) : Bool :=
  s.rbit Reg.DDR_RK_CTL Reg.DDR_RK_CTL.BUSY && s.rf Reg.DDR_RK_CTL Reg.DDR_RK_CTL.FROM == k

def State.keyValid (s : State) (k : Nat) : Bool := decide (k < 64) && s.rbit (Reg.KEY_CTL k) Reg.KEY_CTL.VALID

/-- The tags of a run of pages set to a slot, or cleared. -/
def State.writeTags (s : State) (n first count : Nat) (slot : Option Nat) : State :=
  (List.range count).foldl (fun s i => s.writeTag n (first + i) slot) s

/-- The fields of DDR_TAG_CMD. -/
def State.setTagCmd (s : State) (n first count : Nat) (slot : Option Nat) : State :=
  let a := Reg.DDR_TAG_CMD n
  let s := ((s.setRf a Reg.DDR_TAG_CMD.FIRST first).setRf a Reg.DDR_TAG_CMD.COUNT count).setRf a Reg.DDR_TAG_CMD.OP (bit slot.isNone)
  match slot with
  | some k => s.setRf a Reg.DDR_TAG_CMD.SLOT k
  | none => s

/-- A tag command (R318): slot none releases. -/
def State.tagGo (s : State) (n first count : Nat) (slot : Option Nat) : State :=
  let a := Reg.DDR_TAG_CMD n
  if 12 ≤ n then s
  else
    let s := s.setTagCmd n first count slot
    let bad : Bool := match slot with
      | some k => !s.keyValid k || s.rekeyFrom k
      | none => false
    if s.rbit a Reg.DDR_TAG_CMD.BUSY then s
    else if bad || decide (2 ^ 23 < first + count) then s.setRf a Reg.DDR_TAG_CMD.ERR 1
    else (s.writeTags n first count slot).setRf a Reg.DDR_TAG_CMD.BUSY 1

/-! ### Re-keying (R321) -/

/-- The next page of a channel, from one on, whose tag names a slot: the tags that are not zero stand in memory, in ascending order. -/
def State.nextTagged (s : State) (n start slot : Nat) : Option Nat :=
  let base := s.rf Reg.DDR_TAG_BASE Reg.DDR_TAG_BASE.BASE * 2 ^ 20 + n * 2 ^ 23
  if s.rbit Reg.DDR_TAG_BASE Reg.DDR_TAG_BASE.EN then
    (s.mem.find? fun (c : Host.Cell) => decide (base + start ≤ c.1) && decide (c.1 < base + 2 ^ 23) && tb c.2 6 && fld c.2 5 0 == slot).map fun c => c.1 - base
  else none

/-- Channels that have passed their last page leave the job, which ends with the last of them. -/
def State.settleRekey (s : State) : State :=
  let slot := s.rf Reg.DDR_RK_CTL Reg.DDR_RK_CTL.FROM
  let left := s.ext.rekey.filter fun e => (s.nextTagged e.1 e.2 slot).isSome
  let s := { s with ext := { s.ext with rekey := left } }
  if left.isEmpty then s.setRf Reg.DDR_RK_CTL Reg.DDR_RK_CTL.BUSY 0 else s

/-- A write of GO to DDR_RK_CTL (R321). -/
def State.rekeyGo (s : State) (src dst rate : Nat) : State :=
  let a := Reg.DDR_RK_CTL
  if s.rbit a Reg.DDR_RK_CTL.BUSY then s
  else
    let s := ((s.setRf a Reg.DDR_RK_CTL.FROM src).setRf a Reg.DDR_RK_CTL.TO dst).setRf a Reg.DDR_RK_CTL.RATE rate
    if src % 64 = dst % 64 ∨ !s.keyValid (dst % 64) then s.setRf a Reg.DDR_RK_CTL.ERR 1
    else
      let live := (List.range 12).filter fun n => s.extLive (.ddr n)
      { (s.setRf a Reg.DDR_RK_CTL.DONE 0).setRf a Reg.DDR_RK_CTL.BUSY 1 with ext := { s.ext with rekey := live.map fun n => (n, 0) } }.settleRekey

/-- A channel re-encrypts its next page (R321). -/
def State.rekeyPage (s : State) (n : Nat) : State :=
  let src := s.rf Reg.DDR_RK_CTL Reg.DDR_RK_CTL.FROM
  let dst := s.rf Reg.DDR_RK_CTL Reg.DDR_RK_CTL.TO
  match s.ext.rekey.find? (·.1 == n) with
  | none => s
  | some e => match s.nextTagged n e.2 src with
    | none => s.settleRekey
    | some pg =>
      let u := (2 ^ 32 + n * 2 ^ 23 + pg) * 1024
      let s := (List.range 1024).foldl (fun s i => s.copyUnit (u + i) (u + i) (some src) (some dst)) s
      let s := (s.writeTag n pg (some dst)).bump Reg.DDR_RK_CTL Reg.DDR_RK_CTL.DONE 1
      { s with ext := { s.ext with rekey := s.ext.rekey.map fun (x : Nat × Nat) => if x.1 = n then (n, pg + 1) else x } }.settleRekey

/-! ### Key slots (R319, R320) -/

/-- Whether a slot may not be retired (R320). -/
def State.keyHeld (s : State) (k : Nat) : Bool :=
  s.rf (Reg.KEY_CTL k) Reg.KEY_CTL.PAGES != 0
    || (s.rbit Reg.DDR_RK_CTL Reg.DDR_RK_CTL.BUSY
      && (s.rf Reg.DDR_RK_CTL Reg.DDR_RK_CTL.FROM == k || s.rf Reg.DDR_RK_CTL Reg.DDR_RK_CTL.TO == k))

/-- Retirement of a slot (R320). -/
def State.retireSlot (s : State) (k : Nat) : State :=
  if 64 ≤ k then s
  else if s.keyHeld k then s.setRf (Reg.KEY_CTL k) Reg.KEY_CTL.REFUSED 1
  else { s.setRf (Reg.KEY_CTL k) Reg.KEY_CTL.VALID 0 with ext := { s.ext with keys := vset s.ext.keys k none } }

/-! ### Patrol (R311) -/

/-- A patrol pass: what its code meets is corrected or poisoned; the pass is counted. -/
def State.patrolPass (s : State) (m : ExtMem) (ecc : Ecc) : State :=
  if !s.extLive m then s
  else
    let s := s.extEcc m ecc 0 ((s.pagesOf m).2 * pageBytes) true
    match m with
    | .hbm n => s.bump (Reg.HBM_PATROL n) Reg.HBM_PATROL.PASSES 1
    | .ddr n => s.bump (Reg.DDR_PATROL n) Reg.DDR_PATROL.PASSES 1

/-! ### Commands -/

/-- PATROL_PASS (R311). -/
def execPatrolPass (m : ExtMem) (ecc : Ecc) (s : State) : Out := .next (s.patrolPass m ecc)
/-- HBM_SCRUB_GO (R328). -/
def execHbmScrubGo (n first count : Nat) (s : State) : Out := .next (s.scrubGo (.hbm n) first count)
/-- DDR_SCRUB_GO (R329). -/
def execDdrScrubGo (n first count : Nat) (s : State) : Out := .next (s.scrubGo (.ddr n) first count)
/-- DDR_MOVE_GO (R323). -/
def execDdrMoveGo (n hpage dpage : Nat) (toHbm : Bool) (s : State) : Out := .next (s.moveGo n hpage dpage toHbm)
/-- MOVE_COMPLETE (R323). -/
def execMoveComplete (n : Nat) (s : State) : Out := .next (s.moveEnd n)
/-- TAG_ASSIGN (R318). -/
def execTagAssign (n first count slot : Nat) (s : State) : Out := .next (s.tagGo n first count (some slot))
/-- TAG_RELEASE (R318). -/
def execTagRelease (n first count : Nat) (s : State) : Out := .next (s.tagGo n first count none)
/-- TAG_COMMAND_DONE (R318). -/
def execTagCommandDone (n : Nat) (s : State) : Out :=
  .next (if n < 12 then s.setRf (Reg.DDR_TAG_CMD n) Reg.DDR_TAG_CMD.BUSY 0 else s)
/-- REKEY_GO (R321). -/
def execRekeyGo (src dst rate : Nat) (s : State) : Out := .next (s.rekeyGo src dst rate)
/-- REKEY_PAGE (R321). -/
def execRekeyPage (n : Nat) (s : State) : Out := .next (s.rekeyPage n)
/-- KEY_SLOT_RETIRE (R320). -/
def execKeySlotRetire (slot : Nat) (s : State) : Out := .next (s.retireSlot slot)

end Sys2Proof.Machine
end

