-- ==== Sys2Proof/Machine/HostPort.lean ====
section
/-! DEFINITION. The host port's states and its link (R382, R379). -/

namespace Sys2Proof.Machine

def State.hostState (s : State) : PowerState :=
  match s.rf Reg.HST_STAT Reg.HST_STAT.STATE with
  | 0 => .off
  | 1 => .starting
  | 2 => .on
  | _ => .stopping
def State.setHostState (s : State) (p : PowerState) : State :=
  s.setRf Reg.HST_STAT Reg.HST_STAT.STATE (match p with | .off => 0 | .starting => 1 | .on => 2 | .stopping => 3)
/-- LINK: 0 DOWN, 1 TRAINING, 2 UP. -/
def State.hostLink (s : State) : Nat := s.rf Reg.HST_STAT Reg.HST_STAT.LINK
def State.setHostLink (s : State) (l : Nat) : State := s.setRf Reg.HST_STAT Reg.HST_STAT.LINK l

/-- The enable of the host port (R382, R286). -/
def State.hostEnable (s : State) : State :=
  let s1 := s.setRf Reg.HST_CFG Reg.HST_CFG.EN 1
  match s.hostState with
  | .off => s1.setHostState .starting
  | .stopping => s1.setRf Reg.HST_STAT Reg.HST_STAT.PENDING_ON 1
  | .starting | .on => s1

/-- Its disable (R382, R286). -/
def State.hostDisable (s : State) : State :=
  let s1 := s.setRf Reg.HST_CFG Reg.HST_CFG.EN 0
  match s.hostState with
  | .on => s1.setHostState .stopping
  | .starting => s1.modHost fun h => { h with stop := true }
  | .stopping => s1.setRf Reg.HST_STAT Reg.HST_STAT.PENDING_ON 0
  | .off => s1

/-- Starting ends: the port is On and trains its link at once, or goes on to Stopping when a disable came (R382, R286). -/
def State.hostStarted (s : State) : State :=
  if s.hostState ≠ .starting then s
  else
    let stop := s.host.stop
    let s := s.modHost fun h => { h with stop := false }
    if stop then s.setHostState .stopping else (s.setHostState .on).setHostLink 1

/-- Stopping ends: the link is down, and the port is Off, or starts again (R382, R286). -/
def State.hostStopped (s : State) : State :=
  if s.hostState ≠ .stopping then s
  else
    let s := s.setHostLink 0
    if s.rbit Reg.HST_STAT Reg.HST_STAT.PENDING_ON then (s.setRf Reg.HST_STAT Reg.HST_STAT.PENDING_ON 0).setHostState .starting
    else s.setHostState .off

/-- A link that is DOWN trains again (R382). -/
def State.hostRetry (s : State) : State := if s.hostState = .on ∧ s.hostLink = 0 then s.setHostLink 1 else s

/-- The device's IPv6 address of HST_IP6. -/
def State.ip6 (s : State) : BitVec 128 := BitVec.ofNat 128 ((s.reg Reg.HST_IP6H).toNat * 2 ^ 64 + (s.reg Reg.HST_IP6L).toNat)

/-- A frame that is no Kilper packet leaves; it is written down as what it answers (an advertisement as the solicitation for its
address). -/
def State.sendFrame (s : State) (f : FrameBody) : State :=
  if s.hostSends then s.frameOut.modHost fun h => { h with frames := h.frames ++ [f] } else s

/-- The link comes UP; one unsolicited neighbour advertisement leaves when IPv6 is in use (R379). -/
def State.hostUp (s : State) : State :=
  if s.hostState = .on ∧ s.hostLink = 1 then
    let s := s.setHostLink 2
    if s.rbit Reg.HST_CFG Reg.HST_CFG.V6 then s.sendFrame (.neighbourSolicitation s.ip6) else s
  else s

/-- The link goes DOWN; an On port starts training again at once (R382). -/
def State.hostDown (s : State) : State :=
  if s.hostLink = 2 then s.setHostLink (if s.hostState = .on then 1 else 0) else s

/-- HOST_PORT_ENABLE (R382). -/
def execHostPortEnable (s : State) : Out := .next s.hostEnable
/-- HOST_PORT_DISABLE (R382). -/
def execHostPortDisable (s : State) : Out := .next s.hostDisable
/-- HOST_PORT_STARTED (R382). -/
def execHostPortStarted (s : State) : Out := .next s.hostStarted
/-- HOST_PORT_STOPPED (R382). -/
def execHostPortStopped (s : State) : Out := .next s.hostStopped
/-- HOST_TRAINING_RETRY (R382). -/
def execHostTrainingRetry (s : State) : Out := .next s.hostRetry
/-- HOST_LINK_UP (R379). -/
def execHostLinkUp (s : State) : Out := .next s.hostUp
/-- HOST_LINK_DOWN (R382). -/
def execHostLinkDown (s : State) : Out := .next s.hostDown

end Sys2Proof.Machine
end

