-- ==== Sys2Proof/Machine/Mmu.lean ====
section
/-! DEFINITION. Invalidation and the firmware fault queue of a cluster's MMU (R233, R234). -/

namespace Sys2Proof.Machine

/-- What an invalidation names (Table 7-8): every entry, or those that cover an address. -/
abbrev InvScope := Option Nat

def TlbEnt.named (t : TlbEnt) (x : InvScope) : Bool :=
  match x with
  | none => true
  | some va => t.covers va
def NonLeaf.named (n : NonLeaf) (x : InvScope) : Bool :=
  match x with
  | none => true
  | some va => n.idx == va / 2 ^ walkShift (n.level - 1)

/-- The physical range of an entry's page. -/
def TlbEnt.range (t : TlbEnt) : Nat × Nat := (ptePage t.leaf, 2 ^ t.size)

/-- The compute cores of a cluster. -/
def clusterCores (u : Nat) : List Nat := (List.range 40).map (40 * u + ·)

/-- A write of 1 to MMU_INV.GO (R233): entries go, walks in progress will not install, and the accesses through what was removed
are those that BUSY waits for. -/
def State.mmuInvalidate (s : State) (u : Nat) (x : InvScope) : State :=
  if (s.cluster u).inv.isSome then s
  else
    let c := s.cluster u
    let gone := c.stlb.filter (·.named x)
      ++ (clusterCores u).flatMap fun k => ((s.core k).dtlb ++ (s.core k).itlb).filter (·.named x)
    let s := s.modCluster u fun c => { c with
      stlb := c.stlb.filter (!·.named x)
      nonleaf := c.nonleaf.filter (!·.named x)
      walks := c.walks.map fun w => { w with stale := true }
      inv := some (s.net.tags, (gone.map TlbEnt.range).eraseDups) }
    (clusterCores u).foldl (fun s k => s.modCore k fun c => { c with
      dtlb := c.dtlb.filter (!·.named x), itlb := c.itlb.filter (!·.named x) }) s

/-- A physical address lies in one of the ranges. -/
def inRanges (l : List (Nat × Nat)) (pa : Nat) : Bool := l.any fun r => decide (r.1 ≤ pa) && decide (pa < r.1 + r.2)

/-- Whether an access of a core older than a tag, through one of the ranges, has not yet been accepted or refused. -/
def Core.accessOpen (c : Core) (bound : Nat) (l : List (Nat × Nat)) : Bool :=
  (c.stores.any fun x => match x.dst with
    | .mem pa _ => decide (x.tag < bound) && inRanges l pa
    | _ => false)
  || (c.fetches.any fun f => decide (f.tag < bound) && inRanges l (f.line * lineBytes) && f.data.isNone && !f.failed)
  || c.parts.any fun p => match p.st with
    | .wantFetch _ a => decide (a < bound) && inRanges l p.pa
    | .wantPick a => decide (a < bound) && inRanges l p.pa
    | .asked a => decide (a < bound) && inRanges l p.pa
    | _ => false

/-- The same for a burst of the DMA engine. -/
def Burst.accessOpen (b : Burst) (bound : Nat) (l : List (Nat × Nat)) : Bool :=
  decide (b.age < bound) && (match b.st with
    | .answered _ => false
    | _ => inRanges l b.src || inRanges l b.dst)

/-- BUSY clears (R233): no old walk is left, and no access through a removed entry. -/
def State.invalidationDone (s : State) (u : Nat) : State :=
  let c := s.cluster u
  match c.inv with
  | none => s
  | some (bound, l) =>
    if c.walks.any (·.stale) || c.bursts.any (·.accessOpen bound l)
        || (clusterCores u).any (fun k => (s.core k).accessOpen bound l) then s
    else s.modCluster u fun c => { c with inv := none }

/-- The oldest entry of the firmware fault queue is answered (R234). -/
def State.fqAnswer (s : State) (u : Nat) (retry : Bool) : State :=
  match (s.cluster u).fq with
  | [] => s
  | q :: l =>
    let s := s.modCluster u fun c => { c with fq := l }
    q.who.foldl (fun s w => if retry then s.walkAgain u w else s.walkFails u w) s

/-- A store to SYN_VAL or SYN_SVAL (R298): it acts as SSET without a cause. A core out of service ignores it (R28). -/
def State.synValWrite (s : State) (n : Nat) (v : W32) : State :=
  match counterOfNum n with
  | none => s
  | some (.core k i) => if s.coreLive k then (s.ctrAssign (.core k i) v.toNat).2 else s
  | some (.shared i) => (s.ctrAssign (.shared i) v.toNat).2

/-- A write of SYN_SHOME (R300). -/
def State.shomeWrite (s : State) (g : Nat) (hub : BitVec 4) : State :=
  if g < 12 then s.setRf (Reg.SYN_SHOME g) Reg.SYN_SHOME.HUB hub.toNat else s

/-- MMU_INV_ALL (R233). -/
def execMmuInvAll (cluster : Nat) (s : State) : Out := .next (s.mmuInvalidate cluster none)
/-- MMU_INV_VA (R233). -/
def execMmuInvVa (cluster : Nat) (va : BitVec 48) (s : State) : Out := .next (s.mmuInvalidate cluster (some va.toNat))
/-- INVALIDATION_DONE (R233). -/
def execInvalidationDone (cluster : Nat) (s : State) : Out := .next (s.invalidationDone cluster)
/-- FQ_RETRY (R234). -/
def execFqRetry (cluster : Nat) (s : State) : Out := .next (s.fqAnswer cluster true)
/-- FQ_REJECT (R234). -/
def execFqReject (cluster : Nat) (s : State) : Out := .next (s.fqAnswer cluster false)
/-- SYN_VAL_WRITE (R298). -/
def execSynValWrite (n : Nat) (v : BitVec 32) (s : State) : Out := .next (s.synValWrite n v)
/-- SHOME_WRITE (R300). -/
def execShomeWrite (g : Nat) (hub : BitVec 4) (s : State) : Out := .next (s.shomeWrite g hub)

end Sys2Proof.Machine
end

