-- ==== Sys2Proof/Machine/Dma.lean ====
section
/-! DEFINITION. The DMA engine and the check units of a cluster (R286 to R297). -/

namespace Sys2Proof.Machine

/-! ### Channels (R286, R294) -/

def Cluster.chan (c : Cluster) (n : Nat) : Chan := Sparse.get (fun _ => {}) c.chans n
def State.modChan (s : State) (u n : Nat) (f : Chan → Chan) : State :=
  s.modCluster u fun c => { c with chans := Sparse.set (fun _ => {}) c.chans n (f (c.chan n)) }

def State.chanState (s : State) (u n : Nat) : PowerState := PowerState.ofCode (s.rf (Reg.DMA_CH_STAT u n) Reg.DMA_CH_STAT.STATE)
def State.setChanState (s : State) (u n : Nat) (p : PowerState) : State :=
  s.setRf (Reg.DMA_CH_STAT u n) Reg.DMA_CH_STAT.STATE p.code
def State.setChanPending (s : State) (u n : Nat) (b : Bool) : State :=
  s.setRf (Reg.DMA_CH_STAT u n) Reg.DMA_CH_STAT.PENDING_ON (bit b)

/-- A channel of an engine that exists (R287). -/
def chanOk (u n : Nat) : Bool := decide (u < 12) && decide (n < 64)

/-- A write of 1 to DMA_CH_CFG.EN (R286). -/
def State.channelEnable (s : State) (u n : Nat) : State :=
  if !chanOk u n then s
  else
    let s1 := s.setRf (Reg.DMA_CH_CFG u n) Reg.DMA_CH_CFG.EN 1
    match s.chanState u n with
    | .off => s1.setChanState u n .starting
    | .stopping => s1.setChanPending u n true
    | .starting | .on => s1

/-- A write of 0 to DMA_CH_CFG.EN (R286, R294). -/
def State.channelDisable (s : State) (u n : Nat) : State :=
  if !chanOk u n then s
  else
    let s1 := s.setRf (Reg.DMA_CH_CFG u n) Reg.DMA_CH_CFG.EN 0
    match s.chanState u n with
    | .on => s1.setChanState u n .stopping
    | .starting => s1.modChan u n fun c => { c with stop := true }
    | .stopping => s1.setChanPending u n false
    | .off => s1

/-- CHANNEL_ON: Starting has cleared the burst state (R294); a disable that came meanwhile takes the channel on to Stopping. -/
def State.channelOn (s : State) (u n : Nat) : State :=
  if s.chanState u n = .starting then
    let stop := ((s.cluster u).chan n).stop
    (s.modChan u n fun _ => {}).setChanState u n (if stop then .stopping else .on)
  else s

/-! ### Descriptors (R288 to R290) -/

def Desc.isEnd (d : Desc) : Bool := tb d.w0 0
def Desc.next (d : Desc) : Nat := fld d.w0 25 6 * 64
def Desc.valid (d : Desc) : Bool := tb d.w1 0
def Desc.sig (d : Desc) : Bool := tb d.w1 8
def Desc.fence (d : Desc) : Bool := tb d.w1 9
def Desc.cnt (d : Desc) : Nat := fld d.w1 23 10
def Desc.amt (d : Desc) : Nat := fld d.w1 31 24
def Desc.sline (d : Desc) : Nat := fld d.sl 31 0
def Desc.scount (d : Desc) : Nat := fld d.sc 31 0
def Desc.dline (d : Desc) : Nat := fld d.dl 31 0
def Desc.dcount (d : Desc) : Nat := fld d.dc 31 0
/-- Bytes of the transfer. -/
def Desc.total (d : Desc) : Nat := d.sline * d.scount

/-- Populated bytes of a CLM (Table 1-4). -/
def clmBytes : Nat := 0x3000000
/-- Physical address of a CLM offset. -/
def clmAddr (u off : Nat) : Nat := 0x2000000000000 + u * 0x100000000 + off

/-- A malformed descriptor (R289). BAD, CODE and DONE are the engine's to write and are not reserved. -/
def Desc.malformed (d : Desc) : Bool :=
  decide (fld d.w0 5 1 ≠ 0 ∨ fld d.w0 63 26 ≠ 0 ∨ fld d.src 63 48 ≠ 0 ∨ fld d.sc 63 32 ≠ 0 ∨ fld d.dst 63 48 ≠ 0 ∨ fld d.dc 63 32 ≠ 0)
  || d.sline == 0 || d.scount == 0 || d.dline == 0 || d.dcount == 0
  || decide (d.sline * d.scount ≠ d.dline * d.dcount) || decide (2 ^ 32 < d.total)
  || (d.sig && decide (16384 ≤ d.cnt)) || (!d.isEnd && decide (clmBytes ≤ d.next))

/-- Bytes as the eight words of a descriptor. -/
def Desc.ofBytes (b : List Byte) : Desc :=
  let w (i : Nat) : W64 := BitVec.ofNat 64 (Machine.ofBytes ((b.drop (8 * i)).take 8))
  ⟨w 0, w 1, w 2, w 3, w 4, w 5, w 6, w 7⟩

/-- Virtual address of a position of one side: line and offset within the line (R288). -/
def sideAddr (base line : Nat) (stride : W64) (pos : Nat) : Nat :=
  wrap 48 ((base : Int) + (pos / line : Nat) * signed 32 (fld stride 63 32) + (pos % line : Nat))
def Desc.srcAt (d : Desc) (pos : Nat) : Nat := sideAddr (fld d.src 47 0) d.sline d.sl pos
def Desc.dstAt (d : Desc) (pos : Nat) : Nat := sideAddr (fld d.dst 47 0) d.dline d.dl pos

/-- Bytes of the burst at a position (R291): to the end of the source line, of the destination line, of the 512-byte block of either
address. -/
def Desc.burstLen (d : Desc) (pos : Nat) : Nat :=
  min (min (d.sline - pos % d.sline) (d.dline - pos % d.dline))
    (min (512 - d.srcAt pos % 512) (512 - d.dstAt pos % 512))

/-- A run's bursts have all started. -/
def DescRun.issuedAll (r : DescRun) : Bool := decide (r.d.total ≤ r.issued)

/-- The bytes from the start of the transfer all of whose writes have completed. -/
def donePrefix : Nat → List (Nat × Nat) → Nat → Nat
  | 0, _, at_ => at_
  | n + 1, l, at_ => match l.find? fun x => x.1 == at_ && x.2 != 0 with
    | some x => donePrefix n l (at_ + x.2)
    | none => at_
def DescRun.doneBytes (r : DescRun) : Nat := donePrefix r.done.length r.done 0

/-- Every write response of the descriptor has arrived (R290). -/
def DescRun.complete (r : DescRun) : Bool := r.bad.isNone && r.issuedAll && r.doneBytes == r.d.total

/-- The engine sends a pulse (R292, R293): a SIG from its hub. -/
def State.dmaPulse (s : State) (u cnt amt : Nat) : State :=
  match counterOfNum cnt with
  | none => s
  | some c =>
    let dst := match s.counterHub c with
      | some h => epHub h
      | none => epHub u
    s.inject { kind := .sig, part := s.partOf u, dst := dst, src := epHub u, addr := c.addr, payload := toBytes 8 (2 ^ 32 * amt) }

/-- A failure of the channel is counted and, with ESIG, signalled (R290, R293). -/
def State.countBad (s : State) (u n : Nat) : State :=
  let s := s.bump (Reg.DMA_CH_STAT u n) Reg.DMA_CH_STAT.BADS 1
  if s.rbit (Reg.DMA_CH_CFG u n) Reg.DMA_CH_CFG.ESIG then s.dmaPulse u (s.rf (Reg.DMA_CH_CFG u n) Reg.DMA_CH_CFG.ECNT) 1 else s

/-- BUSY follows the channel's work (R290). -/
def State.settleBusy (s : State) (u n : Nat) : State :=
  let c := (s.cluster u).chan n
  s.setRf (Reg.DMA_CH_STAT u n) Reg.DMA_CH_STAT.BUSY (bit (c.next.isSome || !c.runs.isEmpty))

/-- A write of DMA_CH_HEAD with GO = 1 (R290). -/
def State.dmaGo (s : State) (u n : Nat) (head : BitVec 20) : State :=
  if !chanOk u n then s
  else
    let s := s.setRf (Reg.DMA_CH_HEAD u n) Reg.DMA_CH_HEAD.HEAD head.toNat
    if s.chanState u n = .on ∧ !s.rbit (Reg.DMA_CH_STAT u n) Reg.DMA_CH_STAT.BUSY then
      (s.modChan u n fun c => { c with next := some (head.toNat * 64) }).settleBusy u n
    else s

/-- DESCRIPTOR_READ: a channel reads its next descriptor once the last burst of the one before has started, or once that one has been
written back (R289, R290, R293). -/
def State.descriptorRead (s : State) (u n : Nat) : State :=
  let c := (s.cluster u).chan n
  match c.next with
  | none => s
  | some off =>
    if s.chanState u n ≠ .on ∨ c.runs.getLast?.any (fun r => r.bad.isSome || !r.issuedAll) then s
    else
      let stop (s : State) : State := (s.modChan u n fun c => { c with next := none }).settleBusy u n
      if clmBytes ≤ off then stop (s.countBad u n)
      else match s.physRead (clmAddr u off) 64 none with
      | (.inl _, s1) => stop (s1.countBad u n)
      | (.inr b, s1) =>
        let d := Desc.ofBytes b
        let next := if d.isEnd then none else some d.next
        if !d.valid then stop s1
        else if d.malformed then
          let (id, s2) := s1.newTag
          s2.modChan u n fun c => { c with next := next, runs := c.runs ++ [{ id := id, off := off, d := d, bad := some 0x08 }] }
        else if d.fence && !c.runs.isEmpty then s
        else
          let (id, s2) := s1.newTag
          (s2.modChan u n fun c => { c with next := next, runs := c.runs ++ [{ id := id, off := off, d := d }] }).setRf
            (Reg.DMA_CH_STAT u n) Reg.DMA_CH_STAT.CUR (off / 64)

/-! ### Bursts (R291) -/

/-- The descriptor whose bursts a channel may start. -/
def Chan.current (c : Chan) : Option DescRun := c.runs.find? fun r => r.bad.isNone && !r.issuedAll

def Chan.mapRun (c : Chan) (id : Nat) (f : DescRun → DescRun) : Chan :=
  { c with runs := c.runs.map fun r => if r.id = id then f r else r }

/-- One side of a burst translated (R29, R225, R229): an address in the register window fails. -/
def State.dmaXlate (s : State) (u n id : Nat) (write : Bool) (va : Nat) : XRes × State :=
  if inWindow (BitVec.ofNat 48 va) then (.fault, s)
  else s.xlate u none (if write then .store else .load) false va false (.dma n id write va)

/-- A request of the engine for memory. -/
def State.dmaRequest (s : State) (u : Nat) (kind : PKind) (pa tag size : Nat) (key : Option Nat) (payload : List Byte) : State :=
  s.inject { kind := kind, part := s.partOf u, dst := s.serverOf (epHub u) pa, src := epHub u, tag := tag, addr := pa,
             size := size, key := key, payload := payload }

/-- A channel's next burst starts, if its translations allow it: whether it has taken a place. A translation that fails marks its
descriptor, one that waits holds the channel. -/
def State.startBurst (s : State) (u n : Nat) : Bool × State :=
  let c := (s.cluster u).chan n
  match c.current with
  | none => (false, s)
  | some r =>
    if s.chanState u n ≠ .on ∨ c.waiting then (false, s)
    else
      let pos := r.issued
      let len := r.d.burstLen pos
      let fail (s : State) : Bool × State := (false, s.modChan u n fun c => c.mapRun r.id fun x => { x with bad := some 0x01 })
      let hold (s : State) : Bool × State := (false, s.modChan u n fun c => { c with waiting := true })
      match s.dmaXlate u n r.id false (r.d.srcAt pos) with
      | (.fault, s1) => fail s1
      | (.wait, s1) => hold s1
      | (.ok src _ skey, s1) => match s1.dmaXlate u n r.id true (r.d.dstAt pos) with
        | (.fault, s2) => fail s2
        | (.wait, s2) => hold s2
        | (.ok dst _ dkey, s2) =>
          let (tag, s3) := s2.newTag
          let b : Burst := { chan := n, run := r.id, pos := pos, len := len, src := src, dst := dst, skey := skey, dkey := dkey,
                             age := tag, tag := tag, st := .reading }
          let s4 := s3.modCluster u fun c => { c with bursts := c.bursts ++ [b] }
          (true, (s4.modChan u n fun c => c.mapRun r.id fun x => { x with issued := pos + len }).dmaRequest u .rd src tag len skey [])

/-- The channels of a priority in the order in which the round-robin pointer takes them. -/
def State.prioOrder (s : State) (u p : Nat) : List Nat :=
  let from_ := vget (s.cluster u).rr p + 1
  ((List.range 64).map fun j => (from_ + j) % 64).filter fun n => s.rf (Reg.DMA_CH_CFG u n) Reg.DMA_CH_CFG.PRIO == p

/-- Places given within one priority: channels still to ask and places left. -/
def startPrio (u p : Nat) : List Nat → Nat → State → Nat × State
  | [], left, s => (left, s)
  | _, 0, s => (0, s)
  | n :: l, left + 1, s =>
    if 256 ≤ (s.cluster u).bursts.length then (0, s)
    else match s.startBurst u n with
    | (true, s1) => startPrio u p l left (s1.modCluster u fun c => { c with rr := vset c.rr p n })
    | (false, s1) => startPrio u p l (left + 1) s1

/-- BURST_START: one MCLK cycle of the engine (R291). -/
def State.burstStart (s : State) (u : Nat) : State :=
  if 12 ≤ u ∨ s.net.paused.contains u then s
  else ([7, 6, 5, 4, 3, 2, 1, 0].foldl (fun (acc : Nat × State) p => startPrio u p (acc.2.prioOrder u p) acc.1 acc.2) (8, s)).2

/-- The code of Table 9-8 for an ERR (R27, R353). -/
def dmaCode (code src : Nat) : Nat :=
  match code with
  | 1 => 5
  | 3 => 3
  | 4 => 4
  | _ => if (siteOfEp src = 0xC ∨ siteOfEp src = 0xD) ∧ unitOfEp src < 9 then 6 else 2

/-- An answer reaches the engine's hub (R291, R293): bytes that were read are written next; a refused pulse is counted. -/
def State.dmaAnswer (s : State) (u : Nat) (p : Packet) : State :=
  let set (f : Burst → Burst) (s : State) : State :=
    s.modCluster u fun c => { c with bursts := c.bursts.map fun b => if b.tag = p.tag ∧ p.tag ≠ 0 then f b else b }
  match (s.cluster u).bursts.find? fun b => b.tag == p.tag && p.tag != 0 with
  | none => if p.kind = .err then s.bump (Reg.DMA_ERRS u) Reg.DMA_ERRS.ERRS 1 else s
  | some b =>
    match p.kind, b.st with
    | .err, _ => set (fun b => { b with st := .answered (some (dmaCode p.code p.src)) }) s
    | .rdr, .reading =>
      let (tag, s1) := s.newTag
      (set (fun b => { b with st := .writing, bytes := p.payload, tag := tag }) s1).dmaRequest u .wr b.dst tag 0 b.dkey p.payload
    | .wrr, .writing => set (fun b => { b with st := .answered none }) s
    | _, _ => s

/-! ### Check units (R295 to R297) -/

/-- Width of an algorithm's register, its initial state and XOROUT (Table 9-9). -/
def checkAlg : Nat → Nat × Nat × Nat
  | 0 => (32, 0xFFFFFFFF, 0xFFFFFFFF)
  | 1 => (32, 0xFFFFFFFF, 0xFFFFFFFF)
  | 2 => (64, 0, 0)
  | _ => (16, 0xFFFF, 0)

/-- One byte of a CRC that is not reflected: most significant bit first. -/
def crcByteMsb (w poly crc : Nat) (b : Byte) : Nat :=
  (List.range 8).foldl (fun c i =>
    let top := (c / 2 ^ (w - 1) % 2 == 1) != b.getLsbD (7 - i)
    let c2 := 2 * c % 2 ^ w
    if top then c2.xor poly else c2) crc

/-- A unit's register after bytes (Table 9-9); reflected algorithms keep it in reflected bit order. -/
def checkBytes (alg crc : Nat) (l : List Byte) : Nat :=
  match alg with
  | 0 => crcBytes 0x82F63B78 crc l
  | 1 => crcBytes 0xEDB88320 crc l
  | 2 => l.foldl (crcByteMsb 64 0x42F0E1EBA9EA3693) crc
  | _ => l.foldl (crcByteMsb 16 0x1021) crc

def State.chkAlg (s : State) (u k : Nat) : Nat := s.rf (Reg.CHK_CFG u k) Reg.CHK_CFG.ALG
def State.setChk (s : State) (u k v : Nat) : State :=
  s.setRf (Reg.CHK_STATE u k) Reg.CHK_STATE.STATE (v % 2 ^ (checkAlg (s.chkAlg u k)).1)

/-- CHK_RESULT (R296). -/
def State.chkResult (s : State) (u k : Nat) : Nat :=
  let (w, _, x) := checkAlg (s.chkAlg u k)
  (s.rf (Reg.CHK_STATE u k) Reg.CHK_STATE.STATE % 2 ^ w).xor x

/-- A write of 1 to CHK_CFG.INIT (R296). -/
def State.chkInit (s : State) (u k : Nat) : State :=
  if u < 12 ∧ k < 4 then s.setChk u k (checkAlg (s.chkAlg u k)).2.1 else s

/-- The enabled units that watch a channel (R295). -/
def State.unitsOn (s : State) (u n : Nat) : List Nat :=
  (List.range 4).filter fun k =>
    s.rbit (Reg.CHK_CFG u k) Reg.CHK_CFG.EN && s.rf (Reg.CHK_CFG u k) Reg.CHK_CFG.CHAN == n

/-- Bytes of a channel are absorbed (R295): the bytes read and the bytes written are the same. -/
def State.absorb (s : State) (u n : Nat) (l : List Byte) : State :=
  (s.unitsOn u n).foldl (fun s k => s.setChk u k (checkBytes (s.chkAlg u k) (s.rf (Reg.CHK_STATE u k) Reg.CHK_STATE.STATE) l)) s

/-- The oldest descriptor's completed bursts are absorbed in order (R295). -/
def absorbRun (u n : Nat) : Nat → State → State
  | 0, s => s
  | f + 1, s =>
    match ((s.cluster u).chan n).runs.head? with
    | none => s
    | some r => match r.held.find? fun x => x.1 == r.absorbed with
      | none => s
      | some x =>
        absorbRun u n f ((s.absorb u n x.2).modChan u n fun c => c.mapRun r.id fun y =>
          { y with absorbed := y.absorbed + x.2.length, held := y.held.filter (·.1 != x.1) })

/-- Complete descriptors leave in order: their bytes absorbed, then their pulses (R290, R292). -/
def settleRuns (u n : Nat) : Nat → State → State
  | 0, s => s
  | f + 1, s =>
    let s := absorbRun u n (((s.cluster u).chan n).runs.head?.elim 0 fun r => r.held.length) s
    match ((s.cluster u).chan n).runs with
    | r :: l =>
      if r.complete then
        let s := s.modChan u n fun c => { c with runs := l }
        settleRuns u n f (if r.d.sig then s.dmaPulse u r.d.cnt r.d.amt else s)
      else s
    | [] => s

def State.settleChan (s : State) (u n : Nat) : State :=
  (settleRuns u n ((s.cluster u).chan n).runs.length s).settleBusy u n

/-- BURST_COMPLETE: the b-th burst outstanding has been answered (R290, R293). -/
def State.burstComplete (s : State) (u b : Nat) : State :=
  match (s.cluster u).bursts[b]? with
  | none => s
  | some x => match x.st with
    | .answered bad =>
      let s := s.modCluster u fun c => { c with bursts := c.bursts.eraseIdx b }
      match bad with
      | some code => s.modChan u x.chan fun c => c.mapRun x.run fun r => { r with bad := some (r.bad.getD code) }
      | none =>
        ((s.bump (Reg.DMA_BYTES u) Reg.DMA_BYTES.BYTES x.len).modChan u x.chan fun c => c.mapRun x.run fun r =>
          { r with done := r.done ++ [(x.pos, x.len)], held := r.held ++ [(x.pos, x.bytes)] }).settleChan u x.chan
    | _ => s

/-- Word 0x08 of a descriptor written back (R293, Table 9-7). -/
def Desc.badWord (d : Desc) (code done : Nat) : W64 := setFld (setFld (setBit d.w1 1 true) 7 2 code) 63 32 done

/-- A descriptor is written back BAD (R293); the check units of the channel set ERR (R297), and their state covers a part of its
bytes that the spec does not name, unless it moved none. -/
def State.writeBack (s : State) (u n : Nat) (r : DescRun) (code : Nat) : State :=
  let s := (s.physWrite (clmAddr u (r.off + 8)) (toBytes 8 (r.d.badWord code r.doneBytes).toNat) none).2
  let s := (s.unitsOn u n).foldl (fun s k =>
    let s := s.setRf (Reg.CHK_CFG u k) Reg.CHK_CFG.ERR 1
    if r.issued = 0 then s
    else let (v, s) := s.fresh; s.setChk u k v) s
  let s := s.modChan u n fun c => { c with runs := c.runs.filter (·.id != r.id), next := if code = 0x07 then none else c.next }
  (s.countBad u n).settleChan u n

/-- Whether bursts of a descriptor are outstanding. -/
def State.burstsOpen (s : State) (u n id : Nat) : Bool := (s.cluster u).bursts.any fun b => b.chan == n && b.run == id

/-- DESCRIPTOR_BAD: the oldest failed descriptor of a channel whose bursts have all been answered is written back; in a channel that is
stopped, the oldest that is not complete (R293, R294). -/
def State.descriptorBad (s : State) (u n : Nat) : State :=
  let stopping := s.chanState u n == .stopping
  match ((s.cluster u).chan n).runs.find? fun r => (r.bad.isSome || (stopping && !r.complete)) && !s.burstsOpen u n r.id with
  | none => s
  | some r => s.writeBack u n r (r.bad.getD 0x07)

/-- Every descriptor that a stopping channel still has is written back. -/
def writeBackAll (u n : Nat) : Nat → State → State
  | 0, s => s
  | f + 1, s => writeBackAll u n f (s.descriptorBad u n)

/-- CHANNEL_OFF: a Stopping channel whose bursts have been answered reaches Off (R294), or goes on to Starting (R286). -/
def State.channelOff (s : State) (u n : Nat) : State :=
  if s.chanState u n ≠ .stopping ∨ (s.cluster u).bursts.any (·.chan == n) then s
  else
    let s := writeBackAll u n ((s.cluster u).chan n).runs.length s
    let s := (s.modChan u n fun _ => {}).settleBusy u n
    if s.rbit (Reg.DMA_CH_STAT u n) Reg.DMA_CH_STAT.PENDING_ON then (s.setChanPending u n false).setChanState u n .starting
    else s.setChanState u n .off

/-- CHANNEL_ENABLE (R286). -/
def execChannelEnable (cluster n : Nat) (s : State) : Out := .next (s.channelEnable cluster n)
/-- CHANNEL_DISABLE (R294). -/
def execChannelDisable (cluster n : Nat) (s : State) : Out := .next (s.channelDisable cluster n)
/-- CHANNEL_ON (R294). -/
def execChannelOn (cluster n : Nat) (s : State) : Out := .next (s.channelOn cluster n)
/-- CHANNEL_OFF (R294). -/
def execChannelOff (cluster n : Nat) (s : State) : Out := .next (s.channelOff cluster n)
/-- DMA_GO (R290). -/
def execDmaGo (cluster n : Nat) (head : BitVec 20) (s : State) : Out := .next (s.dmaGo cluster n head)
/-- DESCRIPTOR_READ (R289, R290). -/
def execDescriptorRead (cluster n : Nat) (s : State) : Out := .next (s.descriptorRead cluster n)
/-- BURST_START (R291). -/
def execBurstStart (cluster : Nat) (s : State) : Out := .next (s.burstStart cluster)
/-- BURST_COMPLETE (R290). -/
def execBurstComplete (cluster b : Nat) (s : State) : Out := .next (s.burstComplete cluster b)
/-- DESCRIPTOR_BAD (R293). -/
def execDescriptorBad (cluster n : Nat) (s : State) : Out := .next (s.descriptorBad cluster n)
/-- CHK_INIT (R296). -/
def execChkInit (cluster u : Nat) (s : State) : Out := .next (s.chkInit cluster u)

end Sys2Proof.Machine
end

