-- ==== Sys2Proof/Machine/Message.lean ====
section
/-! DEFINITION. Message channels: sends, receive queues, credits, hampers and reductions (R246 to R264). -/

namespace Sys2Proof.Machine

/-- Send entry n and queue q of a core (Table 8-7); the steward cores have none. -/
def sendReg (k n : Nat) : Nat := Reg.CLU_RT_SEND (k / 40) (k % 40) n
def qaReg (k q : Nat) : Nat := Reg.CLU_RT_QA (k / 40) (k % 40) q
def qbReg (k q : Nat) : Nat := Reg.CLU_RT_QB (k / 40) (k % 40) q

/-- Whether a send entry may take the message of a send of a size: VALID, KIND and ROP not reserved, MSZ as the send needs, no
fragment on a reduction channel (R251). -/
def State.sendOk (s : State) (k n : Nat) (frag : Bool) : Bool :=
  let a := sendReg k n
  let kind := s.rf a Reg.CLU_RT_SEND.KIND
  !isSteward k && s.rbit a Reg.CLU_RT_SEND.VALID && kind != 3 && s.rbit a Reg.CLU_RT_SEND.MSZ == frag
    && (kind != 2 || (!frag && (Rop.ofCode (s.rf a Reg.CLU_RT_SEND.ROP)).isSome))

/-- Bytes that a hamper holds between head and tail (R257). -/
def hamperUsed (size : Nat) (h t : Nat × Bool) : Nat := if t.2 = h.2 then t.1 - h.1 else size - h.1 + t.1

/-- A position in a ring moved on (R257). -/
def hamperAdvance (size : Nat) (x : Nat × Bool) (n : Nat) : Nat × Bool := if x.1 + n = size then (0, !x.2) else (x.1 + n, x.2)

/-- The skip marker (R257). -/
def skipMarker (r : Nat) : List Byte := [0x53#8, 0x4B#8, 0x49#8, 0x50#8] ++ toBytes 4 r ++ List.replicate 120 0#8

/-- Where a message of m bytes is placed in a ring, what is written before it, and the new tail; none when the ring is full (R257). -/
def hamperPlace (size : Nat) (h t : Nat × Bool) (m : Nat) : Option (List (Nat × List Byte) × Nat × (Nat × Bool)) :=
  let used := hamperUsed size h t
  let r := size - t.1
  if m ≤ r then (if size < used + m then none else some ([], t.1, hamperAdvance size t m))
  else if size < used + r + m then none
  else some ([(t.1, skipMarker r)], 0, hamperAdvance size (hamperAdvance size t r) m)

/-- Byte runs cut into writes of 512 bytes or fewer (R258). -/
def chunks (n : Nat) : List Byte → Nat → List (Nat × List Byte)
  | l, pos => if l.isEmpty then [] else match n with
    | 0 => []
    | n + 1 => (pos, l.take 512) :: chunks n (l.drop 512) (pos + 512)

/-- A core's WR packets for a run of bytes; their tags. -/
def State.ringWrites (s : State) (k base : Nat) (runs : List (Nat × List Byte)) : List Nat × State :=
  runs.foldl (fun (ts, s) (pos, b) =>
    let (tag, s) := s.newTag
    (ts ++ [tag], s.coreRequest k .wr (base + pos) tag 0 none b)) ([], s)

/-- The message's header for a send entry (R246). -/
def State.sendPacket (s : State) (k n : Nat) (kind : PKind) (payload : List Byte) : Packet :=
  let a := sendReg k n
  let mc := s.rf a Reg.CLU_RT_SEND.KIND == 1
  { kind := kind, part := s.partOfCore k, mc := mc, dst := if mc then 0 else s.rf a Reg.CLU_RT_SEND.DST, src := epCore k, tag := n,
    group := if mc then s.rf a Reg.CLU_RT_SEND.GROUP else 0, chid := s.rf a Reg.CLU_RT_SEND.CHID, payload := payload }

/-- A send channel's counts (R255, Table 8-13). -/
def State.chSent (s : State) (k n : Nat) : Nat := s.rf (Reg.CORE_MSG_SSA k n) Reg.CORE_MSG_SSA.SENT
def State.chRel (s : State) (k n : Nat) : Nat := s.rf (Reg.CORE_MSG_SSA k n) Reg.CORE_MSG_SSA.REL
def State.chTail (s : State) (k n : Nat) : Nat × Bool :=
  (s.rf (Reg.CORE_MSG_SSB k n) Reg.CORE_MSG_SSB.TPOS * 128, s.rbit (Reg.CORE_MSG_SSB k n) Reg.CORE_MSG_SSB.TLAP)
def State.chHead (s : State) (k n : Nat) : Nat × Bool := Sparse.get (fun _ => (0, false)) (s.msg k).hhead n

/-- An accepted message is counted (R255). -/
def State.countSent (s : State) (k n : Nat) : State :=
  s.setRf (Reg.CORE_MSG_SSA k n) Reg.CORE_MSG_SSA.SENT ((s.chSent k n + 1) % 2 ^ 32)

/-- One pass of R255: the message leaves, or goes to the hamper; none when the channel waits. -/
def State.trySend (s : State) (k n : Nat) (payload : List Byte) : Option State :=
  let a := sendReg k n
  let win := s.rf a Reg.CLU_RT_SEND.WIN + 1
  let open_ (used : Nat) : Bool := serialLe (used + 1) win && decide (used % 2 ^ 32 < 2 ^ 31)
  match s.rf a Reg.CLU_RT_SEND.KIND with
  | 0 =>
    let dir := Sparse.get (fun _ => 0) (s.msg k).dir n
    let b := Reg.CORE_MSG_SSB k n
    let spill := s.rbit b Reg.CORE_MSG_SSB.SPILL
    let used := (dir + s.rf b Reg.CORE_MSG_SSB.FETCHED + 2 ^ 32 - s.chRel k n) % 2 ^ 32
    if !spill && decide (used < win) then
      some (((s.inject (s.sendPacket k n .msg payload)).modMsg k fun m =>
        { m with dir := Sparse.set (fun _ => 0) m.dir n ((dir + 1) % 2 ^ 32) }).countSent k n)
    else
      let h := s.rf a Reg.CLU_RT_SEND.HSLOT
      let hr := Reg.CLU_RT_HS (k / 40) (k % 40) h
      if h = 0 ∨ !s.rbit hr Reg.CLU_RT_HS.V then none
      else
        let size := 128 * s.rf hr Reg.CLU_RT_HS.HLINES
        match hamperPlace size (s.chHead k n) (s.chTail k n) payload.length with
        | none => none
        | some (pre, pos, t) =>
          let runs := pre ++ chunks 5 payload pos
          let (tags, s1) := s.ringWrites k (128 * s.rf hr Reg.CLU_RT_HS.HBASE) runs
          let s2 := ((s1.setRf b Reg.CORE_MSG_SSB.SPILL 1).setRf b Reg.CORE_MSG_SSB.TPOS (t.1 / 128)).setRf b Reg.CORE_MSG_SSB.TLAP (bit t.2)
          some ((s2.modMsg k fun m => { m with spills := m.spills ++ [⟨n, tags, t.1 / 128, t.2⟩] }).countSent k n)
  | 1 => if open_ (s.chSent k n + 2 ^ 32 - s.chRel k n) then some ((s.inject (s.sendPacket k n .msg payload)).countSent k n) else none
  | _ =>
    if open_ (s.chSent k n + 2 ^ 32 - s.chRel k n) then
      match Rop.ofCode (s.rf a Reg.CLU_RT_SEND.ROP) with
      | none => none
      | some r =>
        let (v, f) := r.contribute (BitVec.ofNat 1024 (ofBytes payload))
        some ((s.inject { (s.sendPacket k n .red (toBytes 128 v.toNat)) with
          round := s.chSent k n % 256, cnt := 1, rop := s.rf a Reg.CLU_RT_SEND.ROP, flg := flgOf f }).countSent k n)
    else none

/-- The messages of a send: channel and payload (R251). SENDF.G sends fragment fn of strand Ss on channel CH + s. -/
def State.sendMsgs (s : State) (k i : Nat) (x : SendRun) : List (Nat × List Byte) :=
  let frag (j : Nat) : List Byte := toBytes 2048 (vget (s.strand k j).f x.r.toNat).toNat
  match x.fn with
  | 0 => [(x.ch, toBytes 128 ((s.strand k i).rv x.r).toNat)]
  | 1 => [(x.ch, frag i)]
  | _ => (List.range 4).map fun j => (x.ch + j, frag j)

/-- Every message of a send is taken, or the first channel that cannot take its message (R251, R259). -/
def trySends (k : Nat) : List (Nat × List Byte) → State → Nat ⊕ State
  | [], s => .inr s
  | (n, b) :: l, s => match s.trySend k n b with
    | none => .inl n
    | some s1 => trySends k l s1

/-- The checks of a send in the slot in which it is tried (R251). -/
def State.sendBad (s : State) (k i : Nat) (x : SendRun) : Bool :=
  let ok (n : Nat) : Bool := s.sendOk k n (x.fn != 0)
  (x.fn != 0 && decide (8 ≤ x.r.toNat))
  || (if x.fn = 2 then i != 0 || decide (60 < x.ch) || !(List.range 4).all (fun j => ok (x.ch + j)) else !ok x.ch)

/-- A send is traced with the CHID of its first channel (R461). -/
def State.traceSend (s : State) (k i : Nat) (x : SendRun) : State :=
  s.trace k i 3 (s.strand k i).pc (s.rf (sendReg k x.ch) Reg.CLU_RT_SEND.CHID)

/-- SENDV, SENDF and SENDF.G (R251): tried in their slot; a send that its channel cannot take waits. -/
def sendBody (fn : Nat) (o : OpG) (e : Env) (s : State) : Res :=
  let x : SendRun := ⟨fn, o.r, o.ch.toNat, e.word, e.t⟩
  if s.sendBad e.k e.i x then illegal e
  else match trySends e.k (s.sendMsgs e.k e.i x) s with
  | .inr s1 => .done ((s1.bump (Reg.CORE_MSG_SENT e.k) Reg.CORE_MSG_SENT.SENT 1).traceSend e.k e.i x)
  | .inl _ => .hold (s.modStrand e.k e.i fun y => { y with send := some x }) .send (some .send)

/-- The send timeout (R259). -/
def State.sendTimeout (s : State) (k : Nat) : Nat := s.rf (Reg.CORE_MSG_CTL k) Reg.CORE_MSG_CTL.TIMEOUT

/-- A waiting send is tried in a slot at or after a cycle: accepted, no longer legal, stalled once its timeout has run out, or still
waiting (R251, R255, R259). -/
def State.retrySend (s : State) (w : Who) : State :=
  let k := w.core
  let i := w.strand
  let x := s.strand k i
  match x.send with
  | none => s
  | some r =>
    if !whoOk w || x.run != .waiting .send || s.heldByPause k i then s
    else
      let t := s.slotFor k i w.cycle
      let s0 := s.modCore k (Core.advance t)
      let lost (s : State) : State := s.countLost k i t
      match trySends k (s0.sendMsgs k i r) s0 with
      | res =>
        if r.first + s.sendTimeout k ≤ t then
          (match res with
           | .inl n => ((lost s0).bump (Reg.CORE_MSG_STALL k) Reg.CORE_MSG_STALL.STALLS 1).syncCause k i t
               { code := 0x08, xtval := s0.rf (sendReg k n) Reg.CLU_RT_SEND.CHID }
           | .inr _ => ((lost s0).bump (Reg.CORE_MSG_STALL k) Reg.CORE_MSG_STALL.STALLS 1).syncCause k i t
               { code := 0x08, xtval := s0.rf (sendReg k r.ch) Reg.CLU_RT_SEND.CHID })
        else if s0.sendBad k i r then (lost s0).syncCause k i t { code := 0x01, xtval := r.word }
        else match res with
        | .inl _ => s
        | .inr s1 => (((((lost s1).bump (Reg.CORE_MSG_SENT k) Reg.CORE_MSG_SENT.SENT 1).traceSend k i r).modStrand k i fun y =>
            { (y.stepPast 4) with run := .running, send := none }).issued k i t)

/-! ### Receive queues -/

/-- Places of a queue's share, bytes of a place, and the queue RAM offset of a place (R247). -/
def State.qPlaces (s : State) (k q : Nat) : Nat := s.rf (qaReg k q) Reg.CLU_RT_QA.NPL
def State.qSize (s : State) (k q : Nat) : Nat := if s.rbit (qaReg k q) Reg.CLU_RT_QA.MSZ then 2048 else 128
def State.qOffset (s : State) (k q p : Nat) : Nat := (128 * s.rf (qaReg k q) Reg.CLU_RT_QA.BASE + p * s.qSize k q) % 0x20000
def State.qEnabled (s : State) (k q : Nat) : Bool :=
  let a := qaReg k q
  !isSteward k && s.rbit a Reg.CLU_RT_QA.EN
    && (!s.rbit a Reg.CLU_RT_QA.KIND || (Rop.ofCode (s.rf a Reg.CLU_RT_QA.ROP)).isSome)
def State.qReduces (s : State) (k q : Nat) : Bool := s.rbit (qaReg k q) Reg.CLU_RT_QA.KIND

/-- Queue RAM bytes; offsets of a share are taken modulo 128 KiB (R247). -/
def State.qramRead (s : State) (k off n : Nat) : List Byte :=
  (List.range n).map fun j => s.byte (storeBase k .qram + (off + j) % 0x20000)
def State.qramWrite (s : State) (k off : Nat) (l : List Byte) : State :=
  let n := min l.length (0x20000 - off)
  (s.setBytes (storeBase k .qram + off) (l.take n)).setBytes (storeBase k .qram) (l.drop n)

/-- The first enabled queue of a core that is bound to a channel (R246). -/
def State.queueOf (s : State) (k chid : Nat) : Option Nat :=
  (List.range 32).find? fun q => s.qEnabled k q && s.rf (qaReg k q) Reg.CLU_RT_QA.CHID == chid

/-- A discarded arrival is counted (R246, R255, R260). -/
def State.unbound (s : State) (k : Nat) : State := s.bump (Reg.CORE_MSG_ERR k) Reg.CORE_MSG_ERR.UNBOUND 1

/-- Places that hold nothing. -/
def State.freePlaces (s : State) (k q : Nat) : List Nat :=
  let x := s.queue k q
  let n := s.qPlaces k q
  ((List.range n).map fun j => (x.cursor + j) % n).filter fun p =>
    !x.ready.contains p && !x.claimed.contains p && !x.fetch.any (·.place == p)

/-- A message becomes ready in a place (R253). -/
def State.becomeReady (s : State) (k q p : Nat) : State :=
  (s.modQueue k q fun x => { x with ready := x.ready ++ [p] }).offer k q 4

/-- An MSG reaches its TAP (R246, R255): it takes the next free place of its queue. -/
def State.msgAtTap (s : State) (k : Nat) (p : Packet) : State :=
  match s.queueOf k p.chid with
  | none => s.unbound k
  | some q =>
    if s.qReduces k q || s.qSize k q != p.payload.length then s.unbound k
    else match s.freePlaces k q with
    | [] => s.unbound k
    | f :: _ =>
      let s := s.qramWrite k (s.qOffset k q f) p.payload
      (s.modQueue k q fun x => { x with cursor := (f + 1) % s.qPlaces k q, mc := p.mc }).becomeReady k q f

/-- A CRD leaves a queue for its senders, or the one still at its router is brought up to date (R254). A queue
whose messages come along a multicast tree reports toward the tree's root (log entry 20). -/
def State.sendCrd (s : State) (k q : Nat) : State :=
  let a := qaReg k q
  let rel := s.rf (Reg.CORE_MSG_QSA k q) Reg.CORE_MSG_QSA.REL
  let pay := crdPayload rel (s.rf (Reg.CORE_MSG_QSA k q) Reg.CORE_MSG_QSA.FETCHED) (s.rf (Reg.CORE_MSG_QSB k q) Reg.CORE_MSG_QSB.HPOS)
    (s.rbit (Reg.CORE_MSG_QSB k q) Reg.CORE_MSG_QSB.HLAP)
  let chid := s.rf a Reg.CLU_RT_QA.CHID
  let uni := s.rf a Reg.CLU_RT_QA.SEP
  let mcast := s.rf a Reg.CLU_RT_QA.GROUP
  let tree := (s.queue k q).mc
  let p : Packet := { kind := .crd, part := s.partOfCore k, mc := tree, dst := uni, src := epCore k, group := mcast, chid := chid, payload := pay }
  let n : Node := .router (k / 40) (k % 40)
  match s.net.flight.findIdx? fun x => !tree && x.node == n && x.inp == .tap && x.p.kind == .crd && x.p.src == epCore k && x.p.chid == chid with
  | some j => match s.net.flight[j]? with
    | some x => s.place (some j) { x with p := { x.p with payload := pay } }
    | none => s
  | none => s.inject p

/-- A place is released (R252, R254). -/
def State.release (s : State) (k q : Nat) : State :=
  let a := Reg.CORE_MSG_QSA k q
  (s.setRf a Reg.CORE_MSG_QSA.REL ((s.rf a Reg.CORE_MSG_QSA.REL + 1) % 2 ^ 32)).sendCrd k q

/-- The RLS of a reduction queue goes down its release tree (R263). -/
def State.sendRls (s : State) (k q : Nat) : State :=
  let a := qaReg k q
  let chid := s.rf a Reg.CLU_RT_QA.CHID
  let pay := toBytes 8 (s.rf (Reg.CORE_MSG_QSA k q) Reg.CORE_MSG_QSA.REL)
  let n : Node := .router (k / 40) (k % 40)
  match s.net.flight.findIdx? fun x => x.node == n && x.inp == .tap && x.p.kind == .rls && x.p.src == epCore k && x.p.chid == chid with
  | some j => match s.net.flight[j]? with
    | some x => s.place (some j) { x with p := { x.p with payload := pay } }
    | none => s
  | none => s.inject { kind := .rls, part := s.partOfCore k, mc := true, dst := 0, src := epCore k, group := s.rf a Reg.CLU_RT_QA.GROUP,
                       chid := chid, payload := pay }

/-- The ready message that a strand's receive takes: the one held for it, else the oldest that nobody holds (R252, R253). -/
def Queue.pickFor (x : Queue) (i : Nat) : Option Nat := match x.held.find? (·.1 == i) with
  | some h => some h.2
  | none => x.free.head?

/-- A message leaves the ready ones. -/
def Queue.take (x : Queue) (i p : Nat) : Queue :=
  { x with ready := x.ready.filter (· != p), held := x.held.filter fun h => !(h.1 == i && h.2 == p) }

/-- RECVV (R252, R263, R264). -/
def recvvBody (o : OpG) (e : Env) (s : State) : Res :=
  let q := o.ch.toNat
  if 32 ≤ q || !s.qEnabled e.k q || s.rbit (qaReg e.k q) Reg.CLU_RT_QA.MSZ then illegal e
  else match (s.queue e.k q).pickFor e.i with
  | none => .wait (s.modQueue e.k q fun x => { x with sleepers := x.sleepers ++ [e.i] }) (.sleeping (.queue q)) none
  | some p =>
    let off := s.qOffset e.k q p
    let v : VReg := BitVec.ofNat 1024 (ofBytes (s.qramRead e.k off 128))
    let s1 := ((s.modQueue e.k q fun x => x.take e.i p).modStrand e.k e.i fun y => y.putV e.t o.r v).bump
      (Reg.CORE_MSG_RECV e.k) Reg.CORE_MSG_RECV.RECV 1
    let s1 := s1.trace e.k e.i 11 (s.strand e.k e.i).pc (s.rf (qaReg e.k q) Reg.CLU_RT_QA.CHID)
    if s.qReduces e.k q then
      let rel := s.rf (Reg.CORE_MSG_QSA e.k q) Reg.CORE_MSG_QSA.REL
      let f := flagsOfFlg (((s.queue e.k q).rounds.find? (·.round == rel)).map (·.flg) |>.getD 0)
      let s2 := (s1.qramWrite e.k off (List.replicate 128 0#8)).modQueue e.k q fun x => { x with rounds := x.rounds.filter (·.round != rel) }
      let s3 := (s2.setRf (Reg.CORE_MSG_QSA e.k q) Reg.CORE_MSG_QSA.REL ((rel + 1) % 2 ^ 32)).sendRls e.k q
      .done (s3.modStrand e.k e.i fun y => y.applyEff (.fp f (y.traps f) 1#2))
    else .done (s1.release e.k q)

/-- RECVF (R252). -/
def recvfBody (o : OpG) (e : Env) (s : State) : Res :=
  let q := o.ch.toNat
  if 32 ≤ q || !s.qEnabled e.k q || !s.rbit (qaReg e.k q) Reg.CLU_RT_QA.MSZ || s.qReduces e.k q then illegal e
  else match (s.queue e.k q).pickFor e.i with
  | none => .wait (s.modQueue e.k q fun x => { x with sleepers := x.sleepers ++ [e.i] }) (.sleeping (.queue q)) none
  | some p =>
    .done ((((s.modQueue e.k q fun x => let y := x.take e.i p; { y with claimed := y.claimed ++ [p] }).modStrand e.k e.i fun y =>
      y.putG e.t o.r (BitVec.ofNat 32 (s.qOffset e.k q p))).bump (Reg.CORE_MSG_RECV e.k) Reg.CORE_MSG_RECV.RECV 1).trace e.k e.i 11
        (s.strand e.k e.i).pc (s.rf (qaReg e.k q) Reg.CLU_RT_QA.CHID))

/-- QREL (R252). -/
def qrelBody (o : OpG) (e : Env) (s : State) : Res :=
  let q := o.ch.toNat
  if 32 ≤ q || o.r != 0#5 || !s.qEnabled e.k q || !s.rbit (qaReg e.k q) Reg.CLU_RT_QA.MSZ then illegal e
  else match (s.queue e.k q).claimed with
  | [] => illegal e
  | _ :: l => .done ((s.modQueue e.k q fun x => { x with claimed := l }).release e.k q)

/-- QPOLL (R252). -/
def qpollBody (o : OpG) (e : Env) (s : State) : Res :=
  let q := o.ch.toNat
  if 32 ≤ q || !s.qEnabled e.k q then illegal e
  else .done (s.modStrand e.k e.i fun y => y.putG e.t o.r (BitVec.ofNat 32 (s.queue e.k q).free.length))

/-! ### Hampers -/

/-- A hamper's tail update reaches its queue (R258). -/
def State.htlAtTap (s : State) (k : Nat) (p : Packet) : State :=
  match s.queueOf k p.chid with
  | none => s
  | some q =>
    let t := ofBytes p.payload
    (s.setRf (Reg.CORE_MSG_QSB k q) Reg.CORE_MSG_QSB.TPOS (t % 2 ^ 18)).setRf (Reg.CORE_MSG_QSB k q) Reg.CORE_MSG_QSB.TLAP (t / 2 ^ 18 % 2)

/-- Tail updates leave, in order, once every ring write of their message is answered (R258). -/
def sendTails (k : Nat) : Nat → State → State
  | 0, s => s
  | n + 1, s => match (s.msg k).spills with
    | x :: l =>
      if x.tags.isEmpty then
        sendTails k n ((s.modMsg k fun m => { m with spills := l }).inject
          { (s.sendPacket k x.ch .htl (toBytes 8 (x.tpos + 2 ^ 18 * bit x.tlap))) with mc := false })
      else s
    | [] => s

/-- A ring write is answered: with ERR the error is counted and marked in the channel (R258). -/
def State.ringAnswer (s : State) (k tag : Nat) (err : Bool) : State :=
  match (s.msg k).spills.find? fun x => x.tags.contains tag with
  | none => s
  | some x =>
    let s := if err then (s.bump (Reg.CORE_MSG_ERR k) Reg.CORE_MSG_ERR.ERRS 1).setRf (Reg.CORE_MSG_SSB k x.ch) Reg.CORE_MSG_SSB.ERR 1 else s
    let s := s.modMsg k fun m => { m with spills := m.spills.map fun y => { y with tags := y.tags.filter (· != tag) } }
    sendTails k (s.msg k).spills.length s

/-- HAMPER_FETCH: the queue begins to fetch the message at its head (R258). -/
def State.hamperFetch (s : State) (k q : Nat) : State :=
  let x := s.queue k q
  let b := Reg.CORE_MSG_QSB k q
  let size := 128 * s.rf (qbReg k q) Reg.CLU_RT_QB.HLINES
  let m := s.qSize k q
  let h : Nat × Bool := (s.rf b Reg.CORE_MSG_QSB.HPOS * 128, s.rbit b Reg.CORE_MSG_QSB.HLAP)
  let t : Nat × Bool := (s.rf b Reg.CORE_MSG_QSB.TPOS * 128, s.rbit b Reg.CORE_MSG_QSB.TLAP)
  if !s.qEnabled k q || s.qReduces k q || !s.rbit (qaReg k q) Reg.CLU_RT_QA.HEN || x.fetch.isSome || h == t then s
  else match s.freePlaces k q with
  | [] => s
  | f :: _ =>
    let h := if size - h.1 < m then hamperAdvance size h (size - h.1) else h
    let s := (s.setRf b Reg.CORE_MSG_QSB.HPOS (h.1 / 128)).setRf b Reg.CORE_MSG_QSB.HLAP (bit h.2)
    let base := 128 * s.rf (qbReg k q) Reg.CLU_RT_QB.HBASE + h.1
    let offs := (List.range ((m + 511) / 512)).map (· * 512)
    let (asked, s) := offs.foldl (fun (l, s) o =>
      let (tag, s) := s.newTag
      (l ++ [(tag, o)], s.coreRequest k .rd (base + o) tag (min 512 (m - o)) none [])) (([] : List (Nat × Nat)), s)
    s.modQueue k q fun x => { x with cursor := (f + 1) % s.qPlaces k q, fetch := some ⟨f, asked, [], false⟩ }

/-- Bytes of a hamper message arrive, or an error in their place; with the last of them the message is placed, the head moves on and
FETCHED rises (R258). -/
def State.fetchAnswer (s : State) (k q tag : Nat) (data : Option (List Byte)) : State :=
  match (s.queue k q).fetch with
  | none => s
  | some f =>
    let (b, s) := match data with
      | some b => (b, s)
      | none => let (v, s) := s.fresh; (toBytes 512 v, s)
    let off := ((f.asked.find? (·.1 == tag)).map (·.2)).getD 0
    let f1 : HFetch := { f with asked := f.asked.filter (·.1 != tag), got := f.got ++ [(off, b)], failed := f.failed || data.isNone }
    if f1.asked.isEmpty then
      let m := s.qSize k q
      let r := Reg.CORE_MSG_QSB k q
      let size := 128 * s.rf (qbReg k q) Reg.CLU_RT_QB.HLINES
      let s := f1.got.foldl (fun s (o, b) => s.qramWrite k ((s.qOffset k q f1.place + o) % 0x20000) (b.take (m - o))) s
      let h := hamperAdvance size (s.rf r Reg.CORE_MSG_QSB.HPOS * 128, s.rbit r Reg.CORE_MSG_QSB.HLAP) m
      let s := (s.setRf r Reg.CORE_MSG_QSB.HPOS (h.1 / 128)).setRf r Reg.CORE_MSG_QSB.HLAP (bit h.2)
      let s := s.setRf (Reg.CORE_MSG_QSA k q) Reg.CORE_MSG_QSA.FETCHED ((s.rf (Reg.CORE_MSG_QSA k q) Reg.CORE_MSG_QSA.FETCHED + 1) % 2 ^ 32)
      ((s.modQueue k q fun x => { x with fetch := none }).becomeReady k q f1.place).sendCrd k q
    else s.modQueue k q fun x => { x with fetch := some f1 }

/-! ### Credits and reductions at a core -/

/-- The valid send channels of a core with a channel ID, of one kind or another. -/
def State.channelsOf (s : State) (k chid : Nat) (red : Bool) : List Nat :=
  (List.range 64).filter fun n =>
    s.rbit (sendReg k n) Reg.CLU_RT_SEND.VALID && s.rf (sendReg k n) Reg.CLU_RT_SEND.CHID == chid
      && (s.rf (sendReg k n) Reg.CLU_RT_SEND.KIND == 2) == red

/-- A CRD reaches a send channel (R255). -/
def State.crdAtTap (s : State) (k : Nat) (p : Packet) : State :=
  (s.channelsOf k p.chid false).foldl (fun s n =>
    let b := Reg.CORE_MSG_SSB k n
    let (hp, hl) := p.crdHead
    let s := ((s.setRf (Reg.CORE_MSG_SSA k n) Reg.CORE_MSG_SSA.REL p.crdRel).setRf b Reg.CORE_MSG_SSB.FETCHED p.crdFetched).modMsg k fun m =>
      { m with hhead := Sparse.set (fun _ => (0, false)) m.hhead n (hp * 128, hl) }
    if s.rbit b Reg.CORE_MSG_SSB.SPILL && (hp * 128, hl) == s.chTail k n then s.setRf b Reg.CORE_MSG_SSB.SPILL 0 else s) s

/-- An RLS reaches a contributor (R263). -/
def State.rlsAtTap (s : State) (k : Nat) (p : Packet) : State :=
  (s.channelsOf k p.chid true).foldl (fun s n =>
    s.setRf (Reg.CORE_MSG_SSA k n) Reg.CORE_MSG_SSA.REL (ofBytes p.payload % 2 ^ 32)) s

/-- Complete rounds become ready in round order (R262). -/
def readyRounds (k q : Nat) : Nat → State → State
  | 0, s => s
  | n + 1, s =>
    let x := s.queue k q
    let rel := s.rf (Reg.CORE_MSG_QSA k q) Reg.CORE_MSG_QSA.REL
    let next := (rel + (x.rounds.filter (·.ready)).length) % 2 ^ 32
    match x.rounds.find? fun r => r.round == next && decide (s.rf (qbReg k q) Reg.CLU_RT_QB.EXPECT ≤ r.cnt) with
    | none => s
    | some _ =>
      let s := s.modQueue k q fun x => { x with rounds := x.rounds.map fun r => if r.round = next then { r with ready := true } else r }
      readyRounds k q n (s.becomeReady k q (next % s.qPlaces k q))

/-- A RED reaches its queue (R246, R260, R262). -/
def State.redAtTap (s : State) (k : Nat) (p : Packet) : State :=
  match s.queueOf k p.chid with
  | none => s.unbound k
  | some q =>
    let a := qaReg k q
    match Rop.ofCode p.rop with
    | none => s.unbound k
    | some r =>
      if !s.qReduces k q || s.rbit a Reg.CLU_RT_QA.MSZ || p.payload.length != 128 || s.rf a Reg.CLU_RT_QA.ROP != p.rop
          || s.qPlaces k q == 0 then s.unbound k
      else
        let rel := s.rf (Reg.CORE_MSG_QSA k q) Reg.CORE_MSG_QSA.REL
        let n := (rel + (p.round + 256 - rel % 256) % 256) % 2 ^ 32
        let off := s.qOffset k q (n % s.qPlaces k q)
        let expect := s.rf (qbReg k q) Reg.CLU_RT_QB.EXPECT
        match (s.queue k q).rounds.find? (·.round == n) with
        | none =>
          let s := (s.qramWrite k off p.payload).modQueue k q fun x => { x with rounds := x.rounds ++ [⟨n, p.cnt, p.flg, false⟩] }
          let s := if expect < p.cnt then
              (s.setRf (Reg.CORE_MSG_QSB k q) Reg.CORE_MSG_QSB.OVER 1).bump (Reg.CORE_MSG_ERR k) Reg.CORE_MSG_ERR.OVER 1 else s
          readyRounds k q 4 s
        | some y =>
          let ((v, f), s) := s.combineVec r (BitVec.ofNat 1024 (ofBytes (s.qramRead k off 128))) p.vec
          let cnt := y.cnt + p.cnt
          let s := (s.qramWrite k off (toBytes 128 v.toNat)).modQueue k q fun x => { x with
            rounds := x.rounds.map fun z => if z.round = n then { z with cnt := cnt, flg := z.flg ||| p.flg ||| flgOf f } else z }
          let s := if expect < cnt ∧ y.cnt ≤ expect then
              (s.setRf (Reg.CORE_MSG_QSB k q) Reg.CORE_MSG_QSB.OVER 1).bump (Reg.CORE_MSG_ERR k) Reg.CORE_MSG_ERR.OVER 1 else s
          readyRounds k q 4 s

/-- QUEUE_TABLE_WRITE: firmware writes CLU_RT_QA or CLU_RT_QB (R249). A queue that is disabled drops what it holds, and its sleepers
issue their receives again. -/
def State.queueTableWrite (s : State) (k q : Nat) (second : Bool) (v : W64) : State :=
  let a := qaReg k q
  if 480 ≤ k ∨ 32 ≤ q then s
  else if s.rbit a Reg.CLU_RT_QA.EN then
    (if second || tb v 0 then s
     else
       let s := (s.setRf a Reg.CLU_RT_QA.EN 0)
       let sl := (s.queue k q).sleepers
       let s := sl.foldl (fun s i => s.modStrand k i fun y => { y with run := .running }) s
       s.modQueue k q fun x => { cursor := x.cursor })
  else if second then s.setReg (qbReg k q) (v &&& 0x7FFFFFFFFFFFFFFF#64)
  else s.setReg a (v &&& 0x3FFFFFFFFFFFFFFF#64)

/-- SENDV (R251). -/
def execSendv (w : Who) (o : OpG) (s : State) : Out := .next (issue w {} (sendBody 0 o) s)
/-- SENDF (R251). -/
def execSendf (w : Who) (o : OpG) (s : State) : Out := .next (issue w {} (sendBody 1 o) s)
/-- SENDF.G (R251). -/
def execSendfG (w : Who) (o : OpG) (s : State) : Out := .next (issue w {} (sendBody 2 o) s)
/-- SEND_ACCEPT (R255). -/
def execSendAccept (w : Who) (s : State) : Out := .next (s.retrySend w)
/-- SEND_STALLED (R259): the slot of the command is at or after the end of the timeout. -/
def execSendStalled (w : Who) (s : State) : Out :=
  match (s.strand w.core w.strand).send with
  | none => .next s
  | some r => .next (s.retrySend { w with cycle := max w.cycle (r.first + s.sendTimeout w.core) })
/-- RECVV (R252). -/
def execRecvv (w : Who) (o : OpG) (s : State) : Out := .next (issue w {} (recvvBody o) s)
/-- RECVF (R252). -/
def execRecvf (w : Who) (o : OpG) (s : State) : Out := .next (issue w { writes := [o.r] } (recvfBody o) s)
/-- QREL (R252). -/
def execQrel (w : Who) (o : OpG) (s : State) : Out := .next (issue w {} (qrelBody o) s)
/-- QPOLL (R252). -/
def execQpoll (w : Who) (o : OpG) (s : State) : Out := .next (issue w { writes := [o.r] } (qpollBody o) s)
/-- HAMPER_FETCH (R258). -/
def execHamperFetch (core q : Nat) (s : State) : Out := .next (s.hamperFetch core q)
/-- QUEUE_TABLE_WRITE (R249). -/
def execQueueTableWrite (core q : Nat) (second : Bool) (v : W64) (s : State) : Out := .next (s.queueTableWrite core q second v)

end Sys2Proof.Machine
end

