-- ==== Sys2Proof/Machine/Trail.lean ====
section
/-! DEFINITION. Trail ports: states, training, flits, routes, windows, apertures and channels across devices (R331 to R373). -/

namespace Sys2Proof.Machine

/-! ### Packets and their form (R339, R340, R350, R351) -/

def TKind.code : TKind → Nat
  | .wr => 0 | .rd => 1 | .sig => 2 | .msg => 3 | .rdr => 8 | .wack => 9 | .nak => 0xA | .crd => 0xB | .rls => 0xC | .red => 0xD
  | .tok => 0xF

def TKind.ofCode (n : Nat) : Option TKind :=
  match n with
  | 0 => some .wr | 1 => some .rd | 2 => some .sig | 3 => some .msg | 8 => some .rdr | 9 => some .wack | 0xA => some .nak
  | 0xB => some .crd | 0xC => some .rls | 0xD => some .red | 0xF => some .tok | _ => none

/-- The class of a kind (Table 11-5). -/
def TKind.cls : TKind → Nat
  | .wr | .rd | .sig | .msg => 0
  | .rdr | .wack | .nak | .crd | .rls => 1
  | .red => 2
  | .tok => 3

/-- Requests, which are answered (Table 11-5). -/
def TKind.request : TKind → Bool
  | .wr | .rd | .sig => true
  | _ => false

/-- LEN codes (Table 8-4). -/
def lenCode (n : Nat) : Nat :=
  match n with
  | 0 => 0 | 8 => 1 | 16 => 2 | 64 => 3 | 128 => 4 | 512 => 5 | 2048 => 6
  | _ => (Config.lenCode n).toNat
def lenOfCode (c : Nat) : Option Nat :=
  match c with
  | 0 => some 0 | 1 => some 8 | 2 => some 16 | 3 => some 64 | 4 => some 128 | 5 => some 512 | 6 => some 2048 | _ => none

/-- Slots of a packet (R340). -/
def TPkt.slots (t : TPkt) : Nat := 1 + (t.payload.length + 15) / 16

/-- The header (Table 11-4). -/
def TPkt.header (t : TPkt) : Nat :=
  let base := t.kind.code + 2 ^ 4 * lenCode (if t.kind = .rd then t.size else t.payload.length) + 2 ^ 8 * (t.ddev % 2 ^ 16)
    + 2 ^ 24 * (t.sdev % 2 ^ 16) + 2 ^ 40 * (t.hops % 256) + 2 ^ 48 * (t.sep % 4096)
  let win := 2 ^ 64 * (t.win % 256) + 2 ^ 72 * (t.epoch % 256)
  base + (match t.kind with
    | .wr | .rd => win + 2 ^ 80 * (t.tag % 1024) + 2 ^ 90 * (t.off % 2 ^ 38)
    | .sig | .tok => win + 2 ^ 80 * (t.idx % 2 ^ 16) + 2 ^ 96 * (t.gwin % 256) + 2 ^ 104 * (t.gepoch % 256) + 2 ^ 112 * bit t.gv
        + (if t.kind = .sig then 2 ^ 113 * (t.tag % 1024) else 0)
    | .rdr | .wack => 2 ^ 80 * (t.tag % 1024)
    | .nak => 2 ^ 80 * (t.tag % 1024) + 2 ^ 90 * (t.code % 256)
    | .msg | .crd | .rls => 2 ^ 64 * (t.chid % 2 ^ 16)
    | .red => 2 ^ 64 * (t.chid % 2 ^ 16) + 2 ^ 80 * (t.round % 256) + 2 ^ 88 * (t.cnt % 2 ^ 16) + 2 ^ 104 * (t.rop % 16)
        + 2 ^ 108 * (t.flg % 8))

/-- A packet as slots of bytes (R340). -/
def TPkt.encode (t : TPkt) : List Byte := toBytes 16 t.header ++ t.payload ++ List.replicate ((t.slots - 1) * 16 - t.payload.length) 0#8

/-- What a header and its LEN say: none for a kind or a LEN that R351 discards. The payload is set later. -/
def TPkt.decode (h : Nat) : Option TPkt :=
  let f (hi lo : Nat) : Nat := h / 2 ^ lo % 2 ^ (hi + 1 - lo)
  match TKind.ofCode (f 3 0), lenOfCode (f 6 4) with
  | some k, some n =>
    let chan : Bool := match k with
      | .msg | .crd | .rls | .red => true
      | _ => false
    let ctr : Bool := match k with
      | .sig | .tok => true
      | _ => false
    some { kind := k, size := n, ddev := f 23 8, sdev := f 39 24, hops := f 47 40, sep := f 59 48,
           win := if chan then 0 else f 71 64, epoch := if chan then 0 else f 79 72,
           tag := if k = .sig then f 122 113 else f 89 80, off := f 127 90, idx := f 95 80, gwin := f 103 96, gepoch := f 111 104,
           gv := ctr && f 112 112 == 1, code := f 97 90, chid := f 79 64, round := f 87 80, cnt := f 103 88, rop := f 107 104,
           flg := f 110 108 }
  | _, _ => none

/-- The slots that a header announces. -/
def slotsOf (h : Nat) : Nat :=
  match TPkt.decode h with
  | none => 1
  | some t => if t.kind = .rd then 1 else 1 + (t.size + 15) / 16

/-! ### Ports (R335 to R338) -/

def State.port (s : State) (p : Nat) : TrailPort := Sparse.get (fun _ => {}) s.trail p
def State.modPort (s : State) (p : Nat) (f : TrailPort → TrailPort) : State :=
  { s with trail := Sparse.set (fun _ => {}) s.trail p (f (s.port p)) }
def State.portState (s : State) (p : Nat) : PowerState := PowerState.ofCode (s.rf (Reg.TRL_STAT p) Reg.TRL_STAT.STATE)
def State.setPortState (s : State) (p : Nat) (x : PowerState) : State := s.setRf (Reg.TRL_STAT p) Reg.TRL_STAT.STATE x.code
/-- LINK: 0 DOWN, 1 TRAINING, 2 UP. -/
def State.link (s : State) (p : Nat) : Nat := s.rf (Reg.TRL_STAT p) Reg.TRL_STAT.LINK
/-- A change of LINK sends the event LINK (Table 12-8). -/
def State.setLink (s : State) (p l : Nat) : State :=
  if s.link p = l then s
  else
    let s := s.setRf (Reg.TRL_STAT p) Reg.TRL_STAT.LINK l
    s.event .operators 0x20 0xF
      (toBytesBE 1 p ++ toBytesBE 1 l ++ toBytesBE 1 (s.rf (Reg.TRL_STAT p) Reg.TRL_STAT.WIDTH) ++ toBytesBE 1 0)

/-- A port that takes packets for its link (R337, R338, R348). -/
def State.portUp (s : State) (p : Nat) : Bool := decide (p < 18) && s.portState p == .on && s.link p == 2 && !(s.port p).retrain
/-- A port whose link carries flits: UP, On or Stopping, not retraining. -/
def State.portFlits (s : State) (p : Nat) : Bool :=
  decide (p < 18) && (s.portState p == .on || s.portState p == .stopping) && s.link p == 2 && !(s.port p).retrain

def State.devId (s : State) : Nat := s.rf Reg.TRL_DEVID Reg.TRL_DEVID.DEVID
def State.dropTrail (s : State) (p : Nat) : State := s.bump (Reg.TRL_REFUSE p) Reg.TRL_REFUSE.DROPS 1

/-! ### The spoil list (R361) -/

def State.settleSpoils (s : State) (p : Nat) : State :=
  let n := (s.port p).spoil.length
  (s.setRf (Reg.TRL_SPOILS p) Reg.TRL_SPOILS.COUNT n).setRf (Reg.TRL_SPOILS p) Reg.TRL_SPOILS.FULL (bit (decide (256 ≤ n)))

/-- A WR is answered NAK 0x05 by a port, or lost with its link. -/
def State.spoilWrite (s : State) (p : Nat) (t : TPkt) : State :=
  if t.kind ≠ .wr then s
  else
    let old := (s.port p).spoil
    let new := if old.contains (t.ddev, t.win, t.epoch) || decide (256 ≤ old.length) then old else old ++ [(t.ddev, t.win, t.epoch)]
    (s.modPort p fun x => { x with spoil := new }).settleSpoils p

/-- Whether a port refuses a guarded SIG. -/
def State.spoiled (s : State) (p : Nat) (t : TPkt) : Bool :=
  t.kind == .sig && t.gv && (decide (256 ≤ (s.port p).spoil.length) || (s.port p).spoil.contains (t.ddev, t.gwin, t.gepoch))

/-- A later epoch by serial comparison modulo 256. -/
def laterEpoch (a b : Nat) : Bool := decide (0 < (a + 256 - b) % 256) && decide ((a + 256 - b) % 256 < 128)

/-- A WR that is sent or forwarded removes the entries of earlier epochs of its window. -/
def State.unspoil (s : State) (p : Nat) (t : TPkt) : State :=
  if t.kind ≠ .wr then s
  else
    let new := (s.port p).spoil.filter fun e => !(e.1 == t.ddev && e.2.1 == t.win && laterEpoch t.epoch e.2.2)
    (s.modPort p fun x => { x with spoil := new }).settleSpoils p

/-! ### Sending over a link (R343, R345, R348, R353, R373) -/

/-- A RED as a mesh packet for combining. -/
def TPkt.asRed (t : TPkt) : Packet :=
  { kind := .red, part := 0, dst := 0, src := 0, flg := BitVec.ofNat 3 t.flg, chid := t.chid, round := t.round, cnt := t.cnt, rop := t.rop,
    payload := t.payload }

/-- A packet becomes ready at its port; a RED is combined into one that waits there (R373). -/
def State.enqueue (s : State) (p : Nat) (t : TPkt) : State :=
  match (s.port p).tx.findIdx? fun q => t.kind == .red && q.kind == .red && q.ddev == t.ddev && q.chid == t.chid && q.round == t.round
      && q.rop == t.rop with
  | none => s.modPort p fun x => { x with tx := x.tx ++ [t] }
  | some j => match (s.port p).tx[j]? with
    | none => s
    | some q =>
      let (r, s) := s.redCombine q.asRed t.asRed
      s.modPort p fun x => { x with tx := x.tx.set j { q with cnt := r.cnt, flg := r.flg.toNat, payload := r.payload } }

/-- An answer of this device leaves by the route to its destination, or is discarded (R348). -/
def State.respond (s : State) (p : Nat) (t : TPkt) (kind : TKind) (code : Nat) (payload : List Byte) : State :=
  let a : TPkt := { kind := kind, size := payload.length, ddev := t.sdev, sdev := s.devId, hops := s.rf Reg.TRL_CTL Reg.TRL_CTL.HOPS,
                    sep := t.sep, tag := t.tag, code := code, payload := payload }
  match s.routePort t.sdev with
  | none => s.dropTrail p
  | some q => if s.portUp q then s.enqueue q a else s.dropTrail q

/-- The requester on this device is answered (R353, R365). -/
def State.answerRequest (s : State) (p : Nat) (r : TReq) (kind : PKind) (code : Nat) (payload : List Byte) : State :=
  let s := if kind = .err then s.bump (Reg.TRL_APTD r.apt) Reg.TRL_APTD.NAKS 1 else s
  s.inject { (r.p.answer kind payload code) with src := epTrail p }

/-- A request of this device is refused (R353): NAK 0x04 becomes ERR 0x04, any other ERR 0x02. -/
def State.nakRequest (s : State) (p : Nat) (r : TReq) (code : Nat) : State :=
  (s.bump (Reg.TRL_REFUSE p) Reg.TRL_REFUSE.NAKS 1).answerRequest p r .err (if code = 4 then 4 else 2) []

/-- A packet is not sent or forwarded by a port (R337, R338, R348): its own request is refused with NAK 0x05 (0x06 for a spoiled SIG), a
request of another device is answered so, any other packet is discarded. -/
def State.refuseTrail (s : State) (p : Nat) (t : TPkt) (own : Option TReq) (code : Nat) : State :=
  let s := if code = 6 then s.bump (Reg.TRL_SPOILS p) Reg.TRL_SPOILS.REFUSED 1 else s.spoilWrite p t
  match own with
  | some r => s.nakRequest p r code
  | none => if t.kind.request then s.respond p t .nak code [] else s.dropTrail p

/-- A packet leaves by a port, if the port takes it (R348, R361). -/
def State.sendTrail (s : State) (p : Nat) (t : TPkt) (own : Option TReq) : State :=
  if !s.portUp p then s.refuseTrail p t own 5
  else if s.spoiled p t then s.refuseTrail p t own 6
  else
    let s := s.unspoil p t
    let s := match own with
      | some r => if t.kind.request then s.modPort p fun x => { x with reqs := x.reqs ++ [r] } else s
      | none => s
    s.enqueue p t

/-! ### Apertures (R362 to R365) -/

/-- A mesh request reaches its port as an aperture request. The Bool says that the port takes it now: a request waits while no tag is
free (R345). -/
def State.apertureRequest (s : State) (p : Nat) (q : Packet) : Bool × State :=
  match s.aperture q.addr with
  | none => (true, s.inject { (q.answer .err [] 2) with src := epTrail p })
  | some a =>
    let f (x : Fld) : Nat := s.rf (Reg.TRL_APTA a) x
    let b (x : Fld) : Nat := s.rf (Reg.TRL_APTB a) x
    let c (x : Fld) : Nat := s.rf (Reg.TRL_APTC a) x
    let o := q.addr - f Reg.TRL_APTA.BASE * 65536
    let tags := (s.port p).reqs.map (·.tag)
    let base : TPkt := { kind := .wr, ddev := b Reg.TRL_APTB.DDEV, sdev := s.devId, hops := s.rf Reg.TRL_CTL Reg.TRL_CTL.HOPS,
                         sep := q.src, win := b Reg.TRL_APTB.WIN, epoch := b Reg.TRL_APTB.EPOCH }
    let send (t : TPkt) : Bool × State :=
      match (List.range 1024).find? fun n => !tags.contains n with
      | none => (false, s)
      | some n =>
        let t := { t with tag := n }
        (true, s.sendTrail p t (some ⟨n, t, q, a⟩))
    let refuse : Bool × State := (true, s.answerRequest p ⟨0, base, q, a⟩ .err 2 [])
    if f Reg.TRL_APTA.KIND = 0 then
      let off := c Reg.TRL_APTC.WOFF * 65536 + o
      match q.kind with
      | .wr => send { base with off := off, size := q.payload.length, payload := q.payload }
      | .rd => send { base with kind := .rd, off := off, size := q.size }
      | _ => refuse
    else if q.kind = .wr ∧ q.payload.length = 8 ∧ q.addr % 8 = 0 then
      let idx := c Reg.TRL_APTC.WOFF + o / 8
      if f Reg.TRL_APTA.ROLL = 1 then
        let t : TPkt := { base with kind := .tok, idx := idx, answers := some (q, a) }
        (true, s.sendTrail p t (some ⟨0, t, q, a⟩))
      else send { base with kind := .sig, idx := idx, size := 8, payload := toBytes 8 (ofBytes (q.payload.take 4)), gv := f Reg.TRL_APTA.GV == 1,
                            gwin := c Reg.TRL_APTC.GWIN, gepoch := c Reg.TRL_APTC.GEPOCH }
    else refuse

/-! ### Channels (R369 to R371) -/

/-- A MSG or RED of this device leaves by its egress entry (R369). -/
def State.egress (s : State) (p : Nat) (q : Packet) : State :=
  match (List.range 256).find? fun e =>
      s.rbit (Reg.TRL_CHOA e) Reg.TRL_CHOA.V && s.rf (Reg.TRL_CHOA e) Reg.TRL_CHOA.PART == q.part
        && s.rf (Reg.TRL_CHOA e) Reg.TRL_CHOA.CHID == q.chid with
  | none => s.dropTrail p
  | some e =>
    s.sendTrail p { kind := if q.kind = .red then .red else .msg, size := q.payload.length, ddev := s.rf (Reg.TRL_CHOA e) Reg.TRL_CHOA.DDEV,
                    sdev := s.devId, hops := s.rf Reg.TRL_CTL Reg.TRL_CTL.HOPS, sep := q.src, chid := s.rf (Reg.TRL_CHOA e) Reg.TRL_CHOA.RCHID,
                    round := q.round, cnt := q.cnt, rop := q.rop, flg := q.flg.toNat, payload := q.payload } none

/-- A CRD or RLS of a queue goes to the devices whose senders feed it (R371). -/
def State.creditOut (s : State) (p : Nat) (q : Packet) : State :=
  let devs := ((List.range 256).filter fun i =>
    s.rbit (Reg.TRL_CHIA i) Reg.TRL_CHIA.V && s.rf (Reg.TRL_CHIA i) Reg.TRL_CHIA.CHID == q.chid
      && s.rf (Reg.TRL_CHIA i) Reg.TRL_CHIA.PART == q.part).map fun i => s.rf (Reg.TRL_CHIA i) Reg.TRL_CHIA.SDEV
  devs.eraseDups.foldl (fun s d =>
    s.sendTrail p { kind := if q.kind = .crd then .crd else .rls, size := q.payload.length, ddev := d, sdev := s.devId,
                    hops := s.rf Reg.TRL_CTL Reg.TRL_CTL.HOPS, sep := q.src, chid := q.chid, payload := q.payload } none) s

/-- A packet along a multicast tree enters at the hub of a cluster from its I/O link (R370). -/
def State.multicastIn (s : State) (u : Nat) (q : Packet) : State := s.enterNode (.hub u) (.io (u % 4)) { q with mc := true }

/-- A MSG or RED from a link enters the mesh by its ingress entry (R370). -/
def State.ingress (s : State) (p : Nat) (t : TPkt) : State :=
  match (List.range 256).find? fun i =>
      s.rbit (Reg.TRL_CHIA i) Reg.TRL_CHIA.V && s.rf (Reg.TRL_CHIA i) Reg.TRL_CHIA.CHID == t.chid
        && s.rf (Reg.TRL_CHIA i) Reg.TRL_CHIA.SDEV == t.sdev with
  | none => s.dropTrail p
  | some i =>
    let f (x : Fld) : Nat := s.rf (Reg.TRL_CHIA i) x
    let q : Packet := { kind := if t.kind = .red then .red else .msg, part := f Reg.TRL_CHIA.PART, dst := f Reg.TRL_CHIA.DST, src := epTrail p,
                        chid := t.chid, round := t.round, cnt := t.cnt, rop := t.rop, flg := BitVec.ofNat 3 t.flg, payload := t.payload }
    let s := s.bump (Reg.TRL_CHIB i) Reg.TRL_CHIB.DELIVERED 1
    if f Reg.TRL_CHIA.GV = 1 then s.multicastIn (f Reg.TRL_CHIA.DST / 256) { q with group := f Reg.TRL_CHIA.GROUP } else s.inject q

/-- A CRD or RLS from a link reaches the senders by its egress entry (R371). -/
def State.creditIn (s : State) (p : Nat) (t : TPkt) : State :=
  match (List.range 256).find? fun e =>
      s.rbit (Reg.TRL_CHOA e) Reg.TRL_CHOA.V && s.rf (Reg.TRL_CHOA e) Reg.TRL_CHOA.DDEV == t.sdev
        && s.rf (Reg.TRL_CHOA e) Reg.TRL_CHOA.RCHID == t.chid with
  | none => s.dropTrail p
  | some e =>
    let sep := s.rf (Reg.TRL_CHOB e) Reg.TRL_CHOB.SEP
    let q : Packet := { kind := if t.kind = .crd then .crd else .rls, part := s.rf (Reg.TRL_CHOA e) Reg.TRL_CHOA.PART, dst := sep, src := epTrail p,
                        chid := s.rf (Reg.TRL_CHOA e) Reg.TRL_CHOA.CHID, payload := t.payload }
    if t.kind = .rls ∧ s.rbit (Reg.TRL_CHOB e) Reg.TRL_CHOB.GV then
      s.multicastIn (sep / 256) { q with group := s.rf (Reg.TRL_CHOB e) Reg.TRL_CHOB.GROUP }
    else s.inject q

/-! ### Windows (R354 to R360) -/

/-- The checks of a window in the order of R357; none when the packet is admitted. -/
def State.windowRefuses (s : State) (t : TPkt) : Option Nat :=
  let a (x : Fld) : Nat := s.rf (Reg.TRL_WINA t.win) x
  let size := s.rf (Reg.TRL_WINC t.win) Reg.TRL_WINC.SIZE
  let mask := BitVec.ofNat 16 (s.rf (Reg.TRL_WINC t.win) Reg.TRL_WINC.SRCMASK)
  let okKind : Bool := match t.kind with
    | .wr => a Reg.TRL_WINA.KIND == 0 && a Reg.TRL_WINA.WR == 1
    | .rd => a Reg.TRL_WINA.KIND == 0 && a Reg.TRL_WINA.RD == 1
    | .sig => a Reg.TRL_WINA.KIND == 1 && a Reg.TRL_WINA.SIGOK == 1
    | _ => a Reg.TRL_WINA.KIND == 1 && a Reg.TRL_WINA.TOKOK == 1
  let memory : Bool := match t.kind with
    | .wr | .rd => true
    | _ => false
  if a Reg.TRL_WINA.OPEN = 0 ∨ a Reg.TRL_WINA.EPOCH ≠ t.epoch then some 1
  else if BitVec.ofNat 16 t.sdev &&& mask ≠ BitVec.ofNat 16 (s.rf (Reg.TRL_WINC t.win) Reg.TRL_WINC.SRCDEV) &&& mask then some 2
  else if !okKind then some 2
  else if memory && decide (size * 65536 < t.off + t.size) then some 2
  else if !memory && decide (size ≤ t.idx) then some 2
  else if t.kind = .sig ∧ t.gv ∧ (s.rf (Reg.TRL_WINA t.gwin) Reg.TRL_WINA.OPEN = 0
      ∨ s.rf (Reg.TRL_WINA t.gwin) Reg.TRL_WINA.EPOCH ≠ t.gepoch ∨ s.rf (Reg.TRL_WINA t.gwin) Reg.TRL_WINA.SPOIL = 1) then some 6
  else none

/-- A write refused at its window, or after it, spoils it (R360). -/
def State.spoilWindow (s : State) (t : TPkt) (code : Nat) : State :=
  if t.kind = .wr ∧ code ≠ 1 then s.setRf (Reg.TRL_WINA t.win) Reg.TRL_WINA.SPOIL 1 else s

/-- The counter that a remote signal or token names (R359). -/
def State.windowCounter (s : State) (t : TPkt) : Option CounterId := counterOfNum (s.rf (Reg.TRL_WINB t.win) Reg.TRL_WINB.BASE % 2 ^ 14 + t.idx)

/-- A mesh packet for a counter, from a trail port (R359); none when no hub serves the counter. -/
def State.counterPacket (s : State) (p : Nat) (t : TPkt) (kind : PKind) (tag : Nat) (payload : List Byte) : Option Packet :=
  match s.windowCounter t with
  | none => none
  | some c => match s.counterHub c with
    | none => none
    | some u => some { kind := kind, part := s.rf (Reg.TRL_WINA t.win) Reg.TRL_WINA.PART, dst := epHub u, src := epTrail p, tag := tag, addr := c.addr,
                       payload := payload }

/-- An admitted RD enters the mesh, an admitted SIG becomes a mesh SIG (R358, R359). -/
def State.remoteEffect (s : State) (p : Nat) (t : TPkt) : State :=
  let (tag, s) := s.newTag
  let pa := s.rf (Reg.TRL_WINB t.win) Reg.TRL_WINB.BASE + t.off
  match t.kind with
  | .sig => match s.counterPacket p t .sig tag (toBytes 8 (2 ^ 32 * (ofBytes (t.payload.take 4)))) with
    | none => s.respond p t .nak 3 []
    | some q => ((s.modPort p fun x => { x with sigs := x.sigs ++ [⟨tag, t⟩] }).inject q).respond p t .wack 0 []
  | k =>
    (s.modPort p fun x => { x with serve := x.serve ++ [⟨tag, t⟩] }).inject
      { kind := if k = .wr then .wr else .rd, part := s.rf (Reg.TRL_WINA t.win) Reg.TRL_WINA.PART, dst := s.serverOf (epTrail p) pa,
        src := epTrail p, tag := tag, addr := pa, size := t.size, payload := t.payload }

/-- WR, RD, SIG or TOK at its window (R357 to R359, R367). -/
def State.remoteRequest (s : State) (p : Nat) (t : TPkt) : State :=
  match s.windowRefuses t with
  | some code =>
    let s := (s.bump (Reg.TRL_WIND t.win) Reg.TRL_WIND.REFUSED 1).spoilWindow t code
    if t.kind.request then s.respond p t .nak code [] else s
  | none =>
    match t.kind with
    | .wr => s.remoteEffect p t
    | .tok => match s.counterPacket p t .tok 0 [] with
      | some q => s.inject q
      | none => s
    | _ =>
      let writes := ((s.port p).serve.filter fun x => x.t.kind == .wr).map (·.tag)
      if writes.isEmpty && (s.port p).held.isEmpty then s.remoteEffect p t
      else
        let (id, s) := s.newTag
        s.modPort p fun x => { x with held := x.held ++ [⟨id, writes, t⟩] }

/-- Held requests whose writes have all been answered take effect, in order (R367). -/
def releaseHeld (p : Nat) : Nat → State → State
  | 0, s => s
  | n + 1, s => match (s.port p).held with
    | x :: l => if x.after.isEmpty then releaseHeld p n ((s.modPort p fun y => { y with held := l }).remoteEffect p x.t) else s
    | [] => s

/-- WINDOW_CLOSE is answered once what its window had admitted has committed or been refused (R356). -/
def State.settleWindows (s : State) : State :=
  let open_ (x : Nat × Nat) : Bool :=
    (s.port x.1).serve.any (·.tag == x.2) || (s.port x.1).held.any (·.id == x.2)
  let done (k : KPending) : Bool := match k.what with
    | .window tags => !tags.any open_
    | _ => false
  (s.host.pending.filter done).foldl (fun s k => s.endPending k 0 0 []) s

/-- The mesh answers a remote request (R358, R359). -/
def State.trailAnswer (s : State) (p : Nat) (q : Packet) : State :=
  match (s.port p).serve.find? (·.tag == q.tag) with
  | some x =>
    let s := s.modPort p fun y => { y with
      serve := y.serve.filter (·.tag != q.tag), held := y.held.map fun h => { h with after := h.after.filter (· != q.tag) } }
    let s := match q.kind with
      | .wrr => s.respond p x.t .wack 0 []
      | .rdr => s.respond p x.t .rdr 0 q.payload
      | _ =>
        let code := if q.code = 4 then 4 else 3
        (s.spoilWindow x.t code).respond p x.t .nak code []
    (releaseHeld p (s.port p).held.length s).settleWindows
  | none => match (s.port p).sigs.find? (·.tag == q.tag) with
    | some x =>
      if q.kind = .err then (s.modPort p fun y => { y with sigs := y.sigs.filter (·.tag != q.tag) }).respond p x.t .nak 3 [] else s
    | none => s

/-! ### Packets from a link -/

/-- A packet for another device (R347, R348). -/
def State.forward (s : State) (p : Nat) (t : TPkt) : State :=
  match s.routePort t.ddev with
  | none => s.refuseTrail p t none 5
  | some q => if t.hops ≤ 1 then s.refuseTrail q t none 5 else s.sendTrail q { t with hops := t.hops - 1 } none

/-- The request that an answer names, at the port on which it arrived or at another. -/
def State.requestOf (s : State) (p : Nat) (t : TPkt) : Option (Nat × TReq) :=
  (p :: List.range 18).findSome? fun q =>
    ((s.port q).reqs.find? fun r => r.tag == t.tag && r.p.src == t.sep).map fun r => (q, r)

/-- An answer reaches the port that sent its request (R353). -/
def State.remoteAnswer (s : State) (p : Nat) (t : TPkt) : State :=
  match s.requestOf p t with
  | none => s
  | some (q, r) =>
    let s := s.modPort q fun x => { x with reqs := x.reqs.filter (· != r) }
    match t.kind with
    | .wack => s.answerRequest q r .wrr 0 []
    | .rdr => s.answerRequest q r .rdr 0 t.payload
    | _ => s.nakRequest q r t.code

/-- The first packet of a kind's class, when it is of that kind, leaves the receive buffer of a port (R343): it is forwarded, or f
serves it. -/
def State.takeTrail (s : State) (p : Nat) (k : TKind) (f : TPkt → State → State) : State :=
  match (s.port p).rx.findIdx? fun t => t.kind.cls == k.cls with
  | none => s
  | some j => match (s.port p).rx[j]? with
    | none => s
    | some t =>
      if t.kind ≠ k then s
      else
        let s := s.modPort p fun x => { x with
          rx := x.rx.eraseIdx j, freed := vset x.freed k.cls (vget x.freed k.cls + t.slots) }
        if t.ddev = s.devId then f t s else s.forward p t

/-! ### Flits (R339 to R344) -/

/-- CRC-32C of a flit's bytes but its CRC field (R339). -/
def flitCrc (b : List Byte) : Nat := (crcBytes 0x82F63B78 0xFFFFFFFF (b.take 12 ++ b.drop 16)).xor 0xFFFFFFFF

/-- A flit's header without its CRC (Table 11-2). -/
def flitHead (ftype cls slots seq ack : Nat) (cr : Vector Nat 4) : Nat :=
  ftype + 2 ^ 4 * cls + 2 ^ 6 * slots + 2 ^ 16 * seq + 2 ^ 32 * ack
    + 2 ^ 48 * min 255 (vget cr 0) + 2 ^ 56 * min 255 (vget cr 1) + 2 ^ 64 * min 255 (vget cr 2) + 2 ^ 72 * min 255 (vget cr 3)

/-- A flit with its CRC. -/
def flitBytes (head : Nat) (slots : List Byte) : List Byte :=
  let b := toBytes 16 head ++ slots ++ List.replicate (240 - slots.length) 0#8
  b.take 12 ++ toBytes 4 (flitCrc b) ++ b.drop 16

/-- A flit leaves with the port's ACK and credit returns. -/
def State.emitFlit (s : State) (p ftype cls slots seq : Nat) (body : List Byte) : State :=
  let x := s.port p
  let f := flitBytes (flitHead ftype cls slots seq x.lastRx x.freed) body
  let s := s.modPort p fun x => { x with sent := f, freed := x.freed.map (· - 255) }
  if ftype = 1 then s.bump (Reg.TRL_FLITS p) Reg.TRL_FLITS.DATA 1 else s

/-- What stays of a packet of a class that is partly sent. -/
def TrailPort.rest (x : TrailPort) (cls : Nat) : List Byte := ((x.partly.find? (·.1 == cls)).map (·.2)).getD []

/-- The first packet of a class that waits and is covered by credits (R343). -/
def TrailPort.ready (x : TrailPort) (cls : Nat) : Option (Nat × TPkt) :=
  match x.tx.findIdx? fun t => t.kind.cls == cls with
  | none => none
  | some j => match x.tx[j]? with
    | some t => if t.slots ≤ vget x.credit cls then some (j, t) else none
    | none => none

/-- Slots of a class gathered for one flit (R340): at most 240 bytes. -/
def gather (p cls : Nat) (start : Bool) : Nat → List Byte → State → List Byte × State
  | 0, b, s => (b, s)
  | n + 1, b, s =>
    let x := s.port p
    let room := 240 - b.length
    let rest := x.rest cls
    let keep (l : List Byte) (s : State) : State := s.modPort p fun x => { x with
      partly := (x.partly.filter (·.1 != cls)) ++ (if l.isEmpty then [] else [(cls, l)]) }
    if room = 0 then (b, s)
    else if !rest.isEmpty then gather p cls start n (b ++ rest.take room) (keep (rest.drop room) s)
    else if !start then (b, s)
    else match x.ready cls with
    | none => (b, s)
    | some (j, t) =>
      let s := s.modPort p fun x => { x with
        tx := x.tx.eraseIdx j, credit := vset x.credit cls (vget x.credit cls - t.slots), partly := x.partly ++ [(cls, t.encode)] }
      let s := match t.answers with
        | some (q, a) => s.answerRequest p ⟨0, t, q, a⟩ .wrr 0 []
        | none => s
      gather p cls start n b s

/-- FLIT_SEND: the next flit of a port (R341, R344). -/
def State.flitSend (s : State) (p : Nat) : State :=
  if !s.portFlits p then s
  else
    let x := s.port p
    let start := s.portState p == .on
    let idle (s : State) : State := s.emitFlit p 0 0 0 0 []
    if x.owed then (s.modPort p fun x => { x with owed := false }).emitFlit p 2 0 0 0 []
    else match x.resend with
    | q :: l =>
      let s := s.modPort p fun x => { x with resend := l }
      (match x.replay.find? (·.1 == q) with
       | some (_, b) =>
         let h := ofBytes (b.take 2)
         s.emitFlit p 1 (h / 2 ^ 4 % 4) (h / 2 ^ 6 % 16) q (b.drop 16)
       | none => idle s)
    | [] =>
      if 512 ≤ x.replay.length then idle s
      else match [3, 1, 2, 0].find? fun c => !(x.rest c).isEmpty || (start && (x.ready c).isSome) with
      | none => idle s
      | some c =>
        let (b, s) := gather p c start 32 [] s
        let s := s.emitFlit p 1 c ((b.length + 15) / 16) x.seq b
        s.modPort p fun x => { x with seq := (x.seq + 1) % 65536, replay := x.replay ++ [(x.seq, x.sent)] }

/-- Serial order of sequence numbers (R341). -/
def seqLater (a b : Nat) : Bool := decide (0 < (a + 65536 - b) % 65536) && decide ((a + 65536 - b) % 65536 < 32768)

/-- Slots of a class received: packets are cut out of them and wait to be served (R340, R351). -/
def reassemble (p cls : Nat) : Nat → State → State
  | 0, s => s
  | n + 1, s =>
    let b := (((s.port p).asm.find? (·.1 == cls)).map (·.2)).getD []
    if b.length < 16 then s
    else
      let h := ofBytes (b.take 16)
      let len := 16 * slotsOf h
      if b.length < len then s
      else
        let s := s.modPort p fun x => { x with asm := x.asm.filter (·.1 != cls) ++ [(cls, b.drop len)] }
        reassemble p cls n (match TPkt.decode h with
          | none => (s.modPort p fun x => { x with freed := vset x.freed cls (vget x.freed cls + 1) }).dropTrail p
          | some t => s.modPort p fun x => { x with rx := x.rx ++ [{ t with payload := if t.kind = .rd then [] else (b.drop 16).take t.size }] })

/-- The link of a port goes DOWN (R337). -/
def State.linkDown (s : State) (p : Nat) : State :=
  if s.link p = 0 then s
  else
    let x := s.port p
    let lost := x.reqs
    let held := x.tx.filter fun t => !lost.any fun r => r.t == t
    let s := s.modPort p fun x => { x with
      replay := [], tx := [], partly := [], resend := [], reqs := [], asm := [], owed := false, gap := false, retries := 0, retrain := false }
    let s := (s.setRf (Reg.TRL_STAT p) Reg.TRL_STAT.WIDTH 3).setRf (Reg.TRL_STAT p) Reg.TRL_STAT.PEERV 0
    let s := s.setLink p 0
    let s := lost.foldl (fun s r => (s.spoilWrite p r.t).nakRequest p r 5) s
    held.foldl (fun s t => match t.answers with
      | some (q, a) => (s.dropTrail p).nakRequest p ⟨0, t, q, a⟩ 5
      | none => s.refuseTrail p t none 5) s

/-- Retraining begins (R334, R342). -/
def State.retrain (s : State) (p : Nat) : State :=
  (s.bump (Reg.TRL_ERR p) Reg.TRL_ERR.RETRAINS 1).modPort p fun x => { x with retrain := true, retries := 0 }

/-- ACK and credits of a valid flit (R341, R343). -/
def State.flitReturns (s : State) (p h : Nat) : State :=
  let ack := h / 2 ^ 32 % 65536
  s.modPort p fun x =>
    let left := x.replay.filter fun e => seqLater e.1 ack
    { x with
      replay := left, resend := x.resend.filter fun q => seqLater q ack, retries := if left.length < x.replay.length then 0 else x.retries,
      credit := Vector.ofFn fun i => vget x.credit i.val + h / 2 ^ (48 + 8 * i.val) % 256 }

/-- A flit arrives (R341, R342). -/
def State.flitIn (s : State) (p : Nat) (f : Flit) : State :=
  if !s.portFlits p then s
  else
    let h := ofBytes (f.bytes.take 16)
    let ftype := h % 16
    if f.bytes.length ≠ 256 ∨ h / 2 ^ 96 ≠ flitCrc f.bytes ∨ 3 < ftype then
      (s.bump (Reg.TRL_ERR p) Reg.TRL_ERR.CRCERR 1).modPort p fun x => { x with owed := true, gap := true }
    else
      let s := s.flitReturns p h
      match ftype with
      | 1 =>
        let seq := h / 2 ^ 16 % 65536
        let cls := h / 2 ^ 4 % 4
        if seq = ((s.port p).lastRx + 1) % 65536 then
          let b := (f.bytes.drop 16).take (16 * (h / 2 ^ 6 % 16))
          let s := s.modPort p fun x =>
            let old := ((x.asm.find? (·.1 == cls)).map (·.2)).getD []
            { x with lastRx := seq, gap := false, asm := x.asm.filter (·.1 != cls) ++ [(cls, old ++ b)] }
          reassemble p cls 16 s
        else s
      | 2 =>
        let s := (s.bump (Reg.TRL_ERR p) Reg.TRL_ERR.REPLAYS 1).modPort p fun x => { x with
          resend := x.replay.map (·.1), retries := x.retries + 1 }
        if 8 ≤ (s.port p).retries then s.retrain p else s
      | 3 => s.linkDown p
      | _ => s

/-! ### Widths and training (R334, R336) -/

/-- Width for the lanes that both ends have good, capped by MAXW: 0 x4, 1 x2, 2 x1, 3 none. -/
def widthFor (lanes : BitVec 4) (maxw : Nat) : Nat :=
  if maxw = 0 ∧ lanes = 0xF#4 then 0
  else if maxw ≤ 1 ∧ (lanes &&& 3#4 = 3#4 ∨ lanes &&& 12#4 = 12#4) then 1
  else if lanes ≠ 0#4 then 2
  else 3

/-- The lanes in use at a width. -/
def lanesUsed (lanes : BitVec 4) (width : Nat) : List Nat :=
  match width with
  | 0 => [0, 1, 2, 3]
  | 1 => if lanes &&& 3#4 = 3#4 then [0, 1] else [2, 3]
  | 2 => ((List.range 4).find? fun l => lanes.getLsbD l).toList
  | _ => []

def State.lanesOk (s : State) (p : Nat) : BitVec 4 := BitVec.ofNat 4 (s.rf (Reg.TRL_STAT p) Reg.TRL_STAT.LANES_OK)
def State.maxWidth (s : State) (p : Nat) : Nat := let m := s.rf (Reg.TRL_CFG p) Reg.TRL_CFG.MAXW; if m = 3 then 0 else m

/-- Receive buffers of the neighbour (Table 11-3). -/
def trailBuffers : Vector Nat 4 := #v[2048, 1024, 512, 64]

/-- TRAINING_DONE: both ends have locked on lanes, and the neighbour has given its device ID (R336). -/
def State.trainingDone (s : State) (p : Nat) (lanes : BitVec 4) (peer : BitVec 16) : State :=
  let w := widthFor lanes (s.maxWidth p)
  if 18 ≤ p ∨ s.portState p ≠ .on ∨ s.link p ≠ 1 ∨ w = 3 then s
  else
    let r := Reg.TRL_STAT p
    let s := (s.setRf r Reg.TRL_STAT.LANES_OK lanes.toNat).setRf r Reg.TRL_STAT.WIDTH w
    if !s.rbit Reg.TRL_DEVID Reg.TRL_DEVID.VALID then s
    else
      let s := (s.setRf r Reg.TRL_STAT.PEER peer.toNat).setRf r Reg.TRL_STAT.PEERV 1
      (s.modPort p fun x => { x with
        replay := [], resend := [], seq := 0, lastRx := 65535, gap := false, retries := 0, owed := false, asm := [], partly := [],
        credit := trailBuffers, freed := Vector.replicate 4 0 }).setLink p 2

/-- TRAINING_ATTEMPT (R336). -/
def State.trainingAttempt (s : State) (p : Nat) : State :=
  if p < 18 ∧ s.portState p = .on ∧ s.link p = 0 then s.setLink p 1 else s

/-- LANE_FAILURE (R334). -/
def State.laneFailure (s : State) (p lane : Nat) : State :=
  if 18 ≤ p ∨ 4 ≤ lane then s
  else
    let ok := s.lanesOk p
    let used := lanesUsed ok (s.rf (Reg.TRL_STAT p) Reg.TRL_STAT.WIDTH)
    let s := s.setRf (Reg.TRL_STAT p) Reg.TRL_STAT.LANES_OK (ok.toNat - ok.toNat / 2 ^ lane % 2 * 2 ^ lane)
    if s.link p = 2 ∧ used.contains lane ∧ !(s.port p).retrain then s.retrain p else s

/-- RETRAIN_DONE: the new width, or none (R334). -/
def State.retrainDone (s : State) (p : Nat) (peer : BitVec 4) : State :=
  if !(s.port p).retrain then s
  else
    let w := widthFor (s.lanesOk p &&& peer) (s.maxWidth p)
    if w = 3 then s.linkDown p
    else (s.setRf (Reg.TRL_STAT p) Reg.TRL_STAT.WIDTH w).modPort p fun x => { x with retrain := false, resend := x.replay.map (·.1) }

/-- A write of 1 to TRL_CFG.EN (R335). -/
def State.trailEnable (s : State) (p : Nat) : State :=
  if 18 ≤ p then s
  else
    let s1 := s.setRf (Reg.TRL_CFG p) Reg.TRL_CFG.EN 1
    match s.portState p with
    | .off => s1.setPortState p .starting
    | .stopping => s1.setRf (Reg.TRL_STAT p) Reg.TRL_STAT.PENDING_ON 1
    | .starting | .on => s1

/-- A write of 0 to TRL_CFG.EN (R338). -/
def State.trailDisable (s : State) (p : Nat) : State :=
  if 18 ≤ p then s
  else
    let s1 := s.setRf (Reg.TRL_CFG p) Reg.TRL_CFG.EN 0
    match s.portState p with
    | .on => s1.setPortState p .stopping
    | .starting => s1.modPort p fun x => { x with stop := true }
    | .stopping => s1.setRf (Reg.TRL_STAT p) Reg.TRL_STAT.PENDING_ON 0
    | .off => s1

/-- TRAIL_PORT_STARTED (R335). -/
def State.trailStarted (s : State) (p : Nat) : State :=
  if 18 ≤ p ∨ s.portState p ≠ .starting then s
  else
    let stop := (s.port p).stop
    (s.modPort p fun x => { x with stop := false }).setPortState p (if stop then .stopping else .on)

/-- TRAIL_PORT_STOPPED: what is not answered is refused, one end-of-link flit leaves, and the port is Off (R338) or goes on to Starting
(R286). -/
def State.trailStopped (s : State) (p : Nat) : State :=
  if 18 ≤ p ∨ s.portState p ≠ .stopping then s
  else
    let s := if s.link p = 2 then s.emitFlit p 3 0 0 0 [] else s
    let s := s.linkDown p
    if s.rbit (Reg.TRL_STAT p) Reg.TRL_STAT.PENDING_ON then
      (s.setRf (Reg.TRL_STAT p) Reg.TRL_STAT.PENDING_ON 0).setPortState p .starting
    else s.setPortState p .off

/-- TRAIL_PORT_ENABLE (R335). -/
def execTrailPortEnable (p : Nat) (s : State) : Out := .next (s.trailEnable p)
/-- TRAIL_PORT_DISABLE (R338). -/
def execTrailPortDisable (p : Nat) (s : State) : Out := .next (s.trailDisable p)
/-- TRAIL_PORT_STARTED (R335). -/
def execTrailPortStarted (p : Nat) (s : State) : Out := .next (s.trailStarted p)
/-- TRAIL_PORT_STOPPED (R338). -/
def execTrailPortStopped (p : Nat) (s : State) : Out := .next (s.trailStopped p)
/-- TRAINING_ATTEMPT (R336). -/
def execTrainingAttempt (p : Nat) (s : State) : Out := .next (s.trainingAttempt p)
/-- TRAINING_DONE (R336). -/
def execTrainingDone (p : Nat) (lanes : BitVec 4) (peer : BitVec 16) (s : State) : Out := .next (s.trainingDone p lanes peer)
/-- LINK_DOWN (R337). -/
def execLinkDown (p : Nat) (s : State) : Out := .next (if p < 18 then s.linkDown p else s)
/-- LINK_SILENCE (R337): an UP link that has been silent for 1 µs. -/
def execLinkSilence (p : Nat) (s : State) : Out := .next (if s.portFlits p then s.linkDown p else s)
/-- LANE_FAILURE (R334). -/
def execLaneFailure (p lane : Nat) (s : State) : Out := .next (s.laneFailure p lane)
/-- RETRAIN_DONE (R334). -/
def execRetrainDone (p : Nat) (peerLanes : BitVec 4) (s : State) : Out := .next (s.retrainDone p peerLanes)
/-- FLIT_SEND (R344). -/
def execFlitSend (p : Nat) (s : State) : Out := .next (s.flitSend p)
/-- DATA_FLIT (R342). -/
def execDataFlit (p : Nat) (f : Flit) (s : State) : Out := .next (s.flitIn p f)
/-- IDLE_FLIT (R341). -/
def execIdleFlit (p : Nat) (f : Flit) (s : State) : Out := .next (s.flitIn p f)
/-- RETRY_REQUEST (R342). -/
def execRetryRequest (p : Nat) (f : Flit) (s : State) : Out := .next (s.flitIn p f)
/-- END_OF_LINK (R337). -/
def execEndOfLink (p : Nat) (s : State) : Out := .next (if s.portFlits p then s.linkDown p else s)
/-- WR from a link (R357, R358). -/
def execTrailWr (p : Nat) (s : State) : Out := .next (s.takeTrail p .wr fun t s => s.remoteRequest p t)
/-- RD from a link (R357, R358). -/
def execTrailRd (p : Nat) (s : State) : Out := .next (s.takeTrail p .rd fun t s => s.remoteRequest p t)
/-- SIG from a link (R359). -/
def execTrailSig (p : Nat) (s : State) : Out := .next (s.takeTrail p .sig fun t s => s.remoteRequest p t)
/-- TOK from a link (R359). -/
def execTrailTok (p : Nat) (s : State) : Out := .next (s.takeTrail p .tok fun t s => s.remoteRequest p t)
/-- MSG from a link (R370). -/
def execTrailMsg (p : Nat) (s : State) : Out := .next (s.takeTrail p .msg fun t s => s.ingress p t)
/-- RED from a link (R370). -/
def execTrailRed (p : Nat) (s : State) : Out := .next (s.takeTrail p .red fun t s => s.ingress p t)
/-- RDR from a link (R353). -/
def execTrailRdr (p : Nat) (s : State) : Out := .next (s.takeTrail p .rdr fun t s => s.remoteAnswer p t)
/-- WACK (R353). -/
def execWack (p : Nat) (s : State) : Out := .next (s.takeTrail p .wack fun t s => s.remoteAnswer p t)
/-- NAK (R353). -/
def execNak (p : Nat) (s : State) : Out := .next (s.takeTrail p .nak fun t s => s.remoteAnswer p t)
/-- CRD from a link (R371). -/
def execTrailCrd (p : Nat) (s : State) : Out := .next (s.takeTrail p .crd fun t s => s.creditIn p t)
/-- RLS from a link (R371). -/
def execTrailRls (p : Nat) (s : State) : Out := .next (s.takeTrail p .rls fun t s => s.creditIn p t)

end Sys2Proof.Machine
end

