-- ==== Sys2Proof/Machine/Serve.lean ====
section
/-! DEFINITION. Packets leaving router outputs and packets served at their endpoints (R209, R237 to R246, R300, R309, R404, R406,
R418, R434). -/

namespace Sys2Proof.Machine

/-! ### Router arrival -/

/-- Place of an input port in the cyclic order of its node's arbiters (R241); at an I/O die its I/O links by column, then its units. -/
def portIndex (n : Node) (p : Port) : Nat :=
  match n, p with
  | .router _ _, .n => 0
  | .router _ _, .s => 1
  | .router _ _, .e => 2
  | .router _ _, .w => 3
  | .router _ _, _ => 4
  | .hub _, .hubPort x => x
  | .hub _, .n => 8
  | .hub _, .s => 9
  | .hub _, .e => 10
  | .hub _, .w => 11
  | .hub _, .io _ => 12
  | .hub _, _ => 13
  | .die _, .io c => c
  | .die _, _ => 4

/-- Input ports of a node. -/
def portCount : Node → Nat
  | .router _ _ => 5
  | .hub _ => 14
  | .die _ => 5

/-- The cluster into which a hub would deliver a packet by an output, if that output leads into its cluster (R245). -/
def deliversInto (n : Node) (out : Port) (p : Packet) : Option Nat :=
  match n, out with
  | .hub c, .hubPort _ => some c
  | .hub c, .units => if unitOfEp p.dst < 0x32 then some c else none
  | _, _ => none

/-- A packet for a shared counter, which its counter block checks (R270, R300). -/
def Packet.forShared (p : Packet) : Bool :=
  (p.kind == .amo || p.kind == .sig || p.kind == .tok) && (match counterOfAddr p.addr with
    | some (.shared _) => true
    | _ => false)

/-- Whether a hub holds a packet back in the network for a capture pause (R418). -/
def State.pauseHolds (s : State) (n : Node) (out : Port) (p : Packet) : Bool :=
  match deliversInto n out p with
  | none => false
  | some c => p.kind.vc == 0 && s.net.paused.contains c
    && !(decide (siteOfEp p.src < 12) && s.partOf (siteOfEp p.src) == s.partOf c)

/-- The packets in a node that are ready for an output in a virtual channel, with their places: the head of each input buffer. -/
def State.readyAt (s : State) (n : Node) (out : Port) (vc : Nat) : List (Nat × NetPkt) :=
  (s.net.flight.zipIdx.filterMap fun (x, j) =>
    let head := s.net.flight.findIdx? fun y => y.node == n && y.inp == x.inp && y.p.kind.vc == vc
    if x.node = n ∧ x.p.kind.vc = vc ∧ x.outs.contains out ∧ head = some j ∧ !s.pauseHolds n out x.p then some (j, x) else none)

/-- The arbiter's pointer of an output and channel; it stands at the first port after reset. -/
def State.arbiter (s : State) (n : Node) (out : Port) (vc : Nat) : Nat :=
  ((s.net.ptrs.find? fun e => e.1 == (n, out, vc)).map (·.2)).getD 0

/-- The arbiter's choice: the first ready input after its pointer (R241). -/
def State.arbitrate (s : State) (n : Node) (out : Port) (vc : Nat) : Option (Nat × NetPkt) :=
  let c := portCount n
  let dist (x : NetPkt) : Nat := (portIndex n x.inp + 2 * c - s.arbiter n out vc - 1) % c
  (s.readyAt n out vc).foldl (fun best x => match best with
    | none => some x
    | some y => if dist x.2 < dist y.2 then some x else some y) none

/-- Bytes that cross a link are counted (Tables 8-14, 8-15). -/
def State.countBytes (s : State) (n : Node) (out : Port) (p : Packet) : State :=
  let b := 16 + p.payload.length
  let bb (fwd : Bool) (l : Nat) : State :=
    if fwd then s.bump (Reg.MESH_BB_FWD l) Reg.MESH_BB_FWD.BYTES b else s.bump (Reg.MESH_BB_REV l) Reg.MESH_BB_REV.BYTES b
  match n, out with
  | .hub c, .hubPort _ => s.bump (Reg.MESH_HUB_IN c) Reg.MESH_HUB_IN.BYTES b
  | .router c r, .n => if r / 8 = 0 then s.bump (Reg.MESH_HUB_OUT c) Reg.MESH_HUB_OUT.BYTES b else s
  | .hub c, .e => bb true (3 * (c / 4) + c % 4)
  | .hub c, .w => bb false (3 * (c / 4) + c % 4 - 1)
  | .hub c, .s => bb true (9 + c)
  | .hub c, .n => bb false (9 + c - 4)
  | .hub c, .io _ => let i := c % 4 + (if c / 4 = 0 then 0 else 4); s.bump (Reg.MESH_IO_OUT i) Reg.MESH_IO_OUT.BYTES b
  | .die south, .io col => let i := col + (if south then 4 else 0); s.bump (Reg.MESH_IO_IN i) Reg.MESH_IO_IN.BYTES b
  | _, _ => s

/-- A copy of a packet passes an output: it is refused by its hub (R245), answered for a cluster that is not On (R434), or moves on. -/
def State.passOutput (s : State) (n : Node) (out : Port) (p : Packet) : State :=
  let go : State :=
    let s := s.countBytes n out p
    match hopOf n out p with
    | .node m q => s.enterNode m q p
    | .sink ep => s.deliver ep p
  match deliversInto n out p with
  | none => go
  | some c =>
    if p.forShared then go
    else if !s.admits c p then s.refuse c p
    else if s.partOf c ≠ 0xF ∧ s.cluField c % 8 ≠ 2 ∧ p.kind.vc = 0 then s.inject { (p.answer .err [] 0x03) with src := epHub c }
    else if s.partOf c ≠ 0xF ∧ s.cluField c % 8 ≠ 2 ∧ p.kind = .tok then s
    else go

/-- An output that is free chooses a packet: VC3, VC1, VC2, VC0 (R241); the input buffer frees when every copy has left (R248). -/
def State.routerArrival (s : State) (n : Node) (out : Port) : State :=
  match [3, 1, 2, 0].findSome? fun vc => (s.arbitrate n out vc).map fun x => (vc, x) with
  | none => s
  | some (vc, j, x) =>
    let left := x.outs.filter (· != out)
    let key := (n, out, vc)
    let s := { s with net := { s.net with
      flight := if left.isEmpty then s.net.flight.eraseIdx j else s.net.flight.set j { x with outs := left }
      ptrs := (key, portIndex n x.inp) :: s.net.ptrs.filter fun e => e.1 != key } }
    s.passOutput n out x.p

/-! ### Requests at the memory side -/

/-- Whether a write leaves part of an aligned unit as it was, so that the unit is read first. -/
def partial_ (w off n u : Nat) : Bool := !(decide (off ≤ w * u) && decide (w * u + w ≤ off + n))

/-- What the code of an on-chip store meets in the words that an access reads (R209): corrections, and what is left of the data. -/
def State.chipEcc (s : State) (site : Site) (ecc : Ecc) (off n : Nat) (read : Bool) (data : List Byte) : List Byte × State :=
  let here (u : Nat) : Bool := decide (off / 8 ≤ u) && decide (u ≤ (off + n - 1) / 8) && (read || partial_ 8 off n u)
  let one (bad : Bool) (u : Nat) (s : State) : State :=
    match site with
    | .store k st _ => s.storeEcc k st (8 * u) (some bad)
    | .clm c _ =>
      if bad then
        (((s.bump (Reg.CLU_CLM_ECC c) Reg.CLU_CLM_ECC.UNCOR 1).setRf (Reg.CLU_CLM_ECC_ADDR c) Reg.CLU_CLM_ECC_ADDR.OFFSET (8 * u))).note
          (.clmError c (8 * u))
      else s.bump (Reg.CLU_CLM_ECC c) Reg.CLU_CLM_ECC.CORR 1
    | _ => s
  let s := (ecc.corr.filter here).foldl (fun s u => one false u s) s
  (ecc.unc.filter here).foldl (fun (acc : List Byte × State) u =>
    let (v, s) := (one true u acc.2).fresh
    (acc.1.zipIdx.map fun (b, j) => if (off + j) / 8 = u then byteOf v ((off + j) % 8) else b, s)) (data, s)

/-- A read at its memory with what its code meets: the ERR code or the bytes. -/
def State.memRead (s : State) (pa n : Nat) (key : Option Nat) (ecc : Ecc) : (Nat ⊕ List Byte) × State :=
  let onChip (off : Nat) : (Nat ⊕ List Byte) × State :=
    match s.physRead pa n key with
    | (.inr b, s1) => let (b, s2) := s1.chipEcc (s.site pa) ecc off n true b; (.inr b, s2)
    | r => r
  match s.site pa with
  | .store _ _ off => onChip off
  | .clm _ off => onChip off
  | .hbm m off => (s.extEcc (.hbm m) ecc off n false).physRead pa n key
  | .ddr m off =>
    if (s.ddrAdmit m off key).isNone then s.physRead pa n key else (s.extEcc (.ddr m) ecc off n false).physRead pa n key
  | _ => s.physRead pa n key

/-- A write at its memory with what its code meets in units that it writes in part; none while a guarded page finds no place for its
aside (R420). -/
def State.memWrite (s : State) (pa : Nat) (b : List Byte) (key : Option Nat) (ecc : Ecc) : Option (Option Nat × State) :=
  let n := b.length
  let inPart (off : Nat) : Ecc :=
    { corr := ecc.corr.filter (partial_ 64 off n ·), unc := ecc.unc.filter (partial_ 64 off n ·) }
  let ext (m : ExtMem) (off : Nat) (s : State) : Option (Option Nat × State) :=
    (s.asidesFor pa n).map fun s => (s.extEcc m (inPart off) off n false).physWrite pa b key
  match s.site pa with
  | .store _ _ off => match s.physWrite pa b key with
    | (none, s1) => some (none, (s1.chipEcc (s.site pa) ecc off n false []).2)
    | r => some r
  | .clm _ off => match s.physWrite pa b key with
    | (none, s1) => some (none, (s1.chipEcc (s.site pa) ecc off n false []).2)
    | r => some r
  | .hbm m off => ext (.hbm m) off s
  | .ddr m off => if (s.ddrAdmit m off key).isNone then some (s.physWrite pa b key) else ext (.ddr m) off s
  | _ => some (s.physWrite pa b key)

/-- A request that its own hub or die answers (R27, R362): a hole, or an aperture that its partition may not use. -/
def State.answerHole (s : State) (ep : Nat) (p : Packet) : State :=
  match s.site p.addr, s.aperture p.addr with
  | .hbm _ _, some a =>
    let s := s.bump (Reg.TRL_APTD a) Reg.TRL_APTD.NAKS 1
    if s.apertureAdmits p.src a then s.inject (p.answer .err [] 0x02) else (s.countRefusal (siteOfEp ep) p).inject (p.answer .err [] 0x01)
  | _, _ => s.inject (p.answer .err [] 0x02)

/-- Trail port of an endpoint. -/
def portOfEp (ep : Nat) : Nat := if siteOfEp ep = 0xC then unitOfEp ep else 9 + unitOfEp ep

/-- Endpoints that serve no memory: hub units and the Cheter controller. -/
def servesNone (ep : Nat) : Bool := (decide (siteOfEp ep < 12) && unitOfEp ep == 0x30) || ep == epCheter

/-- RD at its sink (R244). -/
def State.serveRd (s0 : State) (ep : Nat) (ecc : Ecc) : State :=
  match s0.takeSink ep 0 (fun p => p.kind == .rd) with
  | none => s0
  | some (p, s) =>
    if isTrailEp ep then (match s.apertureRequest (portOfEp ep) p with
      | (true, s1) => s1
      | (false, _) => s0)
    else if servesNone ep then s.answerHole ep p
    else match s.memRead p.addr p.size p.key ecc with
    | (.inl code, s1) => s1.inject (p.answer .err [] code)
    | (.inr b, s1) => s1.inject (p.answer .rdr b)

/-- WR at its sink (R244). -/
def State.serveWr (s0 : State) (ep : Nat) (ecc : Ecc) : State :=
  match s0.takeSink ep 0 (fun p => p.kind == .wr) with
  | none => s0
  | some (p, s) =>
    if isTrailEp ep then (match s.apertureRequest (portOfEp ep) p with
      | (true, s1) => s1
      | (false, _) => s0)
    else if servesNone ep then s.answerHole ep p
    else match s.memWrite p.addr p.payload p.key ecc with
    | none => s0
    | some (some code, s1) => s1.inject (p.answer .err [] code)
    | some (none, s1) => s1.inject (p.answer .wrr [])

/-! ### Answers at the requester -/

/-- An access that failed is reported (R27, R310). -/
def State.noteParts (s : State) (k code : Nat) (hit : Part → Bool) : State :=
  (List.range 4).foldl (fun s i =>
    ((s.strand k i).loads.flatMap (·.parts)).foldl (fun s p => if hit p then s.note (.memError k i p.pa code) else s) s) s

/-- A line fetch is answered (R213, R27). -/
def State.fetchLineAnswer (s : State) (k : Nat) (p : Packet) : State :=
  let s := s.modCore k fun c => { c with fetches := c.fetches.map fun f =>
    if f.tag ≠ p.tag then f
    else if p.kind = .rdr then { f with data := some (BitVec.ofNat 1024 (ofBytes p.payload)) } else { f with failed := true } }
  if p.kind = .err then
    s.noteParts k p.code fun x => match x.st with
      | .fetching t _ => t == p.tag
      | _ => false
  else s

/-- An access outside the cache or a DPICK is answered (R148, R27). -/
def State.partAnswer (s : State) (k : Nat) (p : Packet) : State :=
  let s := if p.kind = .err then s.noteParts k p.code fun x => x.st == .asked p.tag else s
  let (v, s) := if p.kind = .err then s.fresh else (ofBytes p.payload, s)
  s.modCore k fun c => c.mapParts fun x => if x.st = .asked p.tag then { x with st := .ready (v % 2 ^ (8 * x.size)) } else x

/-- A store is accepted, or writes nothing (R214, R27). -/
def State.storeAnswer (s : State) (k : Nat) (p : Packet) : State :=
  let hit := (s.core k).unacked.filter fun x => x.tag == p.tag
  let s := if p.kind = .err then
      hit.foldl (fun s x => match x.dst with
        | .mem pa _ => s.note (.memError k x.strand pa p.code)
        | _ => s) s
    else s
  (s.modCore k fun c => { c with unacked := c.unacked.filter fun x => x.tag != p.tag }).pump k

/-- What a tag of a core names. -/
inductive TagOf where
  | fetch | part | store | ring
  | hamper (q : Nat)
  | counter (i : Nat)
  | cancel (i : Nat)
  | none
deriving DecidableEq, Repr

def State.tagOf (s : State) (k tag : Nat) : TagOf :=
  let c := s.core k
  if c.fetches.any fun f => f.tag == tag && f.sent then .fetch
  else if c.parts.any fun x => x.st == .asked tag then .part
  else if c.unacked.any fun x => x.tag == tag then .store
  else if (s.msg k).spills.any fun x => x.tags.contains tag then .ring
  else match (s.msg k).queues.find? fun e => e.2.fetch.any fun f => f.asked.any (·.1 == tag) with
  | some e => .hamper e.1
  | none => match (List.range 4).find? fun i => (s.strand k i).syncOp.any fun o => o.tag == some tag with
    | some i => .counter i
    | none => match (List.range 4).find? fun i => (s.strand k i).syncOp.any fun o => o.cancel == some tag with
      | some i => .cancel i
      | none => .none

/-- An answer that names no outstanding request: ERR to a message, a reduction, a tail update or a signal (R245, R258, R270). -/
def State.strayAnswer (s : State) (k : Nat) (p : Packet) : State :=
  if p.kind ≠ .err then s
  else if p.tag < 64 then
    let s := s.bump (Reg.CORE_MSG_ERR k) Reg.CORE_MSG_ERR.ERRS 1
    if s.rf (sendReg k p.tag) Reg.CLU_RT_SEND.KIND = 2 then s else s.setRf (Reg.CORE_MSG_SSB k p.tag) Reg.CORE_MSG_SSB.ERR 1
  else if isSteward k then s
  else s.bump (Reg.SYN_ERR (clusterOf k)) Reg.SYN_ERR.ERRS 1

/-- An answer reaches a core. -/
def State.coreAnswer (s : State) (k : Nat) (p : Packet) : State :=
  let ok := p.kind != .err
  match s.tagOf k p.tag with
  | .fetch => s.fetchLineAnswer k p
  | .part => s.partAnswer k p
  | .store => s.storeAnswer k p
  | .ring => s.ringAnswer k p.tag (!ok)
  | .hamper q => s.fetchAnswer k q p.tag (if ok then some p.payload else none)
  | .counter i => if ok then s.counterAnswer k i (ofBytes p.payload) else s.counterError k i
  | .cancel i => s.cancelAnswer k i (if ok then ofBytes p.payload else 0)
  | .none => s.strayAnswer k p

/-- WAIT_COUNTER's reply data (Table 12-6). -/
def waitData (met value : Nat) : List Byte := toBytesBE 1 met ++ toBytesBE 3 0 ++ toBytesBE 4 value

/-- An answer to a transfer through an aperture (R399). -/
def KAwait.answered (w : KAwait) (p : Packet) : KAwait :=
  match w with
  | .remote read len asks data bad =>
    match asks.find? (·.1 == p.tag) with
    | none => w
    | some (_, off, _) =>
      let code := if p.code = 4 then 3 else 2
      let bad := if p.kind ≠ .err then bad else match bad with
        | some (o, d) => if o ≤ off then some (o, d) else some (off, code)
        | none => some (off, code)
      .remote read len (asks.filter (·.1 != p.tag)) (if p.kind = .rdr then data ++ [(off, p.payload)] else data) bad
  | _ => w

/-- The pending command whose transfer an answer belongs to. -/
def State.transferOf (s : State) (tag : Nat) : Option KPending :=
  s.host.pending.find? fun k => match k.what with
    | .remote _ _ asks _ _ => asks.any (·.1 == tag)
    | _ => false

/-- The status of a reply that a counter serves: REDUCED_SERVICE when its hub's cluster runs in reduced service (R395). -/
def State.ctrStatus (s : State) (c : CounterId) : Nat :=
  match s.counterHub c with
  | some u => if s.cluField u / 16 = 1 then 0x202 else 0
  | none => 0

/-- An answer reaches the Cheter controller: it answers a steward core, a pending WAIT_COUNTER (R404), or a transfer. -/
def State.cheterAnswer (s : State) (p : Packet) : State :=
  match [480, 481, 482, 483].find? fun k => s.tagOf k p.tag != .none with
  | some k => s.coreAnswer k p
  | none => match s.host.waits.find? (·.wtag == p.tag) with
    | none => match s.transferOf p.tag with
      | none => s
      | some k =>
        let k2 := { k with what := k.what.answered p }
        (s.modHost fun h => { h with pending := h.pending.map fun x => if x = k then k2 else x }).settleRemote k2
    | some w =>
      let s := s.modHost fun h => { h with waits := h.waits.filter (·.wtag != p.tag) }
      if p.kind = .rdr then (s.reply w.h 0x45 w.flags (s.ctrStatus w.ctr) 0 (waitData 1 (ofBytes p.payload % 2 ^ 32))).endCommand w.h
      else (s.reply w.h 0x45 w.flags 0x201 0 []).endCommand w.h

/-- RDR, WRR or ERR at its requester (R244). -/
def State.serveAnswer (s : State) (ep : Nat) (k : PKind) : State :=
  match s.takeSink ep 1 (fun p => p.kind == k) with
  | none => s
  | some (p, s) =>
    if ep = epCheter then s.cheterAnswer p
    else if isTrailEp ep then s.trailAnswer (portOfEp ep) p
    else match coreOfEp ep with
    | some c => s.coreAnswer c p
    | none => if siteOfEp ep < 12 ∧ unitOfEp ep = 0x30 then s.dmaAnswer (siteOfEp ep) p else s

/-! ### Messages, credits, reductions -/

/-- The place of a host mailbox message is released: the Cheter controller reports it to the sender (R254, R406). -/
def State.mailRelease (s : State) (chid src : Nat) : State :=
  let key := chid + 2 ^ 16 * src
  let rel := (Sparse.get (fun _ => 0) (s.msg 480).dir key + 1) % 2 ^ 32
  (s.modMsg 480 fun m => { m with dir := Sparse.set (fun _ => 0) m.dir key rel }).inject
    { kind := .crd, part := 0xF, dst := src, src := epCheter, chid := chid, payload := crdPayload rel 0 0 false }

/-- A host mailbox message (R406): it becomes an event of the session bound to its CHID, or is released at once. -/
def State.mailbox (s : State) (p : Packet) : State :=
  let s := s.bump Reg.CHT_MBOX Reg.CHT_MBOX.RECV 1
  let bound := (s.host.mailbox.find? (·.1 == p.chid + 65536 * p.part)).bind fun b => (s.session? b.2).map (·.num)
  match bound with
  | some n =>
    sendEvent State.transmit (.session n) 0x0001 p.part
      (toBytesBE 2 p.chid ++ toBytesBE 2 p.src ++ toBytesBE 4 p.payload.length ++ p.payload) (some (p.chid, p.src)) s
  | none => (s.bump Reg.CHT_MBOX Reg.CHT_MBOX.DISC 1).mailRelease p.chid p.src

/-- A packet of a kind at its sink: at a trail port it leaves by its table entry, at a TAP the core takes it; a packet to an endpoint
without a TAP is discarded. -/
def State.servePacket (s : State) (ep : Nat) (k : PKind) (tap : Nat → Packet → State → State) (link : Nat → Packet → State → State)
    (cheter : Packet → State → State) : State :=
  match s.takeSink ep k.vc (fun p => p.kind == k) with
  | none => s
  | some (p, s) =>
    if ep = epCheter then cheter p s
    else if isTrailEp ep then link (portOfEp ep) p s
    else match coreOfEp ep with
    | some c => tap c p s
    | none => s

/-! ### Commands -/

/-- A router, hub or die sends the next packet by an output (R236 to R241, R245, R248, R261). -/
def execRouterArrival (node : Node) (out : Port) (s : State) : Out := .next (s.routerArrival node out)
/-- RD (R244). -/
def execRd (ep : BitVec 12) (ecc : Ecc) (s : State) : Out := .next (s.serveRd ep.toNat ecc)
/-- WR (R244). -/
def execWr (ep : BitVec 12) (ecc : Ecc) (s : State) : Out := .next (s.serveWr ep.toNat ecc)
/-- RDR (R244). -/
def execRdr (ep : BitVec 12) (s : State) : Out := .next (s.serveAnswer ep.toNat .rdr)
/-- WRR (R244). -/
def execWrr (ep : BitVec 12) (s : State) : Out := .next (s.serveAnswer ep.toNat .wrr)
/-- ERR (R244, R27). -/
def execErr (ep : BitVec 12) (s : State) : Out := .next (s.serveAnswer ep.toNat .err)
/-- MSG (R246, R369, R406). -/
def execMsg (ep : BitVec 12) (s : State) : Out :=
  .next (s.servePacket ep.toNat .msg (fun k p s => s.msgAtTap k p) (fun q p s => s.egress q p) (fun p s => s.mailbox p))
/-- HTL (R258). -/
def execHtl (ep : BitVec 12) (s : State) : Out :=
  .next (s.servePacket ep.toNat .htl (fun k p s => s.htlAtTap k p) (fun q _ s => s.dropTrail q) (fun _ s => s))
/-- CRD (R254, R255, R371). -/
def execCrd (ep : BitVec 12) (s : State) : Out :=
  .next (s.servePacket ep.toNat .crd (fun k p s => s.crdAtTap k p) (fun q p s => s.creditOut q p) (fun _ s => s))
/-- RLS (R263, R371). -/
def execRls (ep : BitVec 12) (s : State) : Out :=
  .next (s.servePacket ep.toNat .rls (fun k p s => s.rlsAtTap k p) (fun q p s => s.creditOut q p) (fun _ s => s))
/-- RED (R262, R369). -/
def execRed (ep : BitVec 12) (s : State) : Out :=
  .next (s.servePacket ep.toNat .red (fun k p s => s.redAtTap k p) (fun q p s => s.egress q p) (fun _ s => s))

end Sys2Proof.Machine
end

