-- ==== Sys2Proof/Machine/Regs.lean ====
section
/-! DEFINITION. Register space as its agents see it: what a read returns and what a write does (R6, R7, R9, R28, R29, R198, R222, R233,
R235, R266, R298, R299, R301, R302, R401, R437), the completion of loads and the store queue (R148, R214, R215, R281). -/

namespace Sys2Proof.Machine

/-! ### Reads -/

/-- The code of a strand's state (Table 5-1). -/
def Run.code : Run → Nat
  | .off => 0
  | .running => 1
  | .waiting _ => 2
  | .sleeping _ => 3
  | .restStop => 4

/-- CORE_STRAND (Table 5-15). -/
def Strand.view (x : Strand) : Nat := x.run.code + 2 ^ 3 * x.loads.length + 2 ^ 7 * x.matrix + 2 ^ 16 * x.pc.toNat

/-- CORE_MX_STATUS (Table 3-8). -/
def State.mxStatus (s : State) (k : Nat) : Nat :=
  let out := (List.range 4).map fun i => (s.strand k i).matrix
  out.zipIdx.foldl (fun n (m, i) => n + m * 2 ^ (2 * i)) 0 + 2 ^ 8 * bit (out.any (· != 0))
    + (List.range 4).foldl (fun n i => n + bit (vget (s.core k).banks i).integer * 2 ^ (9 + i)) 0

/-- Whether an activation slot is valid (R128). -/
def Core.actValid (c : Core) (n : Nat) : Bool :=
  match (vget c.act n).bytes with
  | none => decide (n < 6)
  | some b => let m := b.toNat % 2 ^ 32; 1 ≤ m && m ≤ 3

/-- What a core's registers read as beside what they hold. -/
def State.coreView (s : State) (k o : Nat) : Option Nat :=
  let i := o / 8 % 4
  let x := s.strand k i
  if o = 0x8 then some (s.core k).cycle
  else if 0x10 ≤ o ∧ o < 0x30 then some (s.strand k ((o - 0x10) / 8)).view
  else if o = 0x800 then some (s.mxStatus k)
  else if 0x900 ≤ o ∧ o < 0x920 then some x.fpctl.toNat
  else if 0x920 ≤ o ∧ o < 0x940 then some x.settled.fpflags.toNat
  else if 0x940 ≤ o ∧ o < 0x960 then some x.settled.epictl.toNat
  else if o = 0x960 then some (s.core k).genSettled.seed.toNat
  else if o = 0x968 then some (s.core k).genSettled.ctr.toNat
  else if o = 0x970 then some ((List.range 8).foldl (fun n j => n + bit ((s.core k).actValid j) * 2 ^ j) 0)
  else if 0x1500 ≤ o ∧ o < 0x1700 ∧ o % 16 = 8 then
    let q := (o - 0x1500) / 16
    some ((setFld (setFld (s.reg (Reg.CORE_MSG_QSB k q)) Reg.CORE_MSG_QSB.READY.hi Reg.CORE_MSG_QSB.READY.lo (s.queue k q).ready.length)
      Reg.CORE_MSG_QSB.CLAIMED.hi Reg.CORE_MSG_QSB.CLAIMED.lo (s.queue k q).claimed.length).toNat)
  else none

/-- The waiter entries on a counter (R276). -/
def State.waitersOn (s : State) (c : CounterId) : Nat := (s.waiters.filter fun w => w.ctr == c).length

/-- The waiter entries in a cluster's counter block. -/
def State.poolUsed (s : State) (u : Nat) : Nat := (s.waiters.filter fun w => s.counterHub w.ctr == some u).length

/-- CLU_UC_BUSY (Table 6-12). -/
def State.ucBusy (s : State) (u : Nat) : Nat :=
  (List.range 32).foldl (fun n j =>
    n + bit ((clusterCores u).any fun k => (List.range 4).any fun i =>
      (s.strand k i).micro.any fun m => m.sel == j / 2 && m.epoch == (j % 2 == 1)) * 2 ^ j) 0

/-- MMU_FQ_HEAD (Table 7-8). -/
def FqEnt.view (q : FqEnt) : Nat :=
  let wr : Walker → Bool
    | .strand _ _ a _ => a.writes
    | .dma _ _ w _ => w
  let fe : Walker → Bool
    | .strand _ _ a _ => a == .fetch
    | .dma _ _ _ _ => false
  let src := match q.who with
    | .strand k _ _ _ :: _ => k % 40
    | _ => 40
  bit (q.who.any wr) + 2 * bit (q.who.any fe) + 4 * src + 2 ^ 16 * (q.page % 2 ^ 32)

/-- What a cluster's registers read as beside what they hold. -/
def State.clusterView (s : State) (u o : Nat) : Option Nat :=
  let c := s.cluster u
  if o = 0x8 then some (2 ^ 48 * bit c.inv.isSome)
  else if o = 0x10 then some (min 64 c.fq.length + 2 ^ 7 * bit (decide (64 ≤ c.fq.length)))
  else if o = 0x18 then some ((c.fq.head?.map FqEnt.view).getD 0)
  else if 0x20000 ≤ o ∧ o < 0x25000 ∧ o % 16 = 8 then
    let k := 40 * u + (o - 0x20000) / 0x200
    let i := (o - 0x20000) % 0x200 / 16
    some (setFld (s.reg (Reg.SYN_CTL u (k % 40) i)) Reg.SYN_CTL.WAITERS.hi Reg.SYN_CTL.WAITERS.lo (s.waitersOn (.core k i))).toNat
  else if o = 0x28000 then some (s.poolUsed u)
  else if o = 0x50080 then some (s.ucBusy u)
  else if 0x60000 ≤ o ∧ o < 0x60080 ∧ o % 32 = 16 then some (s.chkResult u ((o - 0x60000) / 32))
  else none

/-- The life-cycle state: 0 Test, 1 Provisioned, 2 Field, 3 Return (R439). -/
def SecState.lifecycle (c : SecState) : Nat := if c.fuseR then 3 else if c.fuseF then 2 else if c.fuseP then 1 else 0

def HandOver.uncommitted : HandOver → Bool
  | .trial _ => true
  | _ => false

/-- What the Cheter status registers read as (Table 14-12). -/
def State.statusView (s : State) (o : Nat) : Option Nat :=
  let c := s.sec
  if o = 0 then some (c.lifecycle + 2 ^ 2 * (c.svn % 128) + 2 ^ 9 * c.keyrev.toNat + 2 ^ 13 * bit c.oproot.isSome)
  else if o = 8 then
    some (s.rf Reg.CHT_BOOT Reg.CHT_BOOT.STAGE + 2 ^ 3 * bit (c.running.any (·.slot)) + 2 ^ 4 * ((c.running.map (·.img.svn)).getD 0 % 128)
      + 2 ^ 11 * bit c.staged.isSome + 2 ^ 12 * bit c.hand.uncommitted + 2 ^ 13 * bit c.dbg)
  else if o = 0x10 then some ((c.running.map (·.img.version.toNat)).getD 0)
  else if o = 0x20 then some c.spdm.length
  else if 0x100 ≤ o ∧ o < 0x180 ∧ o % 16 = 0 then
    some (setFld (s.reg (Reg.CHT_TRACE ((o - 0x100) / 16))) 0 0 (bit (s.traces.any (·.trc == (o - 0x100) / 16)))).toNat
  else none

/-- TIME_NOWX as a read of TIME_NOW latches it (R437). -/
def TimeState.wordX (t : TimeState) : W64 := BitVec.ofNat 64 (t.sec / 2 ^ 32 % 2 ^ 16 + 2 ^ 16 * t.frac)

/-- What a register reads as to an endpoint: WO fields and what no table lists read as zero (R6, R7). -/
def State.regRead (s : State) (ep a : Nat) : W64 :=
  let v : Option Nat := match blkOf a with
    | some (.core, o, k) => s.coreView k o
    | some (.cluster, o, u) => s.clusterView u o
    | some (.device 0, o, _) =>
      if 0x1000 ≤ o ∧ o < 0x5000 ∧ o % 16 = 8 then
        some (setFld (s.reg a) Reg.SYN_SCTL.WAITERS.hi Reg.SYN_SCTL.WAITERS.lo (s.waitersOn (.shared ((o - 0x1000) / 16)))).toNat
      else none
    | some (.device 4, o, _) => if o = 0x38 then some s.host.sessions.length else none
    | some (.device 5, o, _) =>
      if o = 0 then some s.time.word.toNat
      else if o = 8 then some (((s.time.latch.find? (·.1 == ep)).map (·.2)).getD 0#64).toNat
      else none
    | some (.device 6, o, _) => s.statusView o
    | _ => none
  match v with
  | some n => BitVec.ofNat 64 n
  | none => s.reg a

/-- A read of TIME_NOW latches TIME_NOWX for its endpoint (R437). -/
def State.latchTime (s : State) (ep : Nat) : State :=
  { s with time := { s.time with latch := (ep, s.time.wordX) :: s.time.latch.filter fun e => e.1 != ep } }

/-- A load of a register. -/
def State.regLoad (s : State) (ep a : Nat) : W64 × State :=
  (s.regRead ep a, if a = Reg.TIME_NOW then s.latchTime ep else s)

/-! ### Writes -/

/-- Every listed field set (Cheter firmware, R30, R266 and others). -/
def RegRow.writeAll (r : RegRow) (old v : W64) : W64 := r.fields.foldl (fun x f => setFld x f.hi f.lo (fld v f.hi f.lo)) old

/-- A register that no operation acts through: its fields are set by their access types, or all of them. -/
def State.writeFields (s : State) (a : Nat) (v : W64) (all : Bool) : State :=
  match regRowAt a with
  | none => s
  | some r => s.setReg a (if all then r.writeAll (s.reg a) v else r.write (s.reg a) v)

/-- A core's registers (Tables 3-8, 4-9, 5-15, 6-11, 7-3, 8-13). -/
def State.coreStore (s : State) (fw : Bool) (k o a : Nat) (v : W64) : State :=
  let i := o / 8 % 4
  if 0x200 ≤ o ∧ o < 0x220 then (if tb v 0 then s.xirqSet k i else s)
  else if 0x240 ≤ o ∧ o < 0x260 then (if tb v 0 then s.resumeGo k i (tb v 1) (BitVec.ofNat 48 (fld v 63 16)) else s)
  else if o = 0x400 then
    (List.range 40).foldl (fun s j =>
      let b : BankId := if j < 16 then .ls k .ws j else if j < 32 then .ls k .as (j - 16) else .ls k .ps (j - 32)
      if tb v j then s.bankEnable b else s.bankDisable b) s
  else if o = 0x420 then
    let d := fld v 5 2
    let s := s.setRf a Reg.CORE_L1_CTL.PFDIST (if d = 0 ∨ 8 < d then 4 else d)
    let s := if tb v 0 then s.dinv k else s
    if tb v 1 then s.iinv k else s
  else if 0x900 ≤ o ∧ o < 0x920 then s.vfpCtlWrite k i v
  else if 0x920 ≤ o ∧ o < 0x940 then s.modStrand k i fun x => { x.flagsSettled with fpflags := x.flagsSettled.fpflags &&& ~~~ (v.setWidth 6) }
  else if 0x940 ≤ o ∧ o < 0x960 then s.modStrand k i fun x => x.setEpi (v.setWidth 18)
  else if o = 0x960 then s.modCore k fun c => { c.genSettled with seed := v }
  else if o = 0x968 then s.modCore k fun c => { c.genSettled with ctr := v }
  else if o = 0x1000 then s.setRf a Reg.CORE_MSG_CTL.TIMEOUT (max 0x400 (fld v 31 0))
  else s.writeFields a v (fw && decide (0x1000 ≤ o) && decide (o < 0x1700))

/-- A cluster's registers (Tables 6-12, 7-4, 7-8, 8-7, 8-8, 9-10, 9-12, 9-13). -/
def State.clusterStore (s : State) (fw : Bool) (u o a : Nat) (v : W64) : State :=
  if o < 0x10000 then
    (if !fw then s
     else if o = 0 then s.writeFields a v true
     else if o = 8 then
       (if tb v 0 ∧ fld v 2 1 = 0 then s.mmuInvalidate u none
        else if tb v 0 ∧ fld v 2 1 = 1 then s.mmuInvalidate u (some (fld v 47 16 * 2 ^ 16))
        else s)
     else if o = 0x20 then (if tb v 0 then s.fqAnswer u true else if tb v 1 then s.fqAnswer u false else s)
     else s)
  else if o < 0x10800 then
    let n := (o - 0x10000) / 32
    match (o - 0x10000) % 32 with
    | 0 =>
      let s := s.setReg a (setBit (v &&& 0x7FFFF#64) 0 (tb (s.reg a) 0))
      if tb v 0 then s.channelEnable u n else s.channelDisable u n
    | 8 => if tb v 0 then s.dmaGo u n (BitVec.ofNat 20 (fld v 25 6)) else s.setRf a Reg.DMA_CH_HEAD.HEAD (fld v 25 6)
    | _ => s
  else if 0x20000 ≤ o ∧ o < 0x25000 ∧ o % 16 = 0 then
    s.synValWrite (32 * (40 * u + (o - 0x20000) / 0x200) + (o - 0x20000) % 0x200 / 16) (v.setWidth 32)
  else if 0x30000 ≤ o ∧ o < 0x3F800 then
    (if !fw then s
     else if o < 0x3C800 ∧ 0x200 ≤ (o - 0x30000) % 0x500 ∧ (o - 0x30000) % 0x500 < 0x400 then
       let q := ((o - 0x30000) % 0x500 - 0x200) / 16
       s.queueTableWrite (40 * u + (o - 0x30000) / 0x500) q (o % 16 == 8) v
     else s.writeFields a v true)
  else if o = 0x40000 then
    (List.range 48).foldl (fun s b => if tb v b then s.bankEnable (.clm u b) else s.bankDisable (.clm u b)) s
  else if 0x50000 ≤ o ∧ o < 0x50080 then s.ucDecWrite u ((o - 0x50000) / 8) v
  else if 0x60000 ≤ o ∧ o < 0x60080 ∧ o % 32 = 0 then
    let s := s.writeFields a v false
    if tb v 11 then s.chkInit u ((o - 0x60000) / 32) else s
  else s.writeFields a v false

/-- The hours of a patrol register (Table 10-4). -/
def patrolHours (v : W64) : Nat := let h := fld v 7 0; if h = 0 ∨ 168 < h then 24 else h

/-- Device blocks 0 to 9 as Cheter firmware writes them, and block 0, 5 and 7 as the operator does. -/
def State.deviceStore (s : State) (fw : Bool) (b o a : Nat) (v : W64) : State :=
  match b with
  | 0 =>
    if 0x1000 ≤ o ∧ o < 0x5000 ∧ o % 16 = 0 then s.synValWrite (15360 + (o - 0x1000) / 16) (v.setWidth 32)
    else if 0x5000 ≤ o ∧ o % 8 = 0 then s.shomeWrite ((o - 0x5000) / 8) (v.setWidth 4)
    else s.writeFields a v false
  | 1 =>
    let n := o / 0x100
    if !fw ∨ 24 ≤ n then s
    else match o % 0x100 with
    | 0 => s.writeFields a v true
    | 0x18 => s.setRf a Reg.HBM_PATROL.HOURS (patrolHours v)
    | 0x20 =>
      if tb v 41 then s.scrubGo (.hbm n) (fld v 19 0) (fld v 40 20)
      else s.setScrub (.hbm n) (fld v 19 0) (fld v 40 20) (s.scrubBusy (.hbm n))
    | _ => s
  | 2 =>
    let n := o / 0x100
    if !fw then s
    else if o = 0x2008 then
      let s := if tb v 14 then s.setRf a Reg.DDR_RK_CTL.ERR 0 else s
      (if tb v 12 then s.rekeyGo (fld v 5 0) (fld v 11 6) (fld v 31 16)
       else ((s.setRf a Reg.DDR_RK_CTL.FROM (fld v 5 0)).setRf a Reg.DDR_RK_CTL.TO (fld v 11 6)).setRf a Reg.DDR_RK_CTL.RATE (fld v 31 16))
    else if 0x2000 ≤ o then s.writeFields a v true
    else if 12 ≤ n then s
    else match o % 0x100 with
    | 0 => s.writeFields a v true
    | 0x18 => s.setRf a Reg.DDR_PATROL.HOURS (patrolHours v)
    | 0x20 =>
      let s := if tb v 49 then s.setRf a Reg.DDR_SCR_A.ERR 0 else s
      if tb v 47 then s.scrubGo (.ddr n) (fld v 22 0) (fld v 46 23)
      else s.setScrub (.ddr n) (fld v 22 0) (fld v 46 23) (s.scrubBusy (.ddr n))
    | 0x30 =>
      let s := if tb v 51 then s.setRf a Reg.DDR_MOVE.ERR 0 else s
      if tb v 49 then s.moveGo n (fld v 24 0) (fld v 47 25) (tb v 48) else s.writeFields a (setBit v 51 false) false
    | 0x38 =>
      let s := if tb v 56 then s.setRf a Reg.DDR_TAG_CMD.ERR 0 else s
      if tb v 54 then (s.setRf a Reg.DDR_TAG_CMD.SLOT (fld v 52 47)).tagGo n (fld v 22 0) (fld v 46 23) (if tb v 53 then none else some (fld v 52 47))
      else s.writeFields a (setBit v 56 false) false
    | _ => s
  | 8 =>
    if !fw then s
    else
      let s := s.writeFields a v false
      if tb v 1 then s.retireSlot (o / 16) else s
  | 3 =>
    if !fw then s
    else if o = 8 then s.setRf a Reg.TRL_CTL.HOPS (if fld v 7 0 = 0 then 8 else fld v 7 0)
    else if 0x1000 ≤ o ∧ o < 0x2200 ∧ o % 0x100 = 0 then
      let p := (o - 0x1000) / 0x100
      let s := s.setRf a Reg.TRL_CFG.MAXW (if fld v 2 1 = 3 then 0 else fld v 2 1)
      if tb v 0 then s.trailEnable p else s.trailDisable p
    else s.writeFields a v true
  | 4 =>
    if !fw then s
    else if o = 0 then
      let s := s.setReg a (setBit (v &&& 0xFFFF001F#64) 0 (tb (s.reg a) 0))
      if tb v 0 then s.hostEnable else s.hostDisable
    else s.writeFields a v true
  | 5 =>
    if o = 0x18 then
      let w := fld v 19 10
      s.setReg a (setFld (v &&& 0xFFFFF#64) 19 10 (if w = 0 ∨ 500 < w then 100 else w))
    else if o = 0x20 then { s with time := { s.time with edge := fld v 47 0 } }
    else s.writeFields a v fw
  | 6 => s.writeFields a v fw
  | 7 =>
    if o = 8 then s.setRf a Reg.PWR_CAP.WATTS (max 600 (min 2100 (fld v 11 0)))
    else s.writeFields a v fw
  | 9 => s.writeFields a v fw
  | _ => s

/-- Whether an agent may write a block at all (R28, R29, R401): a compute core's strand the core and cluster blocks of its partition, the
operator none of blocks 1, 2, 3, 4, 8 and 9; a core that is out of service ignores writes. -/
def State.mayStore (s : State) (g : Agent) (b : Blk) (n : Nat) : Bool :=
  let mine (u : Nat) : Bool := match g with
    | .strand k => isSteward k || s.partOf u == s.partOf (clusterOf k)
    | .firmware | .debug => true
  match b with
  | .core => (isSteward n || s.coreLive n) && mine (n / 40)
  | .cluster => !s.cluRetired n && mine n
  | .device d => (match g with
    | .firmware => true
    | .debug => !(d == 1 || d == 2 || d == 3 || d == 4 || d == 8 || d == 9)
    | .strand _ => false)

/-- A store to a register (R6 to R9). -/
def State.regStore (s : State) (g : Agent) (a : Nat) (v : W64) : State :=
  let fw := g == .firmware
  match blkOf a with
  | none => s
  | some (b, o, n) =>
    if !s.mayStore g b n then s
    else match b with
    | .core => s.coreStore fw n o a v
    | .cluster => s.clusterStore fw n o a v
    | .device d => s.deviceStore fw d o a v

/-- The agent that a core's strands are in register space: the steward cores run Cheter firmware (R17). -/
def agentOf (k : Nat) : Agent := if isSteward k then .firmware else .strand k

/-! ### Loads complete, stores leave -/

/-- A register load of a core; a retired cluster's registers are holes (R27, R28). -/
def State.coreRegLoad (s : State) (k a : Nat) : W64 × State :=
  let gone : Bool := match blkOf a with
    | some (.core, _, n) => !isSteward n && s.cluRetired (n / 40)
    | some (.cluster, _, u) => s.cluRetired u
    | _ => false
  if gone then let (v, s1) := s.fresh; (BitVec.ofNat 64 v, s1) else s.regLoad (epCore k) a

/-- Whether the oldest store of a core may leave (R146, R215, R281): a store after the older fetches and picks of its line, a register
store and a posted signal after every store before it has been accepted. -/
def Core.mayLeave (c : Core) (x : StoreEnt) : Bool :=
  match x.dst with
  | .mem pa _ => !c.olderFetch (pa / lineBytes) x.tag && !c.olderPick (pa / lineBytes) x.tag
  | .reg _ => c.unacked.isEmpty
  | .sig _ _ => c.unacked.isEmpty

/-- Strands that wait for a place in the store queue go on (R214). -/
def State.releaseStores (s : State) (k : Nat) : State :=
  (List.range 4).foldl (fun s i => match (s.strand k i).run with
    | .waiting .storeQueue => s.modStrand k i fun x => { x with run := .running }
    | _ => s) s

/-- STORE_QUEUE_SEND: the oldest store of a core leaves (R214, R215, R281). -/
def State.storeQueueSend (s : State) (k : Nat) : State :=
  match (s.core k).storeq with
  | [] => s
  | x :: l =>
    if !(s.core k).mayLeave x then s
    else
      let s := s.modCore k fun c => { c with storeq := l }
      (match x.dst with
       | .mem pa key => (s.modCore k fun c => { c with unacked := c.unacked ++ [x] }).coreRequest k .wr pa x.tag 0 key x.bytes
       | .reg a => s.regStore (agentOf k) a (BitVec.ofNat 64 (ofBytes x.bytes))
       | .sig c v =>
         if ownCounter k c then (s.ctrAdd c v.toInt).2
         else s.inject { kind := .sig, part := s.partOfCore k, dst := s.ctrDst k c, src := epCore k, tag := x.tag, addr := c.addr,
                         payload := toBytes 8 (2 ^ 32 * v.toNat) }).releaseStores k

/-- LOAD_COMPLETE (R148). -/
def execLoadComplete (core strand k : Nat) (s : State) : Out := .next (s.completeLoad core strand k fun s a => s.coreRegLoad core a)
/-- STORE_QUEUE_SEND (R214). -/
def execStoreQueueSend (core : Nat) (s : State) : Out := .next (s.storeQueueSend core)
/-- REGISTER_WRITE (R6): the operator's and firmware's address is an offset in register space. -/
def execRegisterWrite (agent : Agent) (addr : Nat) (v : BitVec 64) (s : State) : Out := .next (s.regStore agent addr v)
/-- TIME_NOW_READ (R437). -/
def execTimeNowRead (ep : BitVec 12) (s : State) : Out := .next (s.latchTime ep.toNat)

end Sys2Proof.Machine
end

