-- ==== Sys2Proof/Machine/Firmware.lean ====
section
/-! DEFINITION. What Cheter firmware does for commands: measurements (R446 to R448), pages and page tables (R22, R226 to R228, R305, R313,
R324, R325), scrubs (R326), and transfers of memory (R399). -/

namespace Sys2Proof.Machine

/-! ### Partitions -/

def State.part? (s : State) (p : Nat) : Option Partition := s.parts.find? (·.num == p)
def State.modPart (s : State) (p : Nat) (f : Partition → Partition) : State :=
  { s with parts := s.parts.map fun x => if x.num = p then f x else x }
/-- The clusters of a partition. -/
def State.partClusters (s : State) (p : Nat) : List Nat := ((s.part? p).map (·.clusters)).getD []

/-- A cluster's field of ID_CLU_ASSIGN and of ID_CLU_STATE (R30, R31). -/
def State.assign (s : State) (u p : Nat) : State := s.setRf Reg.ID_CLU_ASSIGN ⟨4 * u + 3, 4 * u⟩ p
def State.setClu (s : State) (u x : Nat) : State := s.setRf Reg.ID_CLU_STATE ⟨5 * u + 2, 5 * u⟩ x
def State.cluOn (s : State) (u : Nat) : Bool := s.cluField u % 8 == 2
/-- REDUCED of a cluster (Table 1-7). -/
def State.cluReduced (s : State) (u : Nat) : Bool := s.cluField u / 16 == 1

/-- Live stacks of a list. -/
def State.liveStacks (s : State) (l : List Nat) : List Nat := l.filter fun n => s.extLive (.hbm n)
/-- Live home stacks of clusters, in ascending order (R11, R305). -/
def State.homeStacks (s : State) (us : List Nat) : List Nat := s.liveStacks (us.flatMap fun u => [2 * u, 2 * u + 1])
/-- The DDR5 channels of a partition's memory: D(c) of its clusters, any live channel when none of them is live (R422). -/
def State.homeChannels (s : State) (us : List Nat) : List Nat :=
  let live := (List.range 12).filter fun n => s.extLive (.ddr n)
  match live.filter us.contains with
  | [] => live
  | l => l

/-! ### Giving and freeing pages -/

/-- The first run of k free pages from a place of a ring of n such runs on. -/
def State.searchRun (s : State) (lo k n : Nat) : Nat → Nat → Option Nat
  | 0, _ => none
  | f + 1, j =>
    let first := lo + j % n * k
    if !s.ext.owned.any (fun e => decide (first ≤ e.1) && decide (e.1 < first + k))
        && !s.ext.retired.any (fun g => decide (first ≤ g) && decide (g < first + k))
        && (s.aperture (first * pageBytes)).isNone then some first
    else s.searchRun lo k n f (j + 1)

/-- k pages in a row, aligned to k, taken for an owner from a memory; which, is firmware's choice. -/
def State.allocRun (s : State) (m : ExtMem) (k owner : Nat) : Option Nat × State :=
  let (lo, n) := s.pagesOf m
  if n / k = 0 then (none, s)
  else
    let (h, s) := s.fresh
    match s.searchRun lo k (n / k) (n / k) (h % (n / k)) with
    | some pg => (some pg, { s with ext := { s.ext with owned := s.ext.owned ++ (List.range k).map fun i => (pg + i, owner) } })
    | none => (none, s)

/-- The first of some memories that has the pages. -/
def State.allocFrom (s : State) (k owner : Nat) : List ExtMem → Option Nat × State
  | [] => (none, s)
  | m :: l => match s.allocRun m k owner with
    | (some pg, s1) => (some pg, s1)
    | (none, s1) => s1.allocFrom k owner l

/-- A page of DDR5 as channel and page of its slot. -/
def ddrPage (pg : Nat) : Option (Nat × Nat) :=
  match memOfPage pg with
  | .hbm _ => none
  | .ddr n => some (n, (pg - 2 ^ 32) % 2 ^ 23)

/-- A page's tag set or released (R318). -/
def State.tagPage (s : State) (pg : Nat) (slot : Option Nat) : State :=
  match ddrPage pg with
  | some (n, i) => if slot.isSome ∨ (s.pageSlot pg).isSome then s.writeTag n i slot else s
  | none => s

/-- A page is free again: its tag is released, and guards and asides of it go (R420). -/
def State.freePage (s : State) (pg : Nat) : State :=
  let aside := (s.ext.asides.filter (·.1 == pg)).map fun a => a.2.1
  let gone := pg :: aside
  let s := gone.foldl (fun s g => s.tagPage g none) s
  { s with ext := { s.ext with
    owned := s.ext.owned.filter fun e => !gone.contains e.1
    guards := s.ext.guards.filter fun g => g.1 != pg
    asides := s.ext.asides.filter fun a => a.1 != pg } }
def State.freePages (s : State) (l : List Nat) : State := l.foldl (fun s g => s.freePage g) s

/-! ### Page tables -/

/-- Bytes of a table of a level (Table 7-5). -/
def tableBytes (level : Nat) : Nat := if level = 3 then 256 else 4096

/-- A table of a level, zeroed: the next place of the partition's table pages, or of a new one on a live stack. -/
def State.newTable (s : State) (p level : Nat) : Option (Nat × State) :=
  match s.part? p with
  | none => none
  | some x =>
    let n := tableBytes level
    let at_ := (x.used + n - 1) / n * n
    match x.tables.getLast? with
    | some pg =>
      if at_ + n ≤ pageBytes then some (pg * pageBytes + at_, s.modPart p fun x => { x with used := at_ + n })
      else next s p n
    | none => next s p n
where
  /-- A new page for tables. -/
  next (s : State) (p n : Nat) : Option (Nat × State) :=
    match s.allocFrom 1 15 ((s.homeStacks (s.partClusters p) ++ s.liveStacks (List.range 24)).map .hbm) with
    | (none, _) => none
    | (some pg, s) => some (pg * pageBytes, (s.zeroPage pg).modPart p fun x => { x with tables := x.tables ++ [pg], used := n })

/-- Where a partition's level 0 table lies. -/
def Partition.root (x : Partition) : Nat := (x.tables.head?.getD 0) * pageBytes

/-- The address of the entry of a level for a virtual address, with the tables above it made as they are needed; none when no page is
free or a leaf stands above it. -/
def State.entryAt (p va target : Nat) : Nat → Nat → Nat → State → Option (Nat × State)
  | 0, _, _, _ => none
  | f + 1, level, table, s =>
    let a := table + 8 * (va / 2 ^ walkShift level % 2 ^ walkBits level)
    if level = target then some (a, s)
    else
      let e : W64 := BitVec.ofNat 64 (s.num a 8)
      if tb e 0 && tb e 1 then none
      else if tb e 0 then State.entryAt p va target f (level + 1) (pteTable e) s
      else match s.newTable p (level + 1) with
        | none => none
        | some (t, s1) => State.entryAt p va target f (level + 1) t (s1.setNum a 8 (1 + t / 2 ^ 8 * 2 ^ 20))

/-- A leaf entry (Table 7-6); perm holds R, W, X, U and NC from bit 0 on. -/
def leafEntry (pa perm key : Nat) : Nat :=
  3 + 4 * (perm % 16) + 2 ^ 8 * (perm / 16 % 2) + 2 ^ 12 * key + 2 ^ 20 * (pa / 2 ^ 16)

/-- The entry that a walk of a partition's tables ends at: where it lies, its level and its contents. -/
def State.findEntry (s : State) (va : Nat) : Nat → Nat → Nat → Option (Nat × Nat × W64)
  | 0, _, _ => none
  | f + 1, level, table =>
    let a := table + 8 * (va / 2 ^ walkShift level % 2 ^ walkBits level)
    if !s.pageThere (a / pageBytes) then none
    else
      let e : W64 := BitVec.ofNat 64 (s.num a 8)
      if tb e 0 && !tb e 1 && !pteMalformed e level then s.findEntry va f (level + 1) (pteTable e)
      else some (a, level, e)

def State.partEntry (s : State) (p va : Nat) : Option (Nat × Nat × W64) :=
  match s.part? p with
  | some x => s.findEntry va 4 0 x.root
  | none => none

/-- Firmware invalidates in a cluster and waits for what another invalidation still waits for (R233). -/
def State.invalidateNow (s : State) (u : Nat) (x : InvScope) : State :=
  let old := ((s.cluster u).inv.map (·.2)).getD []
  let s := (s.modCluster u fun c => { c with inv := none }).mmuInvalidate u x
  s.modCluster u fun c => { c with inv := c.inv.map fun i => (i.1, i.2 ++ old) }
/-- In every cluster of a partition. -/
def State.invalidatePart (s : State) (p : Nat) (x : InvScope) : State :=
  (s.partClusters p).foldl (fun s u => s.invalidateNow u x) s

/-- The leaf of a partition that covers an address. -/
def Leaf.covers (l : Leaf) (va : Nat) : Bool := decide (l.va ≤ va) && decide (va < l.va + 2 ^ walkShift l.level)
/-- The 64 KiB pages of a leaf. -/
def Leaf.pages (l : Leaf) : List Nat := (List.range (2 ^ (walkShift l.level - 16))).map (l.pa / pageBytes + ·)
/-- Pages of external memory that a partition has mapped; an aperture is none. -/
def Partition.pages (x : Partition) : List Nat := (x.leaves.filter (·.tier != 3)).flatMap Leaf.pages

/-! ### Scrubs (R326) -/

/-- Pages as runs within one memory: first and count. -/
def pageRuns : List Nat → List (Nat × Nat)
  | [] => []
  | p :: l => match pageRuns l with
    | (f, c) :: r => if f = p + 1 ∧ memOfPage f = memOfPage p then (p, c + 1) :: r else (p, 1) :: (f, c) :: r
    | [] => [(p, 1)]

/-- A scrub of pages, split among the engines of their memories: the jobs. Pages that are to be freed belong to their job until it
ends. -/
def State.startScrub (s : State) (pgs : List Nat) (free : Bool) : List Nat × State :=
  (pageRuns pgs).foldl (fun (acc : List Nat × State) (r : Nat × Nat) =>
    let m := memOfPage r.1
    let (id, s) := acc.2.addScrub m (r.1 - (acc.2.pagesOf m).1) r.2
    let mine (g : Nat) : Bool := decide (r.1 ≤ g) && decide (g < r.1 + r.2)
    let s := if free then
        { s with ext := { s.ext with owned := (s.ext.owned.filter fun e => !mine e.1) ++ (List.range r.2).map fun i => (r.1 + i, 65536 + id) } }
      else s
    (acc.1 ++ [id], s)) ([], s)

/-! ### Tiering (R324, R325) -/

/-- Guards, asides and store pages of a page follow its contents to another page. -/
def State.renamePage (s : State) (old new : Nat) : State :=
  let go (g : Nat) : Nat := if g = old then new else g
  let wp (w : Waypoint) : Waypoint := { w with pages := w.pages.map go, store := w.store.map fun e => (go e.1, e.2) }
  { s with
    ext := { s.ext with guards := s.ext.guards.map fun g => (go g.1, g.2), asides := s.ext.asides.map fun a => (go a.1, a.2) }
    parts := s.parts.map fun x => { x with captured := x.captured.map wp, local_ := x.local_.map wp } }

/-- A page moved out is brought back: an HBM page, a copy, and the leaf valid at the new address (R325). The place is firmware's choice
among the partition's home stacks, then the others. -/
def State.bringBack (s : State) (p : Nat) (l : Leaf) (at_ : Nat) (e : W64) (want : Option Nat) : Option State :=
  let (pg, s) := match want with
    | some g => (if s.pageFree g then some g else none, { s with ext := { s.ext with owned := s.ext.owned ++ [(g, p)] } })
    | none => s.allocFrom 1 p ((s.homeStacks (s.partClusters p) ++ s.liveStacks (List.range 24)).map .hbm)
  match pg with
  | none => none
  | some g =>
    let old := l.pa / pageBytes
    let s := (s.copyPage old g).renamePage old g
    let e1 := setFld (setFld (setBit (setBit e 0 true) 9 false) 17 12 0) 55 20 g
    let s := (s.setNum at_ 8 e1.toNat).freePage old
    some (s.modPart p fun x => { x with leaves := x.leaves.map fun y => if y = l then { y with pa := g * pageBytes, out := false } else y })

/-! ### Transfers (R398, R399) -/

/-- Whose addresses a transfer gives: physical ones, or a partition's virtual ones. -/
inductive Space where
  | phys
  | part (p : Nat)
deriving DecidableEq, Repr

/-- Translation through a partition's tables with the rights of an S-mode strand (R229, R399); moved pages come back (R325). -/
def State.partXlate (s : State) (p va : Nat) (write : Bool) : (Nat ⊕ (Nat × Option Nat)) × State :=
  let go (s : State) : (Nat ⊕ (Nat × Option Nat)) × State :=
    match s.partEntry p va with
    | some (_, level, e) =>
      if tb e 0 && !pteMalformed e level && allows e (if write then .store else .load) false && decide (va < 0xFFFF00000000) then
        (.inr (ptePage e + va % 2 ^ walkShift level, some (fld e 17 12)), s)
      else (.inl 1, s)
    | none => (.inl 1, s)
  match s.partEntry p va, (s.part? p).bind fun x => x.leaves.find? fun l => l.out && l.covers va with
  | some (at_, 3, e), some l =>
    if !tb e 0 && tb e 9 then
      (match s.bringBack p l at_ e none with
       | some s1 => go s1
       | none => (.inl 4, s))
    else go s
  | _, _ => go s

def State.place_ (s : State) (w : Space) (a : Nat) (write : Bool) : (Nat ⊕ (Nat × Option Nat)) × State :=
  match w with
  | .phys => (.inr (a, none), s)
  | .part p => s.partXlate p a write

/-- DETAIL of an ERR code (Table 12-5); the table has none for a bank that is not On. -/
def State.detailOf (s : State) (code : Nat) : Nat × State :=
  match code with
  | 2 => (2, s)
  | 4 => (3, s)
  | _ => let (v, s1) := s.fresh; (v % 65536, s1)

/-- How far a transfer has come: requests through apertures (tag, offset, length), bytes read, the first failure (offset, DETAIL). -/
structure Moved where
  asks : List (Nat × Nat × Nat) := []
  data : List (Nat × List Byte) := []
  bad : Option (Nat × Nat) := none
deriving Repr

/-- A request of the Cheter controller through an aperture (R362). -/
def State.askRemote (s : State) (kind : PKind) (pa n : Nat) (b : List Byte) : Nat × State :=
  let (tag, s) := s.newTag
  (tag, s.inject { kind := kind, part := 0xF, dst := s.serverOf epCheter pa, src := epCheter, tag := tag, addr := pa, size := n, payload := b })

/-- One unit of a transfer written. -/
def State.writePiece (s : State) (w : Space) (a off : Nat) (b : List Byte) (m : Moved) : Moved × State :=
  let fail (d : Nat) (s : State) : Moved × State := ({ m with bad := some (off, d) }, s)
  match s.place_ w a true with
  | (.inl d, s1) => fail d s1
  | (.inr (pa, key), s1) =>
    if (match s1.site pa with
        | .hbm _ _ => (s1.aperture pa).isSome
        | _ => false) then
      let (tag, s2) := s1.askRemote .wr pa b.length b
      ({ m with asks := m.asks ++ [(tag, off, b.length)] }, s2)
    else match s1.asidesFor pa b.length with
    | none => fail 4 s1
    | some s2 => match s2.physWrite pa b key with
      | (none, s3) => (m, s3)
      | (some code, s3) => let (d, s4) := s3.detailOf code; fail d s4

/-- One unit of a transfer read. -/
def State.readPiece (s : State) (w : Space) (a off n : Nat) (m : Moved) : Moved × State :=
  let fail (d : Nat) (s : State) : Moved × State := ({ m with bad := some (off, d) }, s)
  match s.place_ w a false with
  | (.inl d, s1) => fail d s1
  | (.inr (pa, key), s1) =>
    if (match s1.site pa with
        | .hbm _ _ => (s1.aperture pa).isSome
        | _ => false) then
      let (tag, s2) := s1.askRemote .rd pa n []
      ({ m with asks := m.asks ++ [(tag, off, n)] }, s2)
    else match s1.physRead pa n key with
      | (.inr b, s2) => ({ m with data := m.data ++ [(off, b)] }, s2)
      | (.inl code, s2) => let (d, s3) := s2.detailOf code; fail d s3

/-- Bytes written from an address on, in units of 64 bytes, up to the first failure. -/
def writeRange (w : Space) : Nat → Nat → Nat → List Byte → Moved → State → Moved × State
  | 0, _, _, _, m, s => (m, s)
  | f + 1, a, off, l, m, s =>
    if l.isEmpty || m.bad.isSome then (m, s)
    else
      let n := 64 - a % 64
      let (m, s) := s.writePiece w a off (l.take n) m
      writeRange w f (a + n) (off + n) (l.drop n) m s

/-- Bytes read likewise. -/
def readRange (w : Space) : Nat → Nat → Nat → Nat → Moved → State → Moved × State
  | 0, _, _, _, m, s => (m, s)
  | f + 1, a, off, len, m, s =>
    if len ≤ off ∨ m.bad.isSome then (m, s)
    else
      let n := min (64 - a % 64) (len - off)
      let (m, s) := s.readPiece w a off n m
      readRange w f (a + n) (off + n) len m s

def State.fwWrite (s : State) (w : Space) (a : Nat) (l : List Byte) : Moved × State := writeRange w (l.length + 1) a 0 l {} s
def State.fwRead (s : State) (w : Space) (a len : Nat) : Moved × State := readRange w (len + 1) a 0 len {} s

/-- The bytes that a command loads by virtual address, as far as they can be read (R446). -/
def State.loadedBytes (s : State) (w : Space) (a len : Nat) : List Byte :=
  assemble len (s.fwRead w a len).1.data

end Sys2Proof.Machine
end

