-- ==== Sys2Proof/Machine/Wire.lean ====
section
/-! DEFINITION. Kilper command packets as they arrive: who issues them, and those that no command of Table 12-6 is spelled by: an unknown
opcode, a wrong length, a reserved field that is not zero, a selector that the table does not list (R391, R392, R400). -/

namespace Sys2Proof.Machine

/-- A row of Table 12-6: opcode, and the sessions that may issue it (Z, O, P). -/
structure Row where
  op : Nat
  z : Bool
  o : Bool
  p : Bool
deriving DecidableEq, Repr

/-- Who issues a command: an operator session, a partition's session, or session 0. -/
inductive Asker where
  | zero
  | operator
  | partition (p : Nat)
deriving DecidableEq, Repr

def Row.allows (r : Row) : Asker → Bool
  | .zero => r.z
  | .operator => r.o
  | .partition _ => r.p

/-- The first of some parameters that is wrong. -/
def firstBad (l : List (Bool × Nat)) : Option Nat := (l.find? (·.1)).map (·.2)

/-! ### Waiting packets (R390, R393) -/

/-- A waiting command packet is this command. -/
def KPkt.isCmd (p : KPkt) (h : KHdr) (op : Nat) : Bool := p.type == 1 && p.tag == h.tag.toNat && p.opcode == op

/-- Packets of a session that are accepted in order and not yet taken up. -/
def State.arrivedOf (s : State) (n : Nat) : List KPkt :=
  if n = 0 then s.host.arrived else ((s.session? n).map (·.arrived)).getD []
def State.setArrived (s : State) (n : Nat) (l : List KPkt) : State :=
  if n = 0 then s.modHost fun h => { h with arrived := l } else s.modSession n fun x => { x with arrived := l }

/-- A packet that no later command of its session waits behind: data, or a command with an execute-at time (R393). -/
def KPkt.passes (p : KPkt) : Bool := p.type != 1 || p.flags.testBit 2

def State.asker? (s : State) (h : KHdr) : Option Asker :=
  if h.session = 0 then some .zero
  else (s.session? h.session.toNat).map fun x => if x.role = 0 then .operator else .partition x.part

/-- A firmware hand-over is under way (R431). -/
def State.handing (s : State) : Bool :=
  match s.sec.hand with
  | .asked => true
  | _ => false

/-- Whether firmware answers commands: from stage 3 on (R435). -/
def State.serving (s : State) : Bool := decide (3 ≤ s.rf Reg.CHT_BOOT Reg.CHT_BOOT.STAGE)

/-! ### The form of a payload (Table 12-6) -/

/-- A big-endian field of a payload. -/
def payNum (p : List Byte) (off n : Nat) : Nat := ofBytesBE ((p.drop off).take n)

/-- The form of a command's payload: its row; the bytes before a list; the bytes of an element of the list that follows, 0 for no list
(1 for bytes of any number); where its count stands; its reserved fields (offset, bytes); values that no command has. -/
structure Form where
  row : Row
  base : Nat
  unit : Nat := 0
  count : Nat := 0
  zero : List (Nat × Nat) := []
  wrong : List Byte → List (Bool × Nat) := fun _ => []

/-- A selector byte above its largest value. -/
def above (off top : Nat) (p : List Byte) : List (Bool × Nat) := [(decide (top < payNum p off 1), off)]

/-- A LAUNCH: MODE, and the fields that must be zero (Table 12-7). -/
def launchWrong (p : List Byte) : List (Bool × Nat) :=
  if payNum p 0 1 = 0 then [(payNum p 6 2 != 0, 6), (24 < p.length, 24)]
  else if payNum p 0 1 = 1 then [(payNum p 1 1 != 0, 1), (payNum p 2 1 != 0, 2), (payNum p 4 2 != 0, 4), (payNum p 8 16 != 0, 8)]
  else [(true, 0)]

/-- A MAP_PAGES: 36 bytes for TIER 3, else 24. -/
def mapWrong (p : List Byte) : List (Bool × Nat) :=
  if payNum p 2 1 = 3 then [(p.length != 36, min p.length 36), (payNum p 34 2 != 0, 34)] else [(p.length != 24, 24)]

/-- The forms of Table 12-6, by opcode. -/
def formOf (op : Nat) : Option Form :=
  let f (z o p : Bool) (base : Nat) : Form := { row := ⟨op, z, o, p⟩, base := base }
  match op with
  | 0x01 => some (f true true true 0)
  | 0x02 => some (f true false false 32)
  | 0x03 => some (f false true true 0)
  | 0x10 => some (f true true true 0)
  | 0x11 => some (f false true true 0)
  | 0x20 | 0x21 => some (f false true true 16)
  | 0x22 => some (f false true true 24)
  | 0x23 => some (f false true true 12)
  | 0x30 => some { f false true false 8 with zero := [(1, 1)] }
  | 0x31 => some (f false true false 1)
  | 0x32 => some { f false true false 24 with unit := 1, zero := [(17, 3)], wrong := mapWrong }
  | 0x33 => some { f false true false 16 with zero := [(2, 2)] }
  | 0x40 => some { f false false true 24 with zero := [(2, 2)] }
  | 0x41 => some (f false true true 12)
  | 0x42 => some { f false false true 8 with unit := 16, count := 5, zero := [(6, 2)] }
  | 0x43 => some { f false false true 24 with unit := 8, count := 6, zero := [(3, 1)], wrong := launchWrong }
  | 0x44 => some { f false true true 12 with zero := [(5, 3)], wrong := above 4 1 }
  | 0x45 => some { f false true true 16 with zero := [(5, 3)], wrong := above 4 1 }
  | 0x50 => some (f false true true 1)
  | 0x51 => some { f false true true 16 with zero := [(1, 7)] }
  | 0x52 => some (f false true true 1)
  | 0x53 => some (f false true false 2)
  | 0x60 => some (f true true true 0)
  | 0x61 => some { f false true true 8 with zero := [(1, 1)], wrong := above 0 1 }
  | 0x70 => some { f true true true 0 with unit := 1 }
  | 0x71 => some { f false true false 4 with unit := 1, zero := [(2, 2)], wrong := above 0 2 }
  | 0x72 => some { f false true false 2 with wrong := above 0 2 }
  | 0x80 => some (f false true false 4)
  | 0x81 => some (f false true false 2)
  | 0x82 => some { f true true false 8 with zero := [(1, 3)] }
  | 0x90 => some (f false true false 3)
  | 0x91 => some (f false true false 12)
  | 0x92 => some { f false true false 12 with unit := 1, count := 8 }
  | 0x93 => some { f false true false 24 with zero := [(5, 3), (20, 4)] }
  | 0x94 => some { f false true true 4 with unit := 8, count := 0, zero := [(2, 2)] }
  | 0xA0 => some (f false true false 16)
  | 0xA1 => some (f false true false 20)
  | 0xA2 => some (f false true false 1)
  | _ => none

/-- What is wrong with a payload's form: the lowest offset. -/
def Form.badAt (f : Form) (p : List Byte) : Option Nat :=
  let len := p.length
  let short : List (Bool × Nat) :=
    [(decide (len < f.base), len), (f.unit == 0 && decide (f.base < len), f.base),
      (decide (1 < f.unit) && decide (f.base ≤ len) && (len - f.base) % max f.unit 1 != 0, f.count)]
  let zeros := f.zero.map fun z => (payNum p z.1 z.2 != 0, z.1)
  let offs := ((short ++ zeros ++ f.wrong p).filter (·.1)).map (·.2)
  offs.foldl (fun b x => match b with
    | none => some x
    | some y => some (min x y)) none

/-- Whether session 0 may issue a command now (R386, Table 12-6). -/
def State.zeroAllows (s : State) (op : Nat) : Bool := op != 0x82 || decide (s.sec.lifecycle ≤ 1)

/-- The answer to a command packet that spells no command; none when it spells one (R392). -/
def State.wireBad (s : State) (w : Asker) (p : KPkt) : Option (Nat × Nat) :=
  match formOf p.opcode with
  | none => some (0x100, 0)
  | some f =>
    if (f.badAt p.payload).isNone && !(p.opcode == 0x82 && (payNum p.payload 0 1 == 0 || decide (3 < payNum p.payload 0 1))) then none
    else if !f.row.allows w || (w == .zero && !s.zeroAllows p.opcode) then some (0x300, 0)
    else match f.badAt p.payload with
      | some d => some (0x101, d)
      | none => some (0x300, 0)

/-- The header of a waiting packet. -/
def KPkt.hdr (p : KPkt) (n : Nat) : KHdr := ⟨BitVec.ofNat 32 n, BitVec.ofNat 16 p.tag, none⟩

/-- Command packets of a session whose turn has come and that spell no command are answered (R392, R393). -/
def settleFrom (n : Nat) (w : Asker) : Nat → State → State
  | 0, s => s
  | f + 1, s =>
    let l := s.arrivedOf n
    match l.findIdx? fun p => p.type == 1 && (s.wireBad w p).isSome with
    | none => s
    | some j => match l[j]? with
      | none => s
      | some p =>
        if !(l.take j).all KPkt.passes then s
        else match s.wireBad w p with
          | none => s
          | some (st, d) => settleFrom n w f ((s.setArrived n (l.eraseIdx j)).reply (p.hdr n) p.opcode 0 st d [])

def State.settleHeads (s : State) (n : Nat) : State :=
  if !s.serving || s.handing then s
  else match s.asker? ⟨BitVec.ofNat 32 n, 0, none⟩ with
    | none => s
    | some w => settleFrom n w (s.arrivedOf n).length s

end Sys2Proof.Machine
end

