-- ==== Sys2Proof/Machine/Command.lean ====
section
/-! DEFINITION. How Cheter firmware takes up a Kilper command: its session, its turn, the checks in their order, execute-at times, and its
replies (R386, R387, R390 to R397, R400, R414, R431). -/

namespace Sys2Proof.Machine

/-! ### Turns and checks -/

/-- A command whose turn has come: its header, its opcode, the flags of its replies (Table 12-3) and who issues it. -/
structure Turn where
  h : KHdr
  op : Nat
  flags : Nat
  who : Asker
deriving DecidableEq, Repr

/-- What the checks of R392 find, with DETAIL for a bad parameter. -/
structure Checks where
  denied : Bool := false
  bad : Option Nat := none
  auth : Bool := false
  absent : Bool := false
  taken : Bool := false
  busy : Bool := false
deriving DecidableEq, Repr

/-- The first failure, in the order of R392; an open or a key that is not authorised comes behind the parameters. -/
def Checks.first (c : Checks) : Option (Nat × Nat) :=
  if c.denied then some (0x300, 0)
  else match c.bad with
  | some d => some (0x101, d)
  | none =>
    if c.auth then some (0x301, 0)
    else if c.absent then some (0x201, 0)
    else if c.taken then some (0x500, 0)
    else if c.busy then some (0x200, 0)
    else none

/-- A command: its row, the partition that its operands name, its checks, what it does, and the counters that an alarm can serve when it
is scheduled (R414). -/
structure Cmd where
  row : Row
  acts : State → Option Nat := fun _ => none
  chk : Turn → State → Checks := fun _ _ => {}
  run : Turn → State → State
  /-- Whether all of it has come: the data packets of its transfer (R398). -/
  ready : Bool := true
  alarms : List (Nat × Nat) := []
  /-- It may be answered while a hand-over runs (R444, R457). -/
  always : Bool := false

def Asker.part? : Asker → Option Nat
  | .partition p => some p
  | _ => none
/-- Whether a partition number is the asker's own, or the asker is the operator. -/
def Asker.mayName (w : Asker) (p : Nat) : Bool :=
  match w with
  | .operator => true
  | .partition q => p == q
  | .zero => false

/-- Addresses of a MEM command (R399). -/
def Asker.space : Asker → Space
  | .partition p => .part p
  | _ => .phys

/-! ### Replies -/

def State.answer (s : State) (t : Turn) (status detail : Nat) (data : List Byte) : State := s.reply t.h t.op t.flags status detail data

/-- OK, or REDUCED_SERVICE when a cluster that it used runs in reduced service (R395). -/
def State.okStatus (s : State) (us : List Nat) : Nat := if us.any s.cluReduced then 0x202 else 0
def State.ok (s : State) (t : Turn) (us : List Nat) (data : List Byte) : State := s.answer t (s.okStatus us) 0 data

/-- ACCEPTED, unless the command was answered so when it was scheduled (R394). -/
def State.accept (s : State) (t : Turn) : State := if t.flags.testBit 3 then s else s.answer t 1 0 []
/-- ACCEPTED, and the last reply follows when the work has ended. -/
def State.acceptHold (s : State) (t : Turn) (w : KAwait) : State := (s.accept t).hold t.h t.op (t.flags ||| 8) w

/-- A transfer has run: its reply, or it waits for answers through apertures. -/
def State.finishTransfer (s : State) (t : Turn) (read : Bool) (len : Nat) (m : Moved) : State :=
  if m.asks.isEmpty then
    let (status, detail, before, reply) := transferEnd t.op len read m.data m.bad
    (s.sendData t.h t.op before).answer t status detail reply
  else s.hold t.h t.op t.flags (.remote read len m.asks m.data m.bad)

/-- The session number of a turn, for measurements (R447). -/
def Turn.num (t : Turn) : Nat := t.h.session.toNat

/-! ### Turns (R390, R393) -/

/-- Whether a command's turn has come: no command of its session stands before it that holds it back. -/
def State.itsTurn (s : State) (h : KHdr) (op : Nat) : Bool :=
  let l := s.arrivedOf h.session.toNat
  h.session == 0 || !(l.any (·.isCmd h op)) || (l.takeWhile fun p => !p.isCmd h op).all KPkt.passes

/-- The packet of a command that starts is taken up, with the data packets of its transfer. -/
def State.takeUp (s : State) (h : KHdr) (op : Nat) : State :=
  let n := h.session.toNat
  let l := s.arrivedOf n
  let l := match l.findIdx? (·.isCmd h op) with
    | some j => l.eraseIdx j
    | none => l
  s.setArrived n (l.filter fun p => !(p.type == 3 && p.tag == h.tag.toNat && p.opcode == op))

/-! ### Execute-at times (R396, R397) -/

/-- The network time that EXEC names, in ns. -/
def State.execNs (s : State) (e : W64) : Nat :=
  let n := s.time.sec
  let b := n / 2 ^ 32 * 2 ^ 32 + fld e 63 32
  let sec := if b + 2 ^ 31 < n then b + 2 ^ 32 else if n + 2 ^ 31 < b ∧ 2 ^ 32 ≤ b then b - 2 ^ 32 else b
  sec * 1000000000 + fld e 31 0

/-- EXEC is wrong: nanoseconds above 999,999,999, or more than 86,400 s ahead. -/
def State.execBad (s : State) (e : W64) : Bool :=
  decide (999999999 < fld e 31 0) || decide (s.time.inNs + 86400 * 1000000000 < s.execNs e)

/-- LATE and UNLOCKED of a command that starts now (Table 12-3). -/
def State.lockFlag (s : State) : Nat := if s.rf Reg.TIME_STAT Reg.TIME_STAT.LOCK = 2 then 0 else 32

/-- Alarms that are free (R414). -/
def State.freeAlarms (s : State) : List Nat :=
  (List.range 64).filter fun n => !s.rbit (Reg.TIME_ALA n) Reg.TIME_ALA.EN && !s.host.scheduled.any (·.alarms.contains n)

/-- An alarm armed (R414). -/
def State.armAlarm (s : State) (n : Nat) (act : Bool) (ctr amt : Nat) (at_ : W64) : State :=
  let a := Reg.TIME_ALA n
  (((s.setRf a Reg.TIME_ALA.ACT (bit act)).setRf a Reg.TIME_ALA.N ctr).setRf a Reg.TIME_ALA.AMT amt).setReg (Reg.TIME_ALB n) at_
    |>.setRf a Reg.TIME_ALA.EN 1

/-- A command waits for its time: alarms serve its counters when enough of them are free (R414). -/
def State.schedule (s : State) (i : Instr) (c : Cmd) (t : Turn) (e : W64) : State :=
  let al := if c.alarms.isEmpty then [] else s.freeAlarms.take c.alarms.length
  let al := if al.length = c.alarms.length then al else []
  let s := (al.zip c.alarms).foldl (fun s (x : Nat × Nat × Nat) => s.armAlarm x.1 true x.2.1 x.2.2 e) s
  (s.modHost fun h => { h with scheduled := h.scheduled ++ [⟨i, t.num, t.op, t.h.tag.toNat, e, al⟩] }).answer t 1 0 []

/-! ### Starting -/

/-- A command that acts on a stopped partition starts when the partition goes on (R418). -/
def State.stopped (s : State) (p : Option Nat) : Bool :=
  match p with
  | some p => (s.part? p).any fun x => x.stop != .none
  | none => false

/-- Limits on a session's and the device's commands (R392). -/
def State.full (s : State) (t : Turn) : Bool := ((s.session? t.num).map (fun x => decide (64 ≤ x.running.length))).getD false

/-- The checks of a command that is to start now, and its effect; none while its data has not all come. -/
def State.startChecked (s : State) (t : Turn) (c : Cmd) : Option State :=
  let k := c.chk t s
  match { k with denied := k.denied || !c.row.allows t.who, busy := k.busy || s.full t }.first with
  | some (st, d) => some (s.answer t st d [])
  | none => if c.ready then some (c.run t s) else none

/-- A command is taken up (R386, R390 to R397). Its own reply, on session 0, when its session is not open. -/
def State.takeCommand (s : State) (h : KHdr) (i : Instr) (c : Cmd) : State :=
  if !s.serving || (s.handing && !c.always) || !s.itsTurn h c.row.op then s
  else match s.asker? h with
  | none => s.reply { h with session := 0 } c.row.op 0 0x201 0 []
  | some w =>
    if s.stopped w.part? || s.stopped (c.acts s) then s
    else
      let s0 := s
      let s := s.takeUp h c.row.op
      let t : Turn := ⟨h, c.row.op, s.lockFlag, w⟩
      match h.exec with
      | none => (s.startChecked t c).getD s0
      | some e =>
        let k := c.chk t s
        if !c.ready then s0
        else if k.denied || !c.row.allows w then s.answer t 0x300 0 []
        else if s.execBad e then let (d, s) := s.fresh; s.answer t 0x101 (d % 65536) []
        else if s.time.now < s.execNs e * 2 ^ 32 then
          (match { k with busy := k.busy || decide (4096 ≤ s.host.scheduled.length) }.first with
           | some (st, d) => s.answer { t with flags := 0 } st d []
           | none => s.schedule i c { t with flags := 0 } e)
        else (s.startChecked { t with flags := t.flags ||| 16 } c).getD s0

/-- A command is taken up, and after it packets that name no command and stand first. -/
def State.perform (s : State) (h : KHdr) (i : Instr) (c : Cmd) : State := (s.takeCommand h i c).settleHeads h.session.toNat

/-! ### Ends of sessions (R390) -/

/-- The alarms of a scheduled command are disarmed. -/
def State.disarm (s : State) (x : Sched) : State := x.alarms.foldl (fun s n => s.setRf (Reg.TIME_ALA n) Reg.TIME_ALA.EN 0) s

/-- A scheduled command that has not started is cancelled: its last reply is FAULT with DETAIL 0x0005. -/
def State.cancelSched (s : State) (x : Sched) : State :=
  ((s.disarm x).modHost fun h => { h with scheduled := h.scheduled.erase x }).reply
    ⟨BitVec.ofNat 32 x.session, BitVec.ofNat 16 x.tag, none⟩ x.opcode 8 0x400 5 []

/-- Packets of a session that still wait for its window leave, once. -/
def State.flush (s : State) (n : Nat) : State :=
  match s.session? n with
  | none => s
  | some x => (x.txq.foldl (fun s q => State.transmit x.peer (x.stamp q.p) s) s).modSession n fun x => { x with txq := [] }

/-- A pending WAIT_COUNTER is withdrawn, and the takers behind its waiter are served. -/
def State.withdrawWait (s : State) (w : KWait) : State :=
  ({ s with waiters := s.waiters.filter fun x => !(x.src == epCheter && x.tag == w.wtag) }.modHost fun h =>
    { h with waits := h.waits.filter (· != w) }).serveWaiters w.ctr

/-- A session ends: scheduled commands are cancelled, waits withdrawn, `own` is its own last reply, and the mailbox places that its packets
still hold are released. -/
def State.closeSession (s : State) (n : Nat) (own : State → State) : State :=
  let s := (s.host.scheduled.filter (·.session == n)).foldl (fun s x => s.cancelSched x) s
  let s := (s.host.waits.filter fun w => w.h.session.toNat == n).foldl (fun s w => s.withdrawWait w) s
  let s := own s
  let places := ((s.session? n).map fun x => (x.unacked ++ x.txq).filterMap (·.place)).getD []
  let s := (s.flush n).modHost fun h => { h with
    sessions := h.sessions.filter (·.num != n), closed := h.closed ++ [(n, s.time.inNs)], mailbox := h.mailbox.filter (·.2 != n) }
  places.foldl (fun s (p : Nat × Nat) => s.mailRelease p.1 p.2) s

end Sys2Proof.Machine
end

