-- ==== Sys2Proof/Machine/Transfer.lean ====
section
/-! DEFINITION. MEM_WRITE, MEM_READ, MEM_FILL and SCRUB (R326, R398, R399). -/

namespace Sys2Proof.Machine

/-- A range of physical addresses that touches register space (R399). -/
def touchesRegs (a n : Nat) : Bool := decide (a < 2 ^ 52) && decide (0xF000000000000 < a + max n 1)
/-- An operator's ADDR in register space. -/
def badAddr (t : Turn) (a n : Nat) : Bool :=
  match t.who with
  | .partition _ => false
  | _ => touchesRegs a n

/-- Data packets of a transfer: some byte is covered twice, or lies beyond LENGTH (R398). -/
def dataBad (len : Nat) (d : List (BitVec 64 × List Byte)) : Bool :=
  d.any (fun x => decide (len < x.1.toNat + x.2.length))
    || !decide ((d.filter (!·.2.isEmpty)).Pairwise fun x y => x.1.toNat + x.2.length ≤ y.1.toNat ∨ y.1.toNat + y.2.length ≤ x.1.toNat)
/-- The bytes that data packets carry. -/
def dataBytes (d : List (BitVec 64 × List Byte)) : Nat := d.foldl (fun n x => n + x.2.length) 0

/-- Packets that do not cover a transfer exactly make it fail; while bytes are missing and none is wrong, the command waits. -/
def dataReady (len : Nat) (d : List (BitVec 64 × List Byte)) : Bool := dataBad len d || dataBytes d == len

def cmdMemWrite (addr len : BitVec 64) (d : List (BitVec 64 × List Byte)) : Cmd :=
  { row := ⟨0x20, false, true, true⟩
    chk := fun t _ => { bad := firstBad [(badAddr t addr.toNat len.toNat, 0), (len == 0 || decide (2 ^ 30 < len.toNat), 8)] }
    ready := dataReady len.toNat d
    run := fun t s =>
      if dataBad len.toNat d then s.answer t 0x101 0 []
      else
        let (m, s) := s.fwWrite t.who.space addr.toNat (assemble len.toNat (d.map fun x => (x.1.toNat, x.2)))
        s.finishTransfer t false len.toNat m }

def cmdMemRead (addr len : BitVec 64) : Cmd :=
  { row := ⟨0x21, false, true, true⟩
    chk := fun t _ => { bad := firstBad [(badAddr t addr.toNat len.toNat, 0), (len == 0 || decide (2 ^ 30 < len.toNat), 8)] }
    run := fun t s =>
      let (m, s) := s.fwRead t.who.space addr.toNat len.toNat
      s.finishTransfer t true len.toNat m }

def cmdMemFill (addr len pattern : BitVec 64) : Cmd :=
  { row := ⟨0x22, false, true, true⟩
    chk := fun t _ => { bad := firstBad [(badAddr t addr.toNat len.toNat || addr.toNat % 8 != 0, 0), (len.toNat % 8 != 0, 8)] }
    run := fun t s =>
      let (m, s) := s.fwWrite t.who.space addr.toNat (List.replicate (len.toNat / 8) (toBytes 8 pattern.toNat)).flatten
      s.finishTransfer t false len.toNat m }

/-! ### SCRUB -/

/-- The pages of a SCRUB as physical pages; DETAIL where a page does not translate. -/
def scrubTargets (w : Space) : Nat → Nat → State → (Nat ⊕ List Nat) × State
  | 0, _, s => (.inr [], s)
  | f + 1, a, s => match s.place_ w a true with
    | (.inl d, s1) => (.inl d, s1)
    | (.inr (pa, _), s1) => match scrubTargets w f (a + pageBytes) s1 with
      | (.inl d, s2) => (.inl d, s2)
      | (.inr l, s2) => (.inr (pa / pageBytes :: l), s2)

/-- Pages of an operator's SCRUB. -/
def scrubPhys (addr : BitVec 64) (pages : BitVec 32) : List Nat := (List.range pages.toNat).map (addr.toNat / pageBytes + ·)

/-- Whether a page lies in the windows of external memory. -/
def extPage (pg : Nat) : Bool := decide (pg < 2 ^ 33)

def cmdScrub (addr : BitVec 64) (pages : BitVec 32) : Cmd :=
  { row := ⟨0x23, false, true, true⟩
    chk := fun t s =>
      let l := match t.who with
        | .partition _ => []
        | _ => scrubPhys addr pages
      { bad := firstBad [(addr.toNat % pageBytes != 0 || l.any fun g => !extPage g, 0)]
        absent := l.any fun g => !s.pageThere g
        taken := l.any fun g => s.ext.owned.any (·.1 == g) }
    run := fun t s =>
      match scrubTargets t.who.space pages.toNat addr.toNat s with
      | (.inl d, s) => s.answer t 0x400 d []
      | (.inr l, s) =>
        if l.any fun g => !extPage g then s.answer t 0x101 0 []
        else if l.any fun g => !s.pageThere g then s.answer t 0x201 0 []
        else
          let s := s.accept t
          let (jobs, s) := s.startScrub l false
          if jobs.isEmpty then s.answer { t with flags := t.flags ||| 8 } 0 0 [] else s.hold t.h t.op (t.flags ||| 8) (.scrub jobs) }

/-! ### Commands -/

/-- MEM_WRITE (R398, R399). -/
def execMemWrite (h : KHdr) (addr len : BitVec 64) (data : List (BitVec 64 × List Byte)) (s : State) : Out :=
  .next (s.perform h (.memWrite h addr len data) (cmdMemWrite addr len data))
/-- MEM_READ (R398, R399). -/
def execMemRead (h : KHdr) (addr len : BitVec 64) (s : State) : Out := .next (s.perform h (.memRead h addr len) (cmdMemRead addr len))
/-- MEM_FILL (R399). -/
def execMemFill (h : KHdr) (addr len pattern : BitVec 64) (s : State) : Out :=
  .next (s.perform h (.memFill h addr len pattern) (cmdMemFill addr len pattern))
/-- SCRUB (R326). -/
def execScrub (h : KHdr) (addr : BitVec 64) (pages : BitVec 32) (s : State) : Out :=
  .next (s.perform h (.scrub h addr pages) (cmdScrub addr pages))

end Sys2Proof.Machine
end

