-- ==== Sys2Proof/Machine/Partitions.lean ====
section
/-! DEFINITION. Partitions, their pages, tiering and page retirement (R20 to R25, R305, R313, R318, R324 to R326, R362, R416, R446, R462,
R463). -/

namespace Sys2Proof.Machine

/-! ### Stopping (R24, R427, R434) -/

/-- A strand goes Off: it gives up what it waits for, and its registers keep their values. -/
def Strand.stopped (x : Strand) : Strand :=
  {
    x.flushModes.stopTile with
    run := .off, delay := none, micro := none, send := none, syncOp := none, waitFrom := none, exiting := false, haltReq := false
  }
def State.stopStrand (s : State) (k i : Nat) : State := (s.giveUp k i).modStrand k i Strand.stopped

/-- The strands of a core stop, and the waits that they have asked for are withdrawn. -/
def State.stopCore (s : State) (k : Nat) : State :=
  let s := (List.range 4).foldl (fun s i => s.stopStrand k i) s
  { s with waiters := s.waiters.filter fun w => match w.own, w.ctr with
    | some _, .core c _ => c != k
    | _, _ => w.src != epCore k }

/-- Every DMA channel of a cluster is disabled (R294, R425). -/
def State.disableChannels (s : State) (u : Nat) : State := (List.range 64).foldl (fun s n => s.channelDisable u n) s

/-- A cluster's cores and channels stop. -/
def State.stopCluster (s : State) (u : Nat) : State := ((clusterCores u).foldl (fun s k => s.stopCore k) s).disableChannels u

/-! ### PART_CREATE (R20 to R22, R25, R416) -/

/-- The clusters that a mask names. -/
def maskClusters (m : BitVec 16) : List Nat := (List.range 12).filter fun u => m.getLsbD u

/-- A cluster's reserve: 96 MiB on each of its live home stacks (R418); none when a stack has no room. -/
def State.takeReserve (s : State) (p u : Nat) : Option (List Nat × State) :=
  (s.homeStacks [u]).foldl (fun r n => r.bind fun (l, s) =>
    match s.allocRun (.hbm n) 1536 p with
    | (some g, s1) => some (l ++ (List.range 1536).map (g + ·), s1)
    | (none, _) => none) (some ([], s))

/-- The next multiple of an interval in ms of network time. -/
def State.nextMs (s : State) (interval : Nat) : Nat := (s.time.inNs / 1000000 / interval + 1) * interval

/-- A cluster that has joined a partition starts: its MMU holds the partition's root (R22, R31). -/
def State.joinCluster (s : State) (p root u : Nat) : State :=
  let s := ((s.assign u p).setRf (Reg.MMU_ROOT u) Reg.MMU_ROOT.ROOT (root / 4096)).setRf (Reg.MMU_ROOT u) Reg.MMU_ROOT.EN 1
  (s.setClu u 1).setRf Reg.ID_CLU_STATE ⟨5 * u + 4, 5 * u + 4⟩ (bit (s.rf Reg.CHT_BOOT Reg.CHT_BOOT.STAGE == 4))

/-- The waypoint registers of a new partition. -/
def State.startWaypoints (s : State) (p interval : Nat) : State :=
  let a := Reg.TIME_WPA p
  (((((s.setRf a Reg.TIME_WPA.EN 1).setRf a Reg.TIME_WPA.STATE 0).setRf a Reg.TIME_WPA.DEFER 0).setRf a Reg.TIME_WPA.MIR 0).setRf a
    Reg.TIME_WPA.INTERVAL interval).setReg (Reg.TIME_WPB p) 0 |>.setReg (Reg.TIME_WPC p) 0

/-- A partition slot is set to zero (R446). -/
def State.clearSlot (s : State) (p : Nat) : State := { s with sec := { s.sec with ms := vset s.sec.ms (4 + p) 0 } }

/-- The partition comes into being: page tables, reserves, registers; none when memory has no room for them. -/
def State.createPart (s : State) (p : Nat) (us : List Nat) (interval : Nat) : Option State :=
  let s := { s with parts := s.parts ++ [({ num := p, clusters := us, nextDue := s.nextMs interval } : Partition)] }
  match s.newTable p 0 with
  | none => none
  | some (root, s) =>
    (us.foldl (fun r u => r.bind fun (l, s) => (s.takeReserve p u).map fun (m, s1) => (l ++ m, s1)) (some ([], s))).map fun (l, s) =>
      let s := us.foldl (fun s u => s.joinCluster p root u) (s.modPart p fun x => { x with reserve := l })
      let s := (s.startWaypoints p interval).clearSlot p
      { s with sec := { s.sec with pgen := vset s.sec.pgen p (vget s.sec.pgen p + 1) } }

def cmdPartCreate (part : BitVec 8) (clusters : BitVec 16) (interval : BitVec 32) : Cmd :=
  let us := maskClusters clusters
  let ms := if interval = 0 then 1000 else interval.toNat
  { row := ⟨0x30, false, true, false⟩
    chk := fun _ s =>
      { bad := firstBad [(decide (11 < part.toNat), 0), (us.isEmpty || decide (0x1000 ≤ clusters.toNat), 2),
          (decide (ms < 100) || decide (60000 < ms), 4)]
        absent := us.any s.cluRetired
        taken := (s.part? part.toNat).isSome || us.any fun u => s.partOf u != 0xF }
    run := fun t s =>
      match s.createPart part.toNat us ms with
      | none => s.answer t 0x400 4 []
      | some s =>
        (s.measure 0x30 3 t.num (toBytesBE 1 part.toNat ++ toBytesBE 1 0 ++ toBytesBE 2 clusters.toNat ++ toBytesBE 4 interval.toNat) none).ok
          t us [] }

/-! ### PART_DESTROY (R24) -/

/-- Steps 1 to 4: strands stop, scheduled commands are cancelled, sessions close, the scrub of every mapped page begins. `open_` is the
session that asked for it, which an operator's is not. -/
def State.beginDestroy (s : State) (p : Nat) : State :=
  match s.part? p with
  | none => s
  | some x =>
    let s := x.clusters.foldl (fun s u => (s.stopCluster u).setClu u 3) s
    let s := (s.host.sessions.filter fun y => y.role != 0 && y.part == p).foldl (fun s y => s.closeSession y.num fun s => s) s
    let (jobs, s) := s.startScrub x.pages false
    s.modPart p fun x => { x with dying := some jobs }

/-- An aperture is closed, and its pages are free again. -/
def State.closeAperture (s : State) (a : Nat) : State :=
  let lo := s.rf (Reg.TRL_APTA a) Reg.TRL_APTA.BASE
  let n := s.rf (Reg.TRL_APTB a) Reg.TRL_APTB.PAGES
  let s := s.setRf (Reg.TRL_APTA a) Reg.TRL_APTA.EN 0
  { s with ext := { s.ext with owned := s.ext.owned.filter fun e => !(decide (lo ≤ e.1) && decide (e.1 < lo + n)) } }

/-- The store pages of a waypoint. -/
def Waypoint.storePages (w : Waypoint) : List Nat := w.store.map (·.2)

/-- Steps 5 and 6: pages are unmapped, tags released, clusters Off and then unassigned (R31). -/
def State.finishDestroy (s : State) (p : Nat) : State :=
  match s.part? p with
  | none => s
  | some x =>
    let s := (x.leaves.filterMap (·.apt)).foldl (fun s a => s.closeAperture a) s
    let store := ((x.captured.map (·.storePages)).getD []) ++ ((x.local_.map (·.storePages)).getD [])
    let s := s.freePages (x.pages ++ x.reserve ++ store ++ x.tables)
    let s := x.clusters.foldl (fun s u =>
      if s.cluRetired u then s
      else ((s.invalidateNow u none).setRf (Reg.MMU_ROOT u) Reg.MMU_ROOT.EN 0 |>.setRf Reg.ID_CLU_STATE ⟨5 * u + 4, 5 * u⟩ 0).assign u 0xF) s
    let s := (s.setRf (Reg.TIME_WPA p) Reg.TIME_WPA.EN 0).clearSlot p
    let net := s.net
    { s with
      parts := s.parts.filter (·.num != p)
      net := { net with paused := net.paused.filter fun u => !x.clusters.contains u }
      ext := { s.ext with guards := s.ext.guards.filter (·.2 != p), asides := s.ext.asides.filter (·.2.2 != p) } }

/-- What another pending command waits for goes with a partition. -/
def KAwait.ofPart (w : KAwait) (x : Partition) : Bool :=
  match w with
  | .waypoint p _ | .restore p => p == x.num
  | .cluster u => x.clusters.contains u
  | _ => false

/-- A partition whose scrub has ended is gone, and the command that asked for it is answered; a command that waits for something of the
partition fails. -/
def State.settleDestroy (s : State) : State :=
  (s.parts.filter fun x => x.dying == some []).foldl (fun s x =>
    let s := s.finishDestroy x.num
    let s := (s.host.pending.filter (·.what.ofPart x)).foldl (fun s k => s.endPending k 0x400 7 []) s
    (s.host.pending.filter fun k => k.what == .destroy x.num).foldl (fun s k =>
      (s.measure 0x31 3 k.h.session.toNat (toBytesBE 1 x.num) none).endPending k 0 0 []) s) s

def cmdPartDestroy (part : BitVec 8) : Cmd :=
  { row := ⟨0x31, false, true, false⟩
    acts := fun _ => some part.toNat
    chk := fun _ s =>
      { bad := firstBad [(decide (11 < part.toNat), 0)]
        absent := (s.part? part.toNat).isNone
        taken := (s.part? part.toNat).any fun x => x.dying.isSome }
    run := fun t s => ((s.acceptHold t (.destroy part.toNat)).beginDestroy part.toNat).settleDestroy }

/-- An engine finishes its scrub (R326): pages that were scrubbed to be freed are free, and commands that waited for it are answered. -/
def State.scrubComplete (s : State) (m : ExtMem) : State :=
  match s.scrubEnd m with
  | none => s
  | some (id, s) =>
    let s := s.freePages ((s.ext.owned.filter (·.2 == 65536 + id)).map (·.1))
    let s := { s with parts := s.parts.map fun (x : Partition) => { x with dying := x.dying.map fun (l : List Nat) => l.erase id } }
    let wait (k : KPending) : Option KPending := match k.what with
      | .scrub jobs => if jobs.contains id then some { k with what := .scrub (jobs.erase id) } else none
      | _ => none
    let s := s.modHost fun h => { h with pending := h.pending.map fun k => (wait k).getD k }
    let s := (s.host.pending.filter (·.what == .scrub [])).foldl (fun s k => s.endPending k 0 0 []) s
    s.settleDestroy

/-! ### MAP_PAGES (R305, R362, R463) -/

/-- The memories of page j of a region, best first. -/
def State.tierMems (s : State) (us : List Nat) (tier rotation j : Nat) : List ExtMem :=
  let turn (l : List ExtMem) : List ExtMem := (l.drop (j % l.length)).take 1
  match tier with
  | 0 => turn ((s.homeStacks us).map .hbm)
  | 1 =>
    turn (((s.liveStacks (List.range 24)).filter fun n => rotation = 0 ∨ rotation.testBit n).map .hbm)
  | _ => let l := (s.homeChannels us).map ExtMem.ddr; l.drop (j % l.length) ++ l.take (j % l.length)

/-- A leaf written in a partition's tables, and in the list of its leaves. -/
def State.putLeaf (s : State) (p : Nat) (l : Leaf) (entry : Nat) : Option State :=
  match s.part? p with
  | none => none
  | some x => (State.entryAt p l.va l.level 4 0 x.root s).map fun (a, s) =>
      (s.setNum a 8 entry).modPart p fun x => { x with leaves := x.leaves ++ [l] }

/-- Pages of a TIER 0, 1 or 2 region taken and mapped, leaf by leaf; DDR5 pages are scrubbed under their new tag (R463). -/
def State.mapRegion (p : Nat) (us : List Nat) (o : MapOp) (level : Nat) : Nat → Nat → State → Option State
  | 0, _, s => some s
  | f + 1, j, s =>
    let k := 2 ^ (walkShift level - 16)
    match s.allocFrom k p (s.tierMems us o.tier.toNat o.rotation.toNat j) with
    | (none, _) => none
    | (some pg, s) =>
      let s := if o.tier = 2 then
          (List.range k).foldl (fun s i => (s.tagPage (pg + i) (some o.key.toNat)).zeroPage (pg + i)) s
        else s
      match s.putLeaf p ⟨o.va.toNat + j * 2 ^ walkShift level, level, pg * pageBytes, o.tier.toNat, false, none⟩
          (leafEntry (pg * pageBytes) o.perm.toNat (if o.tier = 2 then o.key.toNat else 0)) with
      | none => none
      | some s => State.mapRegion p us o level f (j + 1) s

/-- An aperture set up and mapped (R362): HBM addresses of one live stack set aside and bound to a remote window. -/
def State.mapAperture (s : State) (p : Nat) (us : List Nat) (o : MapOp) (x : AptOp) (level : Nat) : Option State :=
  let k := 2 ^ (walkShift level - 16)
  let n := o.count.toNat * k
  match s.allocFrom n 15 ((s.homeStacks us ++ s.liveStacks (List.range 24)).map .hbm) with
  | (none, _) => none
  | (some pg, s) =>
    let a := x.apt.toNat
    let ra := Reg.TRL_APTA a
    let rb := Reg.TRL_APTB a
    let rc := Reg.TRL_APTC a
    let s := ((((s.setRf ra Reg.TRL_APTA.KIND x.kind.toNat).setRf ra Reg.TRL_APTA.ROLL x.roll.toNat).setRf ra Reg.TRL_APTA.GV x.gv.toNat).setRf
      ra Reg.TRL_APTA.PART p).setRf ra Reg.TRL_APTA.BASE pg
    let s := (((s.setRf rb Reg.TRL_APTB.PAGES n).setRf rb Reg.TRL_APTB.DDEV x.ddev.toNat).setRf rb Reg.TRL_APTB.WIN x.win.toNat).setRf
      rb Reg.TRL_APTB.EPOCH x.epoch.toNat
    let s := ((s.setRf rc Reg.TRL_APTC.WOFF x.woff.toNat).setRf rc Reg.TRL_APTC.GWIN x.gwin.toNat).setRf rc Reg.TRL_APTC.GEPOCH x.gepoch.toNat
    let s := s.setRf ra Reg.TRL_APTA.EN 1
    (List.range o.count.toNat).foldl (fun r j => r.bind fun s =>
      let pa := (pg + j * k) * pageBytes
      s.putLeaf p ⟨o.va.toNat + j * 2 ^ walkShift level, level, pa, 3, false, some a⟩ (leafEntry pa o.perm.toNat 0)) (some s)

/-- The level of a leaf of a SIZE. -/
def sizeLevel (size : Nat) : Nat := 3 - size

/-- The checks of MAP_PAGES. -/
def mapChecks (o : MapOp) (s : State) : Checks :=
  let p := o.part.toNat
  let level := sizeLevel o.size.toNat
  let bytes := 2 ^ walkShift level
  let last := o.va.toNat + o.count.toNat * bytes
  let apt := match o.apt with
    | some x =>
      [(decide (63 < x.apt.toNat), 20), (decide (1 < x.kind.toNat), 21), (decide (1 < x.roll.toNat) || (x.roll == 1 && x.kind == 0), 22),
        (decide (1 < x.gv.toNat), 23), (decide (2 ^ 22 ≤ x.woff.toNat), 28)]
    | none => []
  { bad := firstBad ([(decide (11 < p), 0), (decide (2 < o.size.toNat), 1), (decide (3 < o.tier.toNat) || (o.tier == 3) != o.apt.isSome, 2),
        (decide (31 < o.perm.toNat) || (o.perm.getLsbD 1 && !o.perm.getLsbD 0), 3),
        (o.va.toNat % bytes != 0 || decide (2 ^ 48 < last), 4),
        (o.count == 0 || o.apt.any fun x => x.kind == 1 && (o.count != 1 || o.size != 0), 12),
        (if o.tier = 2 then decide (63 < o.key.toNat) || !s.keyValid o.key.toNat else o.key != 0, 16),
        (o.tier != 3 && (if o.tier = 1 then decide (2 ^ 24 ≤ o.rotation.toNat) else o.rotation != 0), 20)] ++ apt)
    absent := (s.part? p).isNone
    taken := (s.part? p).any (fun x => x.dying.isSome || x.leaves.any fun l => decide (l.va < last) && decide (o.va.toNat < l.va + 2 ^ walkShift l.level))
      || o.apt.any (fun x => s.rbit (Reg.TRL_APTA x.apt.toNat) Reg.TRL_APTA.EN) || (o.tier == 2 && s.rekeyFrom o.key.toNat) }

def cmdMapPages (o : MapOp) : Cmd :=
  { row := ⟨0x32, false, true, false⟩
    acts := fun _ => some o.part.toNat
    chk := fun _ s => mapChecks o s
    run := fun t s =>
      let p := o.part.toNat
      let us := s.partClusters p
      let level := sizeLevel o.size.toNat
      match (match o.apt with
        | some x => s.mapAperture p us o x level
        | none => State.mapRegion p us o level o.count.toNat 0 s) with
      | some s => s.ok t us []
      | none => s.answer t 0x400 4 [] }

/-! ### UNMAP_PAGES -/

/-- The leaves that follow an address without a gap (log entry 21): COUNT of them. -/
def Partition.leafRun (x : Partition) : Nat → Nat → Option (List Leaf)
  | 0, _ => some []
  | n + 1, va => match x.leaves.find? (·.va == va) with
    | none => none
    | some l => (x.leafRun n (va + 2 ^ walkShift l.level)).map (l :: ·)

/-- A leaf's entry is cleared, and the leaf leaves the list. -/
def State.dropLeaf (s : State) (p : Nat) (l : Leaf) : State :=
  let s := match s.partEntry p l.va with
    | some (a, level, _) => if level = l.level then s.setNum a 8 0 else s
    | none => s
  let s := s.modPart p fun x => { x with leaves := x.leaves.filter (· != l) }
  match l.apt with
  | some a => if (s.part? p).any fun x => x.leaves.any (·.apt == some a) then s else s.closeAperture a
  | none => s

def cmdUnmapPages (part scrub : BitVec 8) (va : BitVec 64) (count : BitVec 32) : Cmd :=
  let p := part.toNat
  { row := ⟨0x33, false, true, false⟩
    acts := fun _ => some p
    chk := fun _ s =>
      { bad := firstBad [(decide (11 < p), 0), (decide (1 < scrub.toNat), 1),
          ((s.part? p).any fun x => (x.leafRun count.toNat va.toNat).isNone, 4)]
        absent := (s.part? p).isNone
        taken := (s.part? p).any fun x => x.dying.isSome }
    run := fun t s =>
      let us := s.partClusters p
      let ls := ((s.part? p).bind fun x => x.leafRun count.toNat va.toNat).getD []
      let s := (ls.foldl (fun s l => s.dropLeaf p l) s).invalidatePart p none
      let pgs := (ls.filter (·.tier != 3)).flatMap Leaf.pages
      if scrub = 0 then (s.freePages pgs).ok t us []
      else
        let s := s.accept t
        let (jobs, s) := s.startScrub pgs true
        if jobs.isEmpty then s.ok { t with flags := t.flags ||| 8 } us [] else s.hold t.h t.op (t.flags ||| 8) (.scrub jobs) }

/-! ### Tiering (R324, R325) -/

/-- A 2 MiB leaf is split into 32 leaves of 64 KiB (R324). -/
def State.splitLeaf (s : State) (p : Nat) (l : Leaf) : Option State :=
  match s.partEntry p l.va with
  | some (a, 2, e) =>
    (s.newTable p 3).map fun (t, s) =>
      let s := (List.range 32).foldl (fun s i => s.setNum (t + 8 * i) 8 (setFld e 55 20 (l.pa / pageBytes + i)).toNat) s
      let s := s.setNum a 8 (1 + t / 2 ^ 8 * 2 ^ 20)
      s.modPart p fun x => { x with
        leaves := x.leaves.filter (· != l) ++ (List.range 32).map fun i => { l with va := l.va + i * pageBytes, pa := l.pa + i * pageBytes, level := 3 } }
  | _ => none

/-- The 64 KiB leaf that covers an address, after a split where a larger one does; none for 1 GiB leaves. -/
def State.smallLeaf (s : State) (p va : Nat) : Option (Leaf × State) :=
  let find (s : State) : Option Leaf := (s.part? p).bind fun x => x.leaves.find? (·.covers va)
  match find s with
  | none => none
  | some l =>
    if l.level = 3 then some (l, s)
    else if l.level = 2 then (s.splitLeaf p l).bind fun s1 => ((find s1).filter (·.level == 3)).map fun l => (l, s1)
    else none

/-- Whether an access through a page is still under way in the partition's clusters (R233). -/
def State.pageOpen (s : State) (p : Nat) (pa : Nat) : Bool :=
  (s.partClusters p).any fun u =>
    (s.cluster u).bursts.any (·.accessOpen s.net.tags [(pa, pageBytes)])
      || (clusterCores u).any fun k => (s.core k).accessOpen s.net.tags [(pa, pageBytes)]

/-- A page moves out to DDR5 (R324); not while an access through the page is still under way. -/
def State.moveOut (s : State) (p va ddr dpage key : Nat) : State :=
  let d := 2 ^ 32 + ddr * 2 ^ 23 + dpage
  if 12 ≤ ddr ∨ 2 ^ 23 ≤ dpage ∨ !s.pageThere d ∨ !s.pageFree d ∨ !s.keyValid key ∨ s.rekeyFrom key
      ∨ !s.rbit Reg.DDR_TAG_BASE Reg.DDR_TAG_BASE.EN then s
  else match s.smallLeaf p va with
  | none => s
  | some (l, s1) =>
    if l.out ∨ l.tier = 3 ∨ (ddrPage (l.pa / pageBytes)).isSome ∨ s1.pageOpen p l.pa then s
    else match s1.partEntry p l.va with
    | some (a, 3, e) =>
      let old := l.pa / pageBytes
      let e1 := setFld (setFld (setBit (setBit e 0 false) 9 true) 17 12 key) 55 20 d
      let s := (s1.setNum a 8 e1.toNat).invalidatePart p (some l.va)
      let s := { s with ext := { s.ext with owned := s.ext.owned ++ [(d, p)] } }
      let s := (((s.tagPage d (some key)).copyPage old d).renamePage old d).freePage old
      s.modPart p fun x => { x with leaves := x.leaves.map fun y => if y = l then { y with pa := d * pageBytes, out := true } else y }
    | _ => s

/-- The oldest entry of a cluster's firmware fault queue is served: its page comes back to an HBM page (R325). -/
def State.pageBack (s : State) (u hpage : Nat) : State :=
  match (s.cluster u).fq with
  | [] => s
  | q :: _ =>
    let p := s.partOf u
    let va := q.page * pageBytes
    match s.partEntry p va, (s.part? p).bind fun x => x.leaves.find? fun l => l.out && l.covers va with
    | some (a, 3, e), some l =>
      if hpage < 2 ^ 32 ∧ s.pageThere hpage then
        (match s.bringBack p l a e (some hpage) with
         | some s1 => s1.fqAnswer u true
         | none => s)
      else s
    | _, _ => s

/-! ### Page retirement (R313) -/

/-- Whether a page is to be retired: a poisoned unit in it, or 16 corrected errors within 24 hours. -/
def State.pageWorn (s : State) (pg : Nat) : Bool :=
  s.ext.poison.any (fun u => u / 1024 == pg)
    || decide (16 ≤ (s.ext.corrLog.filter fun e => e.1 == pg && decide (s.time.inNs ≤ e.2 + 24 * 3600 * 1000000000)).length)

/-- The retired page list as the boot flash holds it. -/
def State.retiredList (s : State) : List Byte := s.ext.retired.flatMap (toBytes 8)

/-- A page's contents move to another page of its memory, under the leaf that maps it. -/
def State.replacePage (s : State) (p : Nat) (l : Leaf) (pg : Nat) : State :=
  match s.smallLeaf p (l.va + (pg - l.pa / pageBytes) * pageBytes) with
  | none => s
  | some (l, s) => match s.partEntry p l.va, s.allocRun (memOfPage pg) 1 p with
    | some (a, 3, e), (some g, s) =>
      let s := s.tagPage g (s.pageSlot pg)
      let s := ((s.copyPage pg g).renamePage pg g).setNum a 8 (setFld e 55 20 g).toNat
      ((s.invalidatePart p (some l.va)).modPart p fun x => { x with
        leaves := x.leaves.map fun y => if y = l then { y with pa := g * pageBytes } else y }).freePage pg
    | _, _ => s

/-- A worn page is retired: it joins the list in the boot flash, which is measured, and what is mapped there moves. -/
def State.retirePage (s : State) (pg : Nat) : State :=
  if s.ext.retired.contains pg ∨ !s.pageThere pg ∨ !s.pageWorn pg then s
  else
    let s := { s with ext := { s.ext with retired := s.ext.retired ++ [pg] } }
    let s := s.measure 0xFF03 2 0 [] (some (Config.sha256 s.retiredList))
    match s.parts.findSome? fun x => (x.leaves.find? fun l => l.tier != 3 && l.pages.contains pg).map fun l => (x.num, l) with
    | some (p, l) => s.replacePage p l pg
    | none => s

/-! ### Commands -/

/-- PART_CREATE (R20, R21). -/
def execPartCreate (h : KHdr) (part : BitVec 8) (clusters : BitVec 16) (interval : BitVec 32) (s : State) : Out :=
  .next (s.perform h (.partCreate h part clusters interval) (cmdPartCreate part clusters interval))
/-- PART_DESTROY (R24). -/
def execPartDestroy (h : KHdr) (part : BitVec 8) (s : State) : Out := .next (s.perform h (.partDestroy h part) (cmdPartDestroy part))
/-- SCRUB_COMPLETE (R326). -/
def execScrubComplete (m : ExtMem) (s : State) : Out := .next (s.scrubComplete m)
/-- MAP_PAGES (R305). -/
def execMapPages (h : KHdr) (o : MapOp) (s : State) : Out := .next (s.perform h (.mapPages h o) (cmdMapPages o))
/-- UNMAP_PAGES (R400). -/
def execUnmapPages (h : KHdr) (part scrub : BitVec 8) (va : BitVec 64) (count : BitVec 32) (s : State) : Out :=
  .next (s.perform h (.unmapPages h part scrub va count) (cmdUnmapPages part scrub va count))
/-- TIERING_MOVE_OUT (R324). -/
def execTieringMoveOut (part : Nat) (va : BitVec 48) (ddr dpage key : Nat) (s : State) : Out :=
  .next (s.moveOut part va.toNat ddr dpage key)
/-- PAGE_BRING_BACK (R325). -/
def execPageBringBack (cluster hpage : Nat) (s : State) : Out := .next (s.pageBack cluster hpage)
/-- PAGE_RETIREMENT (R313). -/
def execPageRetirement (pa : Nat) (s : State) : Out := .next (s.retirePage (pa / pageBytes))

end Sys2Proof.Machine
end

