-- ==== Sys2Proof/Machine/Launch.lean ====
section
/-! DEFINITION. LOAD_PROGRAM, LOAD_ROUTES, LOAD_MICROCODE, LAUNCH, SIGNAL and WAIT_COUNTER (R196, R221, R401 to R404, R423, R446). -/

namespace Sys2Proof.Machine

/-- The partition of a partition's session. -/
def Turn.part (t : Turn) : Nat := t.who.part?.getD 0xF

/-- What a partition loaded is measured into its slot before the reply (R446). -/
def State.measurePart (s : State) (t : Turn) (p : Nat) (params : List Byte) (data : Option (List Byte)) : State :=
  s.measure t.op (4 + p) t.num params (data.map Config.sha256)

/-- Bytes that a command loads, by the asker's addresses: all of them, or DETAIL of the first failure. Bytes behind an aperture are not
fetched. -/
def State.loadBytes (s : State) (w : Space) (a len : Nat) : Nat ⊕ List Byte :=
  let (m, _) := s.fwRead w a len
  match m.bad with
  | some (_, d) => .inl d
  | none => if m.asks.isEmpty then .inr (assemble len m.data) else .inl 2

/-- A partition's session whose partition is gone, or being destroyed. -/
def Turn.noPart (t : Turn) (s : State) : Bool := (s.part? t.part).isNone

/-! ### LOAD_PROGRAM -/

def cmdLoadProgram (prog priv : BitVec 8) (entry code : BitVec 64) (len : BitVec 32) : Cmd :=
  { row := ⟨0x40, false, false, true⟩
    chk := fun t s =>
      { bad := firstBad [(decide (15 < prog.toNat), 0), (decide (1 < priv.toNat), 1), (entry.toNat % 4 != 0 || decide (2 ^ 48 ≤ entry.toNat), 4)]
        absent := t.noPart s }
    run := fun t s =>
      let p := t.part
      match s.loadBytes (.part p) code.toNat len.toNat with
      | .inl d => s.answer t 0x400 d []
      | .inr b =>
        let us := s.partClusters p
        let s := us.foldl (fun s u => (clusterCores u).foldl (fun s k => s.iinv k) s) s
        let s := s.modPart p fun x => { x with progs := (prog.toNat, entry.toNat, priv.toNat) :: x.progs.filter (·.1 != prog.toNat) }
        let s := { s with sec := { s.sec with resets := s.sec.resets.filter fun u => !us.contains u } }
        (s.measurePart t p (toBytesBE 1 prog.toNat ++ toBytesBE 1 priv.toNat ++ toBytesBE 2 0 ++ toBytesBE 8 entry.toNat
          ++ toBytesBE 8 code.toNat ++ toBytesBE 4 len.toNat) (some b)).ok t us [] }

/-! ### Counters (R270, R401) -/

/-- Whether a session may name a counter. -/
def State.mayCount (s : State) (w : Asker) (n : Nat) : Bool :=
  match w with
  | .partition p => (match counterOfNum n with
    | some (.core k _) => s.partOf (clusterOf k) == p
    | some (.shared i) => s.rf (Reg.SYN_SCTL i) Reg.SYN_SCTL.OWNER == p
    | none => false)
  | _ => true
/-- A counter of a core that is not in service, or of a cluster that is not On; or one that no hub serves. -/
def State.ctrAbsent (s : State) (n : Nat) : Bool :=
  match counterOfNum n with
  | some (.core k _) => !s.coreLive k || !s.cluOn (clusterOf k)
  | some (.shared i) => (s.counterHub (.shared i)).isNone
  | none => false
/-- The clusters whose hubs serve counters. -/
def State.ctrClusters (s : State) (l : List Nat) : List Nat := l.filterMap fun n => (counterOfNum n).bind s.counterHub
/-- The checks of a command on counters; `at_` is where it names them. -/
def ctrChecks (l : List Nat) (at_ : Nat) (bad : List (Bool × Nat)) (t : Turn) (s : State) : Checks :=
  { denied := l.any fun n => !s.mayCount t.who n
    bad := firstBad (bad ++ [(l.any fun n => decide (16384 ≤ n), at_)])
    absent := l.any s.ctrAbsent }

/-! ### LOAD_ROUTES (R403, R423) -/

/-- The records of an image: ADDR and VALUE. -/
def routeRecords (b : List Byte) : List (Nat × W64) :=
  (List.range (b.length / 16)).map fun i =>
    (ofBytes ((b.drop (16 * i)).take 8), BitVec.ofNat 64 (ofBytes ((b.drop (16 * i + 8)).take 8)))

/-- The session that a mailbox record names: 0 is the issuing one. -/
def bindTarget (t : Turn) (v : W64) : Nat := if fld v 63 32 = 0 then t.num else fld v 63 32

/-- The router and channel sub-blocks of a cluster, and the trail tables (R403). -/
def routeReg (a : Nat) : Option (Option Nat) :=
  if a / 2 ^ 48 ≠ 15 then none
  else match blkOf (a % 2 ^ 48) with
  | some (.cluster, o, u) => if 0x30000 ≤ o ∧ o < 0x40000 then some (some u) else none
  | some (.device 3, o, _) =>
    if (0x10000 ≤ o ∧ o < 0x20000) ∨ (0x40000 ≤ o ∧ o < 0x41000) ∨ (0x50000 ≤ o ∧ o < 0x51000) then some none else none
  | _ => none

/-- The waypoint configuration that a record holds. -/
def wpConfig (v : W64) : WpConfig :=
  { key := fld v 5 0, ddr := tb v 6, rcv := tb v 7, ctr := fld v 21 8, mir := tb v 22, ddev := fld v 39 24, win := fld v 47 40, epoch := fld v 55 48 }

/-- Whether a record keeps to the limits of R403 and R423. -/
def State.routeOk (s : State) (t : Turn) (r : Nat × W64) : Bool :=
  if r.1 = 0 then
    fld r.2 31 16 == 0 && (match s.session? (bindTarget t r.2), t.who with
      | some x, .partition p => x.role != 0 && x.part == p
      | some _, _ => true
      | none, _ => false)
  else if r.1 = 1 then
    let c := wpConfig r.2
    t.who != .operator && !tb r.2 23 && fld r.2 63 56 == 0 && s.keyValid c.key && s.mayCount t.who c.ctr
  else match routeReg r.1, t.who with
    | some (some u), .partition p => s.partOf u == p
    | some none, .partition _ => false
    | some _, _ => true
    | none, _ => false

/-- A host mailbox channel is bound: in the session's partition, or in every one for an operator's (R403). -/
def State.bindMail (s : State) (chid n : Nat) : State :=
  match s.session? n with
  | none => s
  | some x =>
    let ks := (if x.role = 0 then List.range 16 else [x.part]).map fun p => chid + 65536 * p
    s.modHost fun h => { h with mailbox := ks.map (·, n) ++ h.mailbox.filter fun b => !ks.contains b.1 }

/-- A record applied. -/
def State.applyRoute (t : Turn) (s : State) (r : Nat × W64) : State :=
  if r.1 = 0 then s.bindMail (fld r.2 15 0) (bindTarget t r.2)
  else if r.1 = 1 then
    let c := wpConfig r.2
    (s.modPart t.part fun x => { x with cfg := some c }).setRf (Reg.TIME_WPA t.part) Reg.TIME_WPA.MIR (bit c.mir)
  else s.regStore .firmware (r.1 % 2 ^ 48) r.2

/-- The partitions that an image sets up: a partition's own; for an operator's those whose clusters it names. -/
def State.routeParts (s : State) (t : Turn) (l : List (Nat × W64)) : List Nat :=
  match t.who with
  | .partition p => [p]
  | _ => ((l.filterMap fun r => if r.1 < 2 then none else (routeReg r.1).bind fun u => u.map s.partOf).filter (· < 12)).eraseDups

def cmdLoadRoutes (image : BitVec 64) (entries : BitVec 32) : Cmd :=
  let n := entries.toNat
  { row := ⟨0x41, false, true, true⟩
    chk := fun t s =>
      { bad := firstBad [(badAddr t image.toNat (16 * n), 0), (n == 0 || decide (65536 < n), 8)]
        absent := t.who.part?.isSome && t.noPart s }
    run := fun t s =>
      match s.loadBytes t.who.space image.toNat (16 * n) with
      | .inl d => s.answer t 0x400 d []
      | .inr b =>
        let l := routeRecords b
        if !l.all (s.routeOk t) then s.answer t 0x300 0 []
        else
          let ps := s.routeParts t l
          let s := l.foldl (State.applyRoute t) s
          let s := ps.foldl (fun s p => s.measurePart t p (toBytesBE 8 image.toNat ++ toBytesBE 4 n) (some b)) s
          s.ok t (ps.flatMap s.partClusters) [] }

/-! ### LOAD_MICROCODE (R196) -/

/-- A sequence in flight in a cluster reads some of the positions. -/
def State.microOverlaps (s : State) (u lo n : Nat) : Bool :=
  (clusterCores u).any fun k => (List.range 4).any fun i =>
    (s.strand k i).micro.any fun m => decide (m.start < lo + n) && decide (lo < m.start + m.len)

/-- Micro-ops and the entry written in a cluster, the entry last (R196). -/
def State.loadMicro (s : State) (u entry umode start : Nat) (ops : List (BitVec 128)) : State :=
  let s := ops.zipIdx.foldl (fun s (x : BitVec 128 × Nat) =>
    (s.setReg (Reg.CLU_UC_OPA u (start + x.2)) (x.1.setWidth 64)).setReg (Reg.CLU_UC_OPB u (start + x.2)) (BitVec.ofNat 64 (fld x.1 95 64))) s
  s.ucDecWrite u entry (BitVec.ofNat 64 (1 + 2 * umode + 4 * start + 2 ^ 10 * (ops.length - 1)))

def cmdLoadMicrocode (clusters : BitVec 16) (entry umode start nops : BitVec 8) (ops : List (BitVec 128)) : Cmd :=
  let us := maskClusters clusters
  let n := nops.toNat
  { row := ⟨0x42, false, false, true⟩
    chk := fun t s =>
      { denied := us.any fun u => s.partOf u != t.part
        bad := firstBad ([(decide (0x1000 ≤ clusters.toNat), 0), (decide (15 < entry.toNat), 2), (decide (1 < umode.toNat), 3),
          (decide (256 < start.toNat + n), 4), (n == 0 || decide (32 < n) || n != ops.length, 5)]
          ++ ops.zipIdx.map fun x => (decide (2 ^ 96 ≤ x.1.toNat), 8 + 16 * x.2 + 12))
        absent := t.noPart s || us.any fun u => !s.cluOn u
        busy := us.any fun u => s.microOverlaps u start.toNat n }
    run := fun t s =>
      let s := us.foldl (fun s u => s.loadMicro u entry.toNat umode.toNat start.toNat ops) s
      let b := ops.flatMap fun x => toBytes 16 x.toNat
      (s.measurePart t t.part (toBytesBE 2 clusters.toNat ++ toBytesBE 1 entry.toNat ++ toBytesBE 1 umode.toNat ++ toBytesBE 1 start.toNat
        ++ toBytesBE 1 n ++ toBytesBE 2 0 ++ b) (some b)).ok t us [] }

/-! ### LAUNCH (R402) -/

/-- A strand starts (R136): at an address and in a privilege level, with arguments in g1 to g4. -/
def Strand.start (x : Strand) (pc : W48) (priv : Nat) (args : List W32) : Strand :=
  {
    x with
    run := .running, pc := pc, delay := none, g := Vector.ofFn fun i => if i.val = 0 then 0 else args.getD (i.val - 1) 0
    a := Vector.replicate 8 0, abase := Vector.replicate 8 0, actl := Vector.replicate 8 0, hint := Vector.replicate 8 0
    lastLine := Vector.replicate 8 none, l0 := {}, l1 := {}, v := Vector.replicate 32 0, f := Vector.replicate 8 0
    loads := [], matrix := 0, tstart := 0, pend := [], shadow := [], waitFrom := none, ptrap := none, haltReq := false, invDrop := false
    status := BitVec.ofNat 32 (1 + 2 * priv)
  }

/-- The strands that a LAUNCH START names: of every live core of its clusters. -/
def State.namedStrands (s : State) (us : List Nat) (strands : Nat) : List (Nat × Nat) :=
  us.flatMap fun u => ((clusterCores u).filter s.coreLive).flatMap fun k => ((List.range 4).filter strands.testBit).map fun i => (k, i)

def cmdLaunchStart (prog strands : BitVec 8) (clusters : BitVec 16) (args : List (BitVec 32)) : Cmd :=
  let us := maskClusters clusters
  { row := ⟨0x43, false, false, true⟩
    chk := fun t s =>
      { denied := decide (0x1000 ≤ clusters.toNat) || us.any fun u => s.partOf u != t.part
        bad := firstBad [((s.part? t.part).any fun x => !x.progs.any (·.1 == prog.toNat), 1), (decide (15 < strands.toNat), 2)]
        absent := t.noPart s || us.any fun u => !s.cluOn u
        taken := (s.namedStrands us strands.toNat).any fun x => (s.strand x.1 x.2).run != .off }
    run := fun t s =>
      match (s.part? t.part).bind fun x => x.progs.find? (·.1 == prog.toNat) with
      | none => s.answer t 0x101 1 []
      | some (_, entry, priv) =>
        ((s.namedStrands us strands.toNat).foldl (fun s x => s.modStrand x.1 x.2 fun y => y.start (BitVec.ofNat 48 entry) priv args) s).ok t us [] }

/-- An operation of the Cheter controller on a counter. -/
def State.fwAdd (s : State) (n : Nat) (d : Int) : State :=
  match counterOfNum n with
  | some c => (s.ctrAdd c d).2
  | none => s
def State.fwSet (s : State) (n x : Nat) : State :=
  match counterOfNum n with
  | some c => (s.ctrAssign c x).2
  | none => s
def State.fwValue (s : State) (n : Nat) : Nat := ((counterOfNum n).map s.ctrValue).getD 0

def cmdLaunchWake (nctr : BitVec 16) (ctrs : List (BitVec 32 × BitVec 32)) : Cmd :=
  let l := ctrs.map (·.1.toNat)
  { row := ⟨0x43, false, false, true⟩
    alarms := ctrs.map fun c => (c.1.toNat, c.2.toNat)
    chk := ctrChecks l 24 [(nctr == 0 || decide (64 < nctr.toNat) || nctr.toNat != ctrs.length, 6)]
    run := fun t s => (ctrs.foldl (fun s c => s.fwAdd c.1.toNat c.2.toInt) s).ok t (s.ctrClusters l) [] }

/-! ### SIGNAL and WAIT_COUNTER (R404) -/

/-- The partition whose work a counter belongs to. -/
def State.ctrPart (n : Nat) (s : State) : Option Nat :=
  match counterOfNum n with
  | some (.core k _) => some (s.partOf (clusterOf k))
  | some (.shared i) => some (s.rf (Reg.SYN_SCTL i) Reg.SYN_SCTL.OWNER)
  | none => none

def cmdSignalAdd (n x : BitVec 32) : Cmd :=
  { row := ⟨0x44, false, true, true⟩
    acts := State.ctrPart n.toNat
    alarms := [(n.toNat, x.toNat)]
    chk := ctrChecks [n.toNat] 0 []
    run := fun t s => let s := s.fwAdd n.toNat x.toInt; s.ok t (s.ctrClusters [n.toNat]) (toBytesBE 4 (s.fwValue n.toNat)) }

def cmdSignalSet (n x : BitVec 32) : Cmd :=
  { row := ⟨0x44, false, true, true⟩
    acts := State.ctrPart n.toNat
    chk := ctrChecks [n.toNat] 0 []
    run := fun t s => let s := s.fwSet n.toNat x.toNat; s.ok t (s.ctrClusters [n.toNat]) (toBytesBE 4 (s.fwValue n.toNat)) }

/-- A wait on a counter: its reply when it is met or tests once, else it is pending. -/
def State.waitCounter (s : State) (t : Turn) (c : CounterId) (take : Bool) (x : W32) (timeout : Nat) : State :=
  let (tag, s) := s.newTag
  let w : Waiter := { ctr := c, take := take, x := x, own := none, src := epCheter, tag := tag, part := 0xF }
  let (met, s) := s.ctrWait w
  if met then s.answer t (s.ctrStatus c) 0 (waitData 1 (s.ctrValue c))
  else if timeout = 0 then
    let s := { s with waiters := s.waiters.filter (· != w) }
    s.answer t (s.ctrStatus c) 0 (waitData 0 (s.ctrValue c))
  else
    (s.modHost fun h => { h with waits := h.waits ++ [⟨t.h, t.flags, c, tag⟩] }).modSession t.num fun y =>
      { y with running := y.running ++ [t.h.tag.toNat] }

def cmdWaitCounter (take : Bool) (n x timeout : BitVec 32) : Cmd :=
  { row := ⟨0x45, false, true, true⟩
    acts := State.ctrPart n.toNat
    chk := fun t s => { ctrChecks [n.toNat] 0 [] t s with busy := decide (256 ≤ s.host.waits.length) }
    run := fun t s => match counterOfNum n.toNat with
      | none => s
      | some c => s.waitCounter t c take x timeout.toNat }

/-- The answer of a wait is on its way. -/
def State.answerComes (s : State) (tag : Nat) : Bool :=
  s.net.flight.any (fun x => x.p.tag == tag && x.p.dst == epCheter && x.p.kind == .rdr)
    || s.net.sinks.any fun x => x.1 == epCheter && x.2.tag == tag && x.2.kind == .rdr

/-- TIMEOUT passes: MET = 0, and nothing is subtracted (R404); a wait that has been met is answered so. -/
def State.waitTimeout (s : State) (k : Nat) : State :=
  match s.host.waits[k]? with
  | none => s
  | some w =>
    if s.answerComes w.wtag then s
    else
      let s := s.withdrawWait w
      (s.reply w.h 0x45 w.flags (s.ctrStatus w.ctr) 0 (waitData 0 (s.ctrValue w.ctr))).endCommand w.h

/-! ### Commands -/

/-- LOAD_PROGRAM (R400, R221). -/
def execLoadProgram (h : KHdr) (prog priv : BitVec 8) (entry code : BitVec 64) (codeLen : BitVec 32) (s : State) : Out :=
  .next (s.perform h (.loadProgram h prog priv entry code codeLen) (cmdLoadProgram prog priv entry code codeLen))
/-- LOAD_ROUTES (R403). -/
def execLoadRoutes (h : KHdr) (image : BitVec 64) (entries : BitVec 32) (s : State) : Out :=
  .next (s.perform h (.loadRoutes h image entries) (cmdLoadRoutes image entries))
/-- LOAD_MICROCODE (R196). -/
def execLoadMicrocode (h : KHdr) (clusters : BitVec 16) (entry umode start nops : BitVec 8) (ops : List (BitVec 128)) (s : State) : Out :=
  .next (s.perform h (.loadMicrocode h clusters entry umode start nops ops) (cmdLoadMicrocode clusters entry umode start nops ops))
/-- LAUNCH START (R402). -/
def execLaunchStart (h : KHdr) (prog strands : BitVec 8) (clusters : BitVec 16) (args : List (BitVec 32)) (s : State) : Out :=
  .next (s.perform h (.launchStart h prog strands clusters args) (cmdLaunchStart prog strands clusters args))
/-- LAUNCH WAKE (R402). -/
def execLaunchWake (h : KHdr) (nctr : BitVec 16) (ctrs : List (BitVec 32 × BitVec 32)) (s : State) : Out :=
  .next (s.perform h (.launchWake h nctr ctrs) (cmdLaunchWake nctr ctrs))
/-- SIGNAL ADD (R404). -/
def execSignalAdd (h : KHdr) (n x : BitVec 32) (s : State) : Out := .next (s.perform h (.signalAdd h n x) (cmdSignalAdd n x))
/-- SIGNAL SET (R404). -/
def execSignalSet (h : KHdr) (n x : BitVec 32) (s : State) : Out := .next (s.perform h (.signalSet h n x) (cmdSignalSet n x))
/-- WAIT_COUNTER WATCH (R404). -/
def execWaitCounterWatch (h : KHdr) (n x timeout : BitVec 32) (s : State) : Out :=
  .next (s.perform h (.waitCounterWatch h n x timeout) (cmdWaitCounter false n x timeout))
/-- WAIT_COUNTER TAKE (R404). -/
def execWaitCounterTake (h : KHdr) (n x timeout : BitVec 32) (s : State) : Out :=
  .next (s.perform h (.waitCounterTake h n x timeout) (cmdWaitCounter true n x timeout))
/-- WAIT_COUNTER_TIMEOUT (R404). -/
def execWaitCounterTimeout (k : Nat) (s : State) : Out := .next (s.waitTimeout k)

end Sys2Proof.Machine
end

