-- ==== Sys2Proof/Machine/Waypoint.lean ====
section
/-! DEFINITION. Waypoints: captures, their stream sets and stores, restores (R416 to R425). -/

namespace Sys2Proof.Machine

/-! ### Cluster records (R418, R419) -/

/-- The core whose record holds a register: of its block, or of its counters. -/
def regCore (a : Nat) : Option Nat :=
  match blkOf a with
  | some (.core, _, k) => some k
  | some (.cluster, o, u) => if 0x20000 ≤ o ∧ o < 0x25000 then some (40 * u + (o - 0x20000) / 0x200) else none
  | _ => none

/-- Offsets in a core's block that Table 13-4 records: rest stop, CORE_LS_EN and the banks, PFDIST, message and channel state. -/
def recordedCore (o : Nat) : Bool :=
  (decide (0x220 ≤ o) && decide (o < 0x240)) || (decide (0x400 ≤ o) && decide (o ≤ 0x420)) || (decide (0x1000 ≤ o) && decide (o < 0x1700))

/-- Offsets in a cluster's block: MMU_ROOT, DMA channels, counters, channel and group tables, the banks of the CLM, microcode, check units. -/
def recordedCluster (o : Nat) : Bool :=
  o == 0 || [(0x10000, 0x10800), (0x20000, 0x25000), (0x30000, 0x3F800), (0x40000, 0x40020), (0x50000, 0x50080), (0x51000, 0x52000),
    (0x60000, 0x60080)].any fun r => decide (r.1 ≤ o) && decide (o < r.2)

/-- Whether the record of a cluster of a partition holds a register; shared counters that the partition owns stand in each of its
records. -/
def State.inRecord (s : State) (p u a : Nat) : Bool :=
  match blkOf a with
  | some (.core, o, k) => k / 40 == u && recordedCore o
  | some (.cluster, o, v) => v == u && recordedCluster o
  | some (.device 0, o, _) =>
    decide (0x1000 ≤ o) && decide (o < 0x5000) && s.rf (Reg.SYN_SCTL ((o - 0x1000) / 16)) Reg.SYN_SCTL.OWNER == p
  | _ => false

/-- Whether an address lies in a cluster's local stores or CLM. -/
def State.onChip (s : State) (u pa : Nat) : Bool :=
  match s.site pa with
  | .clm v _ => v == u
  | .store k _ _ => k / 40 == u
  | _ => false

/-- Waiters of a cluster's counters, or of the shared ones that its partition owns. -/
def State.recordsWaiter (s : State) (p u : Nat) (w : Waiter) : Bool :=
  w.src != epCheter && (match w.ctr with
    | .core k _ => k / 40 == u
    | .shared n => s.rf (Reg.SYN_SCTL n) Reg.SYN_SCTL.OWNER == p)

/-- A channel with a descriptor in progress is recorded with that descriptor not started (R419). -/
def Chan.recorded (c : Chan) : Chan := { c with next := (c.runs.head?.map (·.off)) <|> c.next, runs := [], waiting := false }
def Cluster.recorded (c : Cluster) : Cluster :=
  {
    c with
    stlb := [], nonleaf := [], walks := [], fq := [], bursts := [], inv := none
    chans := c.chans.foldl (fun m e => Sparse.set (fun _ => {}) m e.1 e.2.recorded) []
  }

/-- The record of a cluster (Table 13-4). -/
def State.clusterRec (s : State) (p u : Nat) : ClusterRec :=
  let ks := (clusterCores u).filter s.coreLive
  {
    u := u
    mem := s.mem.filter fun c => s.onChip u c.1
    regs := s.regs.filter fun e => s.inRecord p u e.1
    cores := ks.map fun k => (k, (s.core k).settled)
    msgs := ks.map fun k => (k, s.msg k)
    eng := (s.cluster u).recorded
    waiters := s.waiters.filter (s.recordsWaiter p u)
  }

/-- A recorded strand goes on from a cycle: what waited for a translation or a fetch issues again, and a send is tried with a new timeout
(R418). -/
def Strand.revived (t : Nat) (x : Strand) : Strand :=
  {
    x with
    nextSlot := t, send := x.send.map fun r => { r with first := t }, waitFrom := x.waitFrom.map fun w => (t, w.2)
    run := match x.run with
      | .waiting .translation => .running
      | .waiting .fetch => .running
      | r => r
  }
def Core.revived (t : Nat) (c : Core) : Core :=
  {
    c with
    cycle := t, l1 := [], side := [], icache := [], dtlb := [], itlb := [], fetches := [], storeq := [], unacked := [], mx := []
    strands := c.strands.map (Strand.revived t)
  }

/-- A record loaded, for the cores that are still in service (R425 steps 4 and 5). -/
def State.loadRecord (s : State) (p : Nat) (r : ClusterRec) : State :=
  let keep (a : Nat) : Bool := s.inRecord p r.u a && (regCore a).all s.coreLive
  let mine (w : Waiter) : Bool := match w.ctr with
    | .core k _ => s.coreLive k
    | .shared _ => true
  let s1 : State :=
    {
      s with
      regs := (r.regs.filter fun e => keep e.1).foldl (fun m e => Sparse.set regReset m e.1 e.2) (s.regs.filter fun e => !keep e.1)
      mem := (r.mem.filter fun c => s.onChip r.u c.1).foldl (fun m c => Sparse.set memDefault m c.1 c.2) (s.mem.filter fun c => !s.onChip r.u c.1)
      waiters := (s.waiters.filter fun w => !s.recordsWaiter p r.u w) ++ r.waiters.filter mine
      stops := s.stops.filter fun b => match b with
        | .ls k _ _ => k / 40 != r.u
        | .clm v _ => v != r.u
    }
  let s2 := (r.cores.filter fun e => s.coreLive e.1).foldl (fun s e => s.modCore e.1 fun c => e.2.revived c.cycle) s1
  let s3 := (r.msgs.filter fun e => s.coreLive e.1).foldl (fun s e => s.modMsg e.1 fun _ => e.2) s2
  s3.modCluster r.u fun c => { r.eng with rr := c.rr }

/-! ### Stopping (R417 steps 1 to 3) -/

/-- A strand has stopped: at a boundary, with no load, tile row or matrix instruction outstanding. -/
def Strand.atRest (x : Strand) : Bool :=
  match x.run with
  | .off | .restStop => true
  | _ => x.boundary && x.matrix == 0 && x.loads.all fun l => l.parts.all fun p => p.st == .written

/-- A core has stopped, its stores have been accepted and its ring accesses answered. -/
def State.coreAtRest (s : State) (k : Nat) : Bool :=
  let c := s.core k
  c.strands.toList.all Strand.atRest && c.storeq.isEmpty && c.unacked.isEmpty && c.fetches.isEmpty && c.mx.isEmpty
    && (s.msg k).spills.isEmpty && (s.msg k).queues.all fun q => q.2.fetch.isNone

/-- A cluster has stopped, but for cores that are to be retired. -/
def State.clusterAtRest (s : State) (gone : List Nat) (u : Nat) : Bool :=
  let c := s.cluster u
  c.bursts.isEmpty && c.walks.isEmpty
    && c.fq.all (fun q => q.who.all fun w => match w with
      | .strand _ _ _ _ => true
      | .dma _ _ _ _ => false)
    && (clusterCores u).all fun k => !s.coreLive k || gone.contains k || s.coreAtRest k

/-- A packet that a stop waits for: one of the partition, unless its hubs hold it back (R418). -/
def State.stopWaits (s : State) (x : Partition) (p : Packet) : Bool :=
  p.part == x.num && !(p.kind.vc == 0 && !(decide (siteOfEp p.src < 12) && s.partOf (siteOfEp p.src) == x.num))

/-- The cores and clusters that a stop is to retire. -/
def StopWhy.cores : StopWhy → List Nat
  | .restore _ c _ => c
  | _ => []
def StopWhy.clusters : StopWhy → List Nat
  | .restore _ _ c => c
  | _ => []

/-- Steps 1 to 3 have ended. -/
def State.partAtRest (s : State) (x : Partition) : Bool :=
  x.clusters.all (fun u => x.stop.clusters.contains u || s.clusterAtRest x.stop.cores u)
    && !s.net.flight.any (fun y => s.stopWaits x y.p) && !s.net.sinks.any fun y => s.stopWaits x y.2

/-- What a stop is for, when another one comes: a restore takes the place of a capture, and restores join. -/
def StopWhy.join : StopWhy → StopWhy → StopWhy
  | .restore _ a b, .restore w c d => .restore w (a ++ c) (b ++ d)
  | .restore w a b, _ => .restore w a b
  | _, y => y

/-- A partition stops for a capture or a restore. -/
def State.startStop (s : State) (p : Nat) (why : StopWhy) : State :=
  let us := (s.partClusters p).filter fun u => !s.net.paused.contains u
  { (s.modPart p fun x => { x with stop := x.stop.join why }) with net := { s.net with paused := s.net.paused ++ us } }

/-- The partition goes on (R417 step 6). -/
def State.resumePart (s : State) (p : Nat) : State :=
  let us := s.partClusters p
  let s := { (s.modPart p fun x => { x with stop := .none }) with net := { s.net with paused := s.net.paused.filter fun u => !us.contains u } }
  (us.flatMap clusterCores).foldl (fun s k =>
    if s.coreLive k then s.modCore k fun c => { c with strands := c.strands.map fun x => { x with send := x.send.map fun r => { r with first := c.cycle } } }
    else s) s

/-! ### Captures (R416, R417, R420, R421) -/

/-- The latest waypoint has not reached LOCAL. -/
def Partition.unstreamed (x : Partition) : Bool := x.captured.any fun w => !x.local_.any (·.num == w.num)
/-- A partition streams to DDR5. -/
def Partition.streams (x : Partition) : Bool := x.cfg.any (·.ddr)
def StopWhy.restores : StopWhy → Bool
  | .restore _ _ _ => true
  | _ => false

/-- A capture is deferred (R416). -/
def State.defers (s : State) (x : Partition) : Bool :=
  (x.streams && x.unstreamed) || s.rf Reg.CHT_BOOT Reg.CHT_BOOT.STAGE != 5 || s.handing || x.clusters.any (fun u => !s.cluOn u) || x.stop.restores
    || x.dying.isSome

/-- A capture that is due, by the schedule or because it was deferred (R416). -/
def State.captureDue (s : State) (x : Partition) : Bool :=
  s.rbit (Reg.TIME_WPA x.num) Reg.TIME_WPA.EN
    && (decide (x.nextDue ≤ s.time.inNs / 1000000) || s.rbit (Reg.TIME_WPA x.num) Reg.TIME_WPA.DEFER)

/-- A due capture starts, or is deferred (R416). -/
def State.dueCapture (s : State) (p : Nat) : State :=
  match s.part? p with
  | none => s
  | some x =>
    if !s.captureDue x ∨ x.stop = .capture then s
    else
      let a := Reg.TIME_WPA p
      let s := s.modPart p fun x => { x with nextDue := s.nextMs (s.rf a Reg.TIME_WPA.INTERVAL) }
      if s.defers x then s.setRf a Reg.TIME_WPA.DEFER 1 else (s.setRf a Reg.TIME_WPA.DEFER 0).startStop p .capture

/-- A capture is abandoned (R417). -/
def State.abandonCapture (s : State) (p : Nat) : State :=
  match s.part? p with
  | none => s
  | some x => if x.stop = .capture then (s.resumePart p).bump (Reg.TIME_WPA p) Reg.TIME_WPA.ABANDONED 1 else s

/-- Leaves of a partition whose entry holds D = 1 (R421). -/
def State.dirtyLeaves (s : State) (x : Partition) : List Leaf :=
  x.leaves.filter fun l => l.tier != 3 && (match s.partEntry x.num l.va with
    | some (_, _, e) => tb e 7
    | none => false)

/-- D is cleared in a leaf, which is invalidated (R421). -/
def State.cleanLeaf (s : State) (p : Nat) (l : Leaf) : State :=
  match s.partEntry p l.va with
  | some (a, _, e) => (s.setNum a 8 (setBit e 7 false).toNat).invalidatePart p (some l.va)
  | none => s

/-- Asides of a partition are discarded; their pages are free again. -/
def State.dropAsides (s : State) (p : Nat) : State :=
  let s := (s.ext.asides.filter (·.2.2 == p)).foldl (fun s a => s.freePage a.2.1) s
  { s with ext := { s.ext with asides := s.ext.asides.filter (·.2.2 != p) } }

/-- Every page that the partition's leaves map directly is guarded (R420). -/
def State.guardPages (s : State) (p : Nat) : State :=
  match s.part? p with
  | none => s
  | some x =>
    let l := (x.leaves.filter fun l => l.tier != 3 && !l.out).flatMap Leaf.pages
    { s with ext := { s.ext with guards := s.ext.guards.filter (·.2 != p) ++ l.map (·, p) } }

/-- WAYPOINT_TAKE commands whose waypoint is there are answered: at LOCAL, or at CAPTURED when DDR = 0 (R424). -/
def State.settleTakes (s : State) (p : Nat) (w : Waypoint) : State :=
  let done (k : KPending) : Bool := match k.what with
    | .waypoint q n => q == p && decide (n ≤ w.num)
    | _ => false
  (s.host.pending.filter done).foldl (fun s k =>
    s.endPending k (s.okStatus (s.partClusters p)) 0 (toBytesBE 8 w.num ++ ({ s.time with now := w.time } : TimeState).bytesBE)) s

/-- Steps 4 to 6 of Table 13-3, the stream set, and the waypoint's registers. -/
def State.capture (s : State) (x : Partition) (pauseUs : Nat) : State :=
  let p := x.num
  let num := (s.reg (Reg.TIME_WPB p)).toNat + 1
  let dirty := s.dirtyLeaves x
  let set := if x.captured.isNone then x.pages
    else ((s.ext.asides.filter (·.2.2 == p)).map (·.1) ++ dirty.flatMap Leaf.pages).eraseDups
  let s := x.clusters.foldl (fun s u => (clusterCores u).foldl (fun s k => if s.coreLive k then s.modCore k Core.settled else s) s) s
  let w : Waypoint := { num := num, time := s.time.now, recs := x.clusters.map (s.clusterRec p), pages := set }
  let s := dirty.foldl (fun s l => s.cleanLeaf p l) s
  let s := (s.dropAsides p).guardPages p
  let s := (s.modPart p fun x => { x with captured := some w }).resumePart p
  let s := (s.setRf (Reg.TIME_WPA p) Reg.TIME_WPA.STATE 1).setReg (Reg.TIME_WPB p) (BitVec.ofNat 64 num)
  let s := (s.setReg (Reg.TIME_WPC p) s.time.word).setRf (Reg.TIME_WPD p) Reg.TIME_WPD.PAUSE pauseUs
  if x.streams then s else s.settleTakes p w

/-! ### The DDR5 store (R422) -/

/-- Pages of the stream set written to free store pages under the configuration's key; none when there is no room. -/
def streamPages (p key : Nat) (mems : List ExtMem) : List Nat → List (Nat × Nat) → State → Option (List (Nat × Nat) × State)
  | [], acc, s => some (acc, s)
  | g :: l, acc, s =>
    match s.allocFrom 1 p mems with
    | (none, _) => none
    | (some d, s) =>
      let src := ((s.ext.asides.find? fun a => a.1 == g && a.2.2 == p).map (·.2.1)).getD g
      streamPages p key mems l (acc ++ [(g, d)]) ((s.tagPage d (some key)).copyPage src d)

/-- The commit header of the latest waypoint reaches the store: it is LOCAL and replaces the one before. -/
def State.commitLocal (s : State) (p : Nat) : State :=
  match s.part? p with
  | none => s
  | some x => match x.cfg, x.captured with
    | some c, some w =>
      if !c.ddr ∨ !x.unstreamed ∨ !s.keyValid c.key then s
      else
        let mapped := x.pages
        match streamPages p c.key ((s.homeChannels x.clusters).map .ddr) (w.pages.filter mapped.contains) [] s with
        | none => s
        | some (new, s) =>
          let old := (x.local_.map (·.store)).getD []
          let kept := old.filter fun e => mapped.contains e.1 && !new.any (·.1 == e.1)
          let w := { w with store := kept ++ new }
          let s := s.modPart p fun x => { x with captured := some w, local_ := some w }
          let s := s.freePages ((old.filter fun e => !kept.contains e).map (·.2))
          (s.setRf (Reg.TIME_WPA p) Reg.TIME_WPA.STATE 2).settleTakes p w
    | _, _ => s

/-- The partner has acknowledged the waypoint (R422); not without a route to it (R430). -/
def State.mirrored (s : State) (p : Nat) : State :=
  match s.part? p with
  | none => s
  | some x => match x.cfg with
    | some c =>
      if c.mir ∧ s.rf (Reg.TIME_WPA p) Reg.TIME_WPA.STATE = 2 ∧ (s.routePort c.ddev).isSome then s.setRf (Reg.TIME_WPA p) Reg.TIME_WPA.STATE 3 else s
    | none => s

/-! ### Restores (R424, R425) -/

/-- The restorable waypoint that a number names (R424); 0 is the latest. -/
def Partition.restorable (x : Partition) (n : Nat) : Option Waypoint :=
  if n = 0 then x.captured <|> x.local_
  else (x.captured.filter (·.num == n)) <|> (x.local_.filter (·.num == n))

def State.pagePoisoned (s : State) (pg : Nat) : Bool := s.ext.poison.any fun u => u / 1024 == pg

/-- Memory goes back to a waypoint (R425 step 3): from asides while it is the latest captured, from the store otherwise. -/
def State.restorePages (s : State) (x : Partition) (w : Waypoint) : State :=
  let p := x.num
  let mapped := x.pages
  let s :=
    if x.captured.any (·.num == w.num) then
      let asides := s.ext.asides.filter (·.2.2 == p)
      let s := asides.foldl (fun s a => s.copyPage a.2.1 a.1) s
      (w.store.filter fun e => mapped.contains e.1 && s.pagePoisoned e.1 && !asides.any (·.1 == e.1)).foldl (fun s e => s.copyPage e.2 e.1) s
    else (w.store.filter fun e => mapped.contains e.1).foldl (fun s e => s.copyPage e.2 e.1) s
  let s := ((s.dropAsides p).guardPages p).modPart p fun x => { x with captured := some w }
  if x.captured.any (·.num == w.num) then s else s.setRf (Reg.TIME_WPA p) Reg.TIME_WPA.STATE 2

/-- The restore of a stopped partition: steps 2 to 7. -/
def State.restore (s : State) (p n : Nat) : State :=
  match s.part? p with
  | none => s
  | some x => match x.restorable n with
    | none => s.resumePart p
    | some w =>
      let s := x.clusters.foldl (fun s u => s.disableChannels u) s
      let s := s.restorePages x w
      let s := (w.recs.filter fun r => x.clusters.contains r.u).foldl (fun s r => s.loadRecord p r) s
      let s := s.resumePart p
      let s := match x.cfg with
        | some c => if c.rcv then s.fwAdd c.ctr 1 else s
        | none => s
      let s := s.bump (Reg.TIME_WPD p) Reg.TIME_WPD.RESTORES 1
      s.measure 0xFF02 (4 + p) 0 (toBytesBE 1 p ++ toBytesBE 7 0 ++ toBytesBE 8 w.num) none

/-! ### Commands -/

def cmdWaypointTake (part : BitVec 8) : Cmd :=
  let p := part.toNat
  { row := ⟨0x50, false, true, true⟩
    acts := fun _ => some p
    chk := fun t s =>
      { denied := decide (p < 12) && !t.who.mayName p
        bad := firstBad [(decide (11 < p), 0)]
        absent := (s.part? p).isNone
        busy := (s.part? p).any s.defers }
    run := fun t s => (s.acceptHold t (.waypoint p ((s.reg (Reg.TIME_WPB p)).toNat + 1))).startStop p .capture }

def cmdWaypointRestore (part : BitVec 8) (waypoint : BitVec 64) : Cmd :=
  let p := part.toNat
  { row := ⟨0x51, false, true, true⟩
    acts := fun _ => some p
    chk := fun t s =>
      { denied := decide (p < 12) && !t.who.mayName p
        bad := firstBad [(decide (11 < p), 0), ((s.part? p).any fun x => (x.restorable waypoint.toNat).isNone, 8)]
        absent := (s.part? p).isNone
        taken := (s.part? p).any fun x => x.dying.isSome }
    run := fun t s => (s.acceptHold t (.restore p)).startStop p (.restore waypoint.toNat [] []) }

/-- WAYPOINT_TAKE (R424). -/
def execWaypointTake (h : KHdr) (part : BitVec 8) (s : State) : Out := .next (s.perform h (.waypointTake h part) (cmdWaypointTake part))
/-- WAYPOINT_RESTORE (R424, R425). -/
def execWaypointRestore (h : KHdr) (part : BitVec 8) (waypoint : BitVec 64) (s : State) : Out :=
  .next (s.perform h (.waypointRestore h part waypoint) (cmdWaypointRestore part waypoint))
/-- WAYPOINT_CAPTURE (R416). -/
def execWaypointCapture (part : Nat) (s : State) : Out := .next (s.dueCapture part)
/-- CAPTURE_ABANDON (R417). -/
def execCaptureAbandon (part : Nat) (s : State) : Out := .next (s.abandonCapture part)
/-- WAYPOINT_LOCAL (R422). -/
def execWaypointLocal (part : Nat) (s : State) : Out := .next (s.commitLocal part)
/-- WAYPOINT_MIRRORED (R422). -/
def execWaypointMirrored (part : Nat) (s : State) : Out := .next (s.mirrored part)

end Sys2Proof.Machine
end

