-- ==== Sys2Proof/Machine/Recovery.lean ====
section
/-! DEFINITION. What ends a stop, retirement, recovery from failures, and the reset of a cluster (R15, R31, R313, R316, R417, R425 to
R429, R434). -/

namespace Sys2Proof.Machine

/-! ### Retirement (R427, R428) -/

/-- A core goes out of service for good. -/
def State.retireCore (s : State) (k : Nat) : State :=
  if !s.coreLive k then s
  else
    let s := s.stopCore k
    let s := (s.modCore k fun c => { cycle := c.cycle }).modMsg k fun _ => {}
    let s := s.setRf (Reg.ID_CORE_LIVE (k / 64)) ⟨k % 64, k % 64⟩ 0
    let gone (w : Waiter) : Bool := match w.ctr with
      | .core c _ => c == k
      | .shared _ => false
    { s with
      phys := { s.phys with retired := s.phys.retired ++ [k] }
      waiters := s.waiters.filter fun w => !gone w }

/-- A cluster goes out of service for good, and leaves its partition (R428, R31). -/
def State.retireCluster (s : State) (u : Nat) : State :=
  if 12 ≤ u ∨ s.cluRetired u then s
  else
    let p := s.partOf u
    let s := ((clusterCores u).foldl (fun s k => s.retireCore k) s).disableChannels u
    let s := (s.modCluster u fun _ => {}).setClu u 4
    let s := s.assign u 0xF
    let s := s.modPart p fun x => { x with clusters := x.clusters.filter (· != u) }
    { s with net := { s.net with paused := s.net.paused.filter (· != u) } }

/-! ### A lost stack's pages (R429) -/

/-- A page of a stack that is not live. -/
def State.pageLost (s : State) (pg : Nat) : Bool :=
  match memOfPage pg with
  | .hbm n => !s.extLive (.hbm n)
  | .ddr _ => false
/-- A leaf whose pages are lost. -/
def State.leafLost (s : State) (l : Leaf) : Bool := l.tier != 3 && s.pageLost (l.pa / pageBytes)

/-- Contents of new pages: from the store, or zeros. -/
def State.fillPages (s : State) (w : Waypoint) (old new k : Nat) : State :=
  (List.range k).foldl (fun s i =>
    let s := s.zeroPage (new + i)
    match w.store.find? (·.1 == old + i) with
    | some e => s.copyPage e.2 (new + i)
    | none => s) s

/-- Lost pages of a leaf follow it to other pages. -/
def State.placeLeaf (s : State) (p : Nat) (w : Waypoint) (l : Leaf) (new : Nat) (entry : W64 → W64) (out : Bool) : State :=
  let old := l.pa / pageBytes
  let k := 2 ^ (walkShift l.level - 16)
  let s := s.fillPages w old new k
  let s := match s.partEntry p l.va with
    | some (a, _, e) => s.setNum a 8 (entry e).toNat
    | none => s
  let s := (List.range k).foldl (fun s i => (s.renamePage (old + i) (new + i)).freePage (old + i)) s
  s.modPart p fun x => { x with leaves := x.leaves.map fun y => if y = l then { y with pa := new * pageBytes, out := out } else y }

/-- A lost leaf is placed on other stacks, or page by page, and on DDR5 when those are full (R324). -/
def placeLost (p : Nat) (w : Waypoint) : Nat → Leaf → State → State
  | 0, _, s => s
  | f + 1, l, s =>
    let k := 2 ^ (walkShift l.level - 16)
    match s.allocFrom k p ((s.homeStacks (s.partClusters p) ++ s.liveStacks (List.range 24)).map .hbm) with
    | (some pg, s) => s.placeLeaf p w l pg (fun e => setFld e 55 20 pg) l.out
    | (none, s) =>
      if l.level = 2 then
        match s.splitLeaf p l with
        | none => s
        | some s => ((s.part? p).map fun x => x.leaves.filter fun y => decide (l.va ≤ y.va) && decide (y.va < l.va + 2 ^ walkShift 2)).getD []
          |>.foldl (fun s y => placeLost p w f y s) s
      else if l.level = 3 then
        match (s.part? p).bind (·.cfg), s.allocFrom 1 p ((s.homeChannels (s.partClusters p)).map .ddr) with
        | some c, (some d, s) =>
          (s.tagPage d (some c.key)).placeLeaf p w l d
            (fun e => setFld (setFld (setBit (setBit e 0 false) 9 true) 17 12 c.key) 55 20 d) true
        | _, _ => s
      else s

/-- The entry of a leaf in firmware's own copy of the tables, which a lost stack does not take with it. -/
def State.copyEntry (s : State) (va : Nat) : Nat → Nat → Nat → W64
  | 0, _, _ => 0
  | f + 1, level, table =>
    let e : W64 := BitVec.ofNat 64 (s.num (table + 8 * (va / 2 ^ walkShift level % 2 ^ walkBits level)) 8)
    if tb e 0 && !tb e 1 && level < 3 then s.copyEntry va f (level + 1) (pteTable e) else e

/-- Page tables on a lost stack are built again elsewhere, and MMU_ROOT follows (R22). -/
def State.rebuildTables (s : State) (p : Nat) : State :=
  match s.part? p with
  | none => s
  | some x =>
    if !x.tables.any s.pageLost then s
    else
      let es := x.leaves.map fun l => (l, s.copyEntry l.va 4 0 x.root)
      let s1 := s.modPart p fun x => { x with tables := [], used := 0 }
      match s1.newTable p 0 with
      | none => s
      | some (root, s1) =>
        let s1 := es.foldl (fun s (e : Leaf × W64) => match State.entryAt p e.1.va e.1.level 4 0 root s with
          | some (a, s) => s.setNum a 8 e.2.toNat
          | none => s) s1
        (x.clusters.foldl (fun s u => s.setRf (Reg.MMU_ROOT u) Reg.MMU_ROOT.ROOT (root / 4096)) s1).freePages x.tables

/-- Lost pages of a partition are placed and filled from its store before it is restored (R429). -/
def State.relocate (s : State) (p : Nat) : State :=
  match s.part? p with
  | none => s
  | some x => match x.local_ with
    | none => s
    | some w =>
      let s := s.rebuildTables p
      let s := (x.leaves.filter s.leafLost).foldl (fun s l => placeLost p w 2 l s) s
      s.modPart p fun x => { x with reserve := x.reserve.filter fun g => !s.pageLost g }

/-! ### What ends a stop (R417, R425, R427, R428) -/

/-- Pending commands that wait for one thing are answered. -/
def State.endAwait (s : State) (w : KAwait) (us : List Nat) : State :=
  (s.host.pending.filter (·.what == w)).foldl (fun s k => s.endPending k (s.okStatus us) 0 []) s

/-- CAPTURE_DRAINED: a stopped partition whose work has drained: its capture, or the retirements and the restore that it was stopped
for. -/
def State.finishStop (s : State) (p pauseUs : Nat) : State :=
  match s.part? p with
  | none => s
  | some x =>
    if !s.partAtRest x then s
    else match x.stop with
    | .none => s
    | .capture => s.capture x pauseUs
    | .restore n cores clusters =>
      let s := clusters.foldl (fun s u => s.retireCluster u) (cores.foldl (fun s k => s.retireCore k) s)
      let us := s.partClusters p
      let s := if us.isEmpty then (s.beginDestroy p).settleDestroy else (s.relocate p).restore p n
      cores.foldl (fun s k => s.endAwait (.retire k) us) (s.endAwait (.restore p) us)

/-! ### Failures (Table 13-5) -/

/-- A core is retired: with its partition stopped and restored, when it has one (R427). -/
def State.beginCoreRetire (s : State) (k : Nat) : State :=
  let p := s.partOfCore k
  if !s.coreLive k then s
  else if (s.part? p).isSome then s.startStop p (.restore 0 [k] []) else (s.retireCore k).endAwait (.retire k) []

/-- A cluster is retired likewise (R428). -/
def State.beginClusterRetire (s : State) (u : Nat) : State :=
  let p := s.partOf u
  if 12 ≤ u ∨ s.cluRetired u then s
  else if (s.part? p).isSome then s.startStop p (.restore 0 [] [u]) else s.retireCluster u

/-- A partition is restored from its latest restorable waypoint. -/
def State.recoverPart (s : State) (p : Nat) : State := if (s.part? p).isSome then s.startStop p (.restore 0 [] []) else s

/-- Whether a partition's latest restorable waypoint has a clean copy of a page (R426). -/
def State.cleanCopy (s : State) (x : Partition) (pg : Nat) : Bool :=
  match x.restorable 0 with
  | none => false
  | some w =>
    let copies := (s.ext.asides.filter fun a => a.1 == pg && a.2.2 == x.num).map (·.2.1)
    let copies := if x.captured.any (·.num == w.num) ∧ !copies.isEmpty then copies else ((w.store.filter (·.1 == pg)).map (·.2))
    !copies.isEmpty && copies.all fun g => !s.pagePoisoned g

/-- Firmware answers a reported failure (Table 13-5). -/
def State.recover (s : State) (f : Failure) : State :=
  match f with
  | .coreStore k second => if second then s.beginCoreRetire k else if s.coreLive k then s.recoverPart (s.partOfCore k) else s
  | .coreInternal k => s.beginCoreRetire k
  | .clm u _ second => if second then s.beginClusterRetire u else if s.cluRetired u then s else s.recoverPart (s.partOf u)
  | .clusterInternal u => s.beginClusterRetire u
  | .poison k pa =>
    let pg := pa / pageBytes
    let p := s.partOfCore k
    let clean := (s.part? p).any fun x => s.cleanCopy x pg
    let s := s.retirePage pg
    if clean then s.recoverPart p else s

/-! ### An HBM stack fails (R316, R429) -/

/-- Whether some partition maps a page of a stack. -/
def State.stackMapped (s : State) (n : Nat) : Bool := s.parts.any fun x => x.leaves.any fun l => l.pa / 2 ^ 36 == n && decide (l.pa < 2 ^ 48)

/-- The stack of a table's BASE. -/
def tableStack (base : Nat) : Nat := base / 2 ^ 16

/-- A new mirror of the tag table on another live stack that no partition maps; none, when there is no such stack. -/
def State.newMirror (s : State) : State :=
  let b := s.rf Reg.DDR_TAG_BASE Reg.DDR_TAG_BASE.BASE
  let s := s.setRf Reg.DDR_TAG_MIR Reg.DDR_TAG_MIR.EN 0
  match s.allocFrom 1536 15 (((s.liveStacks (List.range 24)).filter fun n => n != tableStack b && !s.stackMapped n).map .hbm) with
  | (none, s) => s
  | (some pg, s) =>
    let from_ := b * 2 ^ 20
    let dest := pg * pageBytes
    let n := 96 * 2 ^ 20
    let s := (s.mem.filter fun c => decide (from_ ≤ c.1) && decide (c.1 < from_ + n)).foldl (fun s c => s.setByte (dest + (c.1 - from_)) c.2)
      (s.zeroRange dest n)
    (s.setRf Reg.DDR_TAG_MIR Reg.DDR_TAG_MIR.BASE (dest / 2 ^ 20)).setRf Reg.DDR_TAG_MIR Reg.DDR_TAG_MIR.EN 1

/-- The tag table survives the loss of a stack in its other copy (R316). -/
def State.recoverTags (s : State) (n : Nat) : State :=
  let b := s.rf Reg.DDR_TAG_BASE Reg.DDR_TAG_BASE.BASE
  let m := s.rf Reg.DDR_TAG_MIR Reg.DDR_TAG_MIR.BASE
  let mir := s.rbit Reg.DDR_TAG_MIR Reg.DDR_TAG_MIR.EN
  if !s.rbit Reg.DDR_TAG_BASE Reg.DDR_TAG_BASE.EN then s
  else if tableStack b = n then
    (if mir then (s.setRf Reg.DDR_TAG_BASE Reg.DDR_TAG_BASE.BASE m).newMirror else s.setRf Reg.DDR_TAG_BASE Reg.DDR_TAG_BASE.EN 0)
  else if mir ∧ tableStack m = n then s.newMirror
  else s

/-- A stack leaves service: its range is a hole, and every partition that used it is restored from its latest LOCAL waypoint. -/
def State.stackFails (s : State) (n : Nat) : State :=
  if 24 ≤ n ∨ !s.extLive (.hbm n) then s
  else
    let s := ((s.setRf (Reg.HBM_STAT n) Reg.HBM_STAT.FAILED 1).setRf (Reg.HBM_STAT n) Reg.HBM_STAT.LIVE 0).setRf Reg.ID_MEM_LIVE ⟨n, n⟩ 0
    let s := s.recoverTags n
    let here (pg : Nat) : Bool := memOfPage pg == .hbm n
    let hit (x : Partition) : Bool := x.pages.any here || x.reserve.any here || x.tables.any here
    (s.parts.filter hit).foldl (fun s x =>
      let w := x.local_.map (·.num)
      let s := s.modPart x.num fun x => { x with captured := x.captured.filter fun c => w == some c.num }
      s.startStop x.num (.restore (w.getD 0) [] [])) s

/-! ### CLUSTER_RESET (R434) -/

/-- Stopping: strands stop at their boundaries, channels and queues are disabled, waiters removed. -/
def State.stopForReset (s : State) (u : Nat) : State :=
  let s := (s.setClu u 3).disableChannels u
  let s := (clusterCores u).foldl (fun s k => (List.range 32).foldl (fun s q => s.queueTableWrite k q false 0) s) s
  let here (w : Waiter) : Bool := (coreOfEp w.src).any (· / 40 == u) || (match w.ctr with
    | .core k _ => k / 40 == u
    | .shared _ => false)
  { s with
    waiters := s.waiters.filter fun w => !here w
    sec := { s.sec with resets := u :: s.sec.resets.filter (· != u) } }

/-- Registers that Off puts back at their reset values: blocks of cores in service, and of the cluster but MMU_ROOT, which firmware writes
again. -/
def State.resetsReg (s : State) (u a : Nat) : Bool :=
  match blkOf a with
  | some (.core, _, k) => k / 40 == u && s.coreLive k
  | some (.cluster, o, v) => v == u && o != 0
  | _ => false

/-- Off: every core is reset (R136), every bank reads zero (R207), tables and TLBs are cleared. -/
def State.resetCluster (s : State) (u : Nat) : State :=
  let ks := (clusterCores u).filter s.coreLive
  let s1 : State :=
    {
      s with
      regs := s.regs.filter fun e => !s.resetsReg u e.1
      mem := s.mem.filter fun c => !s.onChip u c.1
      stops := s.stops.filter fun b => match b with
        | .ls k _ _ => k / 40 != u
        | .clm v _ => v != u
    }
  (ks.foldl (fun s k => (s.setCore k {}).modMsg k fun _ => {}) s1).modCluster u fun _ => {}

/-- CLUSTER_STOP_TIMEOUT: a cluster that has not stopped within 1 s is reset regardless. -/
def State.stopTimeout (s : State) (u : Nat) : State :=
  if u < 12 ∧ s.cluField u % 8 = 3 ∧ s.sec.resets.contains u ∧ !(s.part? (s.partOf u)).any (·.dying.isSome) then (s.resetCluster u).setClu u 1 else s

/-- A cluster is On: a command that waited for it is measured and answered. -/
def State.nowOn (s : State) (u : Nat) : State :=
  let s := s.setClu u 2
  (s.host.pending.filter (·.what == .cluster u)).foldl (fun s k =>
    (s.measure 0x52 (4 + s.partOf u) k.h.session.toNat (toBytesBE 1 u) none).endPending k (s.okStatus [u]) 0 []) s

/-- CLUSTER_ON: Starting has ended; a cluster whose Stopping has ended passes through Off and Starting. -/
def State.clusterOn (s : State) (u : Nat) : State :=
  if 12 ≤ u then s
  else match s.cluField u % 8 with
  | 1 => s.nowOn u
  | 3 =>
    if s.sec.resets.contains u ∧ !(s.part? (s.partOf u)).any (·.dying.isSome) ∧ s.clusterAtRest [] u then (s.resetCluster u).nowOn u else s
  | _ => s

def cmdClusterReset (cluster : BitVec 8) : Cmd :=
  let u := cluster.toNat
  { row := ⟨0x52, false, true, true⟩
    acts := fun s => if u < 12 then some (s.partOf u) else none
    chk := fun t s =>
      { denied := decide (u < 12) && (match t.who with
          | .partition p => s.partOf u != p
          | _ => false)
        bad := firstBad [(decide (11 < u), 0)]
        absent := (s.part? (s.partOf u)).isNone
        taken := !s.cluOn u }
    run := fun t s => (s.acceptHold t (.cluster u)).stopForReset u }

def cmdCoreRetire (core : BitVec 16) : Cmd :=
  let k := core.toNat
  { row := ⟨0x53, false, true, false⟩
    acts := fun s => some (s.partOfCore k)
    chk := fun _ s => { bad := firstBad [(decide (479 < k), 0)], absent := !s.coreLive k }
    run := fun t s => (s.acceptHold t (.retire k)).beginCoreRetire k }

/-! ### Commands -/

/-- CLUSTER_RESET (R434). -/
def execClusterReset (h : KHdr) (cluster : BitVec 8) (s : State) : Out := .next (s.perform h (.clusterReset h cluster) (cmdClusterReset cluster))
/-- CORE_RETIRE (R427). -/
def execCoreRetire (h : KHdr) (core : BitVec 16) (s : State) : Out := .next (s.perform h (.coreRetire h core) (cmdCoreRetire core))
/-- CLUSTER_STOP_TIMEOUT (R434). -/
def execClusterStopTimeout (cluster : Nat) (s : State) : Out := .next (s.stopTimeout cluster)
/-- CLUSTER_ON (R434). -/
def execClusterOn (cluster : Nat) (s : State) : Out := .next (s.clusterOn cluster)
/-- CAPTURE_DRAINED (R417, R425). -/
def execCaptureDrained (part pauseUs : Nat) (s : State) : Out := .next (s.finishStop part pauseUs)
/-- FAILURE_RECOVERY (R426). -/
def execFailureRecovery (f : Failure) (s : State) : Out := .next (s.recover f)
/-- STACK_FAILURE (R429). -/
def execStackFailure (n : Nat) (s : State) : Out := .next (s.stackFails n)

end Sys2Proof.Machine
end

