-- ==== Sys2Proof/Machine/Trust.lean ====
section
/-! DEFINITION. Firmware trust: images and hand-over, keys, SPDM, the life cycle (R431 to R433, R439 to R458). -/

namespace Sys2Proof.Machine

def State.modSec (s : State) (f : SecState → SecState) : State := { s with sec := f s.sec }

/-- A session that has succeeded in a command measured into MS3 (R446). -/
def State.measureCmd (s : State) (t : Turn) (params : List Byte) (digest : Option (BitVec 256)) : State := s.measure t.op 3 t.num params digest

/-! ### Images (R441, R442, R444) -/

/-- The checks of R442. -/
def State.verifies (s : State) (i : Image) : Bool :=
  let c := s.sec
  i.magicOk && i.reservedZero && decide (i.keyidx < 4) && !i.revoke.getLsbD i.keyidx
    && ((vget c.keyhash i.keyidx == i.modulusHash && !c.keyrev.getLsbD i.keyidx)
      || (c.lifecycle == 0 && vget c.keyhash i.keyidx == 0 && !c.keyrev.getLsbD i.keyidx))
    && i.sigOk && decide (c.svn ≤ i.svn) && decide (i.svn < 128) && i.bodyOk

/-- An image written into a slot of the boot flash. -/
def State.writeSlot (s : State) (slot : Bool) (i : Image) : State :=
  s.modSec fun c => if slot then { c with slotB := some i } else { c with slotA := some i }

/-- A hand-over, or an image that is not committed. -/
def State.changing (s : State) : Bool := s.sec.hand != .none

def cmdFwStage (len : BitVec 32) (img : Image) : Cmd :=
  { row := ⟨0x80, false, true, false⟩
    always := true
    chk := fun _ s => { bad := firstBad [(len == 0 || decide (3 * 2 ^ 20 < len.toNat), 0)], busy := s.changing }
    run := fun t s =>
      let s := s.accept t
      let slot := !(s.sec.running.any (·.slot))
      let s := s.writeSlot slot img
      let ok := s.verifies img
      let s := s.modSec fun c => { c with staged := if ok then some ⟨slot, img⟩ else none }
      s.answer { t with flags := t.flags ||| 8 } (if ok then 0 else 0x400) (if ok then 0 else 6) [] }

/-! ### Hand-over (R431 to R433, R445) -/

/-- FW_ACTIVATE: no new command starts until the hand-over has been made. -/
def cmdFwActivate (deadline : BitVec 16) : Cmd :=
  { row := ⟨0x81, false, true, false⟩
    always := true
    chk := fun _ s =>
      { bad := firstBad [(!s.changing && s.sec.staged.isNone, 0), (deadline != 0 && (decide (deadline.toNat < 10) || decide (600 < deadline.toNat)), 0)]
        busy := s.changing || s.rf Reg.CHT_BOOT Reg.CHT_BOOT.STAGE != 5 }
    run := fun t s => (s.acceptHold t .handOver).modSec fun c => { c with hand := .asked } }

/-- The steward cores restart: they are reset. -/
def State.restartStewards (s : State) : State := [480, 481, 482, 483].foldl (fun s k => s.setCore k {}) s

/-- The steward cores restart into an image, which is measured (Table 14-4). -/
def State.runImage (s : State) (x : Loaded) : State :=
  (s.restartStewards.modSec fun c => { c with running := some x }).measure 0xFF01 1 0 [] (some x.img.digest)

/-- HAND_OVER: commands that had started have finished, and the staged image takes over (R431). -/
def State.handOver (s : State) : State :=
  match s.sec.hand, s.sec.staged, s.sec.running with
  | .asked, some x, some prev =>
    if s.host.pending.any (·.what != .handOver) then s
    else (s.runImage x).modSec fun c => { c with staged := none, hand := .trial prev }
  | _, _, _ => s

/-- The copy of the boot record that a rewrite replaces: the invalid one, or the one with the lower GEN (R440). -/
def bootVictim (b : List (Option (Bool × Nat))) : Nat :=
  match b[0]?.join, b[1]?.join with
  | none, _ => 0
  | _, none => 1
  | some x, some y => if x.2 ≤ y.2 then 0 else 1

/-- The boot record rewritten with PREF naming a slot. -/
def State.writeBoot (s : State) (slot : Bool) : State :=
  let b := s.sec.boot
  let v := bootVictim b
  let gen := ((b[1 - v]?.join).map (·.2)).getD 0
  s.modSec fun c => { c with boot := b.set v (some (slot, gen + 1)) }

/-- IMAGE_COMMIT: boot record, SVN fuses, KEYREV fuses, in this order (R445). -/
def State.imageCommit (s : State) : State :=
  match s.sec.hand, s.sec.running with
  | .trial _, some x =>
    let s := (s.writeBoot x.slot).modSec fun c => { c with svn := max c.svn x.img.svn, keyrev := c.keyrev ||| x.img.revoke, hand := .none }
    s.endAwait .handOver []
  | _, _ => s

/-- The controller returns to the previous image by the same hand-over (R432). -/
def State.rollback (s : State) : State :=
  match s.sec.hand with
  | .trial prev =>
    let s := (s.runImage prev).modSec fun c => { c with hand := .none }
    (s.host.pending.filter (·.what == .handOver)).foldl (fun s k => s.endPending k 0x400 6 []) s
  | _ => s

/-- FIRMWARE_WATCHDOG: before a commit the previous image returns; otherwise the running image restarts with its state (R432, R433). -/
def State.watchdog (s : State) : State :=
  match s.sec.hand with
  | .trial _ => s.rollback
  | _ => if s.sec.running.isSome then s.restartStewards else s

/-! ### Keys (R319, R320, R455, R456) -/

/-- A key record as measurements name it (R447). -/
def keyDigest (k : KeyRecord) : List Byte :=
  toBytesBE 32 (Config.sha256 (toBytesBE 4 k.spdm.toNat ++ toBytesBE 32 k.k1.toNat ++ toBytesBE 32 k.k2.toNat ++ toBytesBE 8 k.pn.toNat
    ++ toBytesBE 4 k.window.toNat)).toNat

/-- A record of another SPDM session, or one whose message does not authenticate (R455). -/
def State.keyRefused (s : State) (t : Turn) (k : KeyRecord) : Bool := !k.authentic || !(s.session? t.num).any fun x => x.spdm == k.spdm.toNat

/-- KEY_INSTALL and KEY_RETIRE: TARGET, INDEX. -/
def keyParams (target index : Nat) (k : Option KeyRecord) : List Byte :=
  toBytesBE 1 target ++ toBytesBE 1 index ++ (match k with
    | some k => toBytesBE 2 0 ++ keyDigest k
    | none => [])

def cmdKeyInstallDdr5 (slot : BitVec 8) (k : KeyRecord) : Cmd :=
  { row := ⟨0x71, false, true, false⟩
    chk := fun t s =>
      { bad := firstBad [(decide (63 < slot.toNat), 1), (k.authentic && k.k1 == k.k2, 4)]
        auth := s.keyRefused t k
        taken := s.keyValid slot.toNat }
    run := fun t s =>
      let s := s.setRf (Reg.KEY_CTL slot.toNat) Reg.KEY_CTL.VALID 1
      let s := { s with ext := { s.ext with keys := vset s.ext.keys slot.toNat (some ⟨k.k1, k.k2⟩) } }
      (s.measureCmd t (keyParams 0 slot.toNat (some k)) none).ok t [] [] }

def cmdKeyInstallTx (an : BitVec 8) (k : KeyRecord) : Cmd :=
  { row := ⟨0x71, false, true, false⟩
    chk := fun t s =>
      { bad := firstBad [(decide (3 < an.toNat), 1)], auth := s.keyRefused t k, taken := s.host.tx.any (·.1 == an.toNat) }
    run := fun t s =>
      let s := (s.measureCmd t (keyParams 1 an.toNat (some k)) none).ok t [] []
      let s := s.modHost fun h => { h with tx := h.tx ++ [(an.toNat, ⟨k, 0⟩)] }
      let s := ((s.setRf Reg.HST_MSEC Reg.HST_MSEC.TXAN an.toNat).setRf Reg.HST_MSEC Reg.HST_MSEC.TXV 1).setReg Reg.HST_TXPN k.pn
      s.setRf Reg.HST_STAT Reg.HST_STAT.MSON 1 }

/-- RXV of an association. -/
def State.setRxv (s : State) (an : Nat) (v : Bool) : State := s.setRf Reg.HST_MSEC ⟨8 + an, 8 + an⟩ (bit v)

def cmdKeyInstallRx (an : BitVec 8) (k : KeyRecord) : Cmd :=
  { row := ⟨0x71, false, true, false⟩
    chk := fun t s =>
      { bad := firstBad [(decide (3 < an.toNat), 1)], auth := s.keyRefused t k, taken := s.host.rx.any (·.1 == an.toNat) }
    run := fun t s =>
      let s := (s.modHost fun h => { h with rx := h.rx ++ [(an.toNat, ⟨k, k.pn.toNat⟩)] }).setRxv an.toNat true
      let s := (s.measureCmd t (keyParams 2 an.toNat (some k)) none).ok t [] []
      if s.sec.cfgMsreq then s.setRf Reg.HST_CFG Reg.HST_CFG.MSREQ 1 else s }

def cmdKeyRetireDdr5 (slot : BitVec 8) : Cmd :=
  { row := ⟨0x72, false, true, false⟩
    chk := fun _ _ => { bad := firstBad [(decide (63 < slot.toNat), 1)] }
    run := fun t s =>
      let held := s.keyHeld slot.toNat
      let s := s.retireSlot slot.toNat
      if held then s.answer t 0x500 0 [] else (s.measureCmd t (keyParams 0 slot.toNat none) none).ok t [] [] }

def cmdKeyRetireMacsec (rx : Bool) (an : BitVec 8) : Cmd :=
  let n := an.toNat
  { row := ⟨0x72, false, true, false⟩
    chk := fun _ s =>
      { bad := firstBad [(decide (3 < n), 1)]
        taken := !rx && s.rbit Reg.HST_MSEC Reg.HST_MSEC.TXV && s.rf Reg.HST_MSEC Reg.HST_MSEC.TXAN == n }
    run := fun t s =>
      let s := if rx then (s.modHost fun h => { h with rx := h.rx.filter (·.1 != n) }).setRxv n false
        else s.modHost fun h => { h with tx := h.tx.filter (·.1 != n) }
      (s.measureCmd t (keyParams (if rx then 2 else 1) n none) none).ok t [] [] }

/-! ### SPDM (R449 to R454) -/

/-- The status block (Table 14-7). -/
def State.statusBlock (s : State) : List Byte :=
  let c := s.sec
  let run := c.running.map (·.img)
  let other : BitVec 256 := match c.staged, c.hand with
    | some x, _ => x.img.digest
    | none, .trial x => x.img.digest
    | none, _ => 0
  let flags := bit c.staged.isSome + 2 * bit c.hand.uncommitted + 4 * bit c.logFull + 8 * bit c.dbg
    + 16 * bit (s.rf Reg.TIME_STAT Reg.TIME_STAT.LOCK == 2)
  let clu (u : Nat) : Nat := s.cluField u % 32 + 32 * bit (c.resets.contains u) + 256 * s.partOf u
  toBytes 1 1 ++ toBytes 1 c.lifecycle ++ toBytes 2 flags ++ toBytes 1 c.svn ++ toBytes 1 ((run.map (·.svn)).getD 0)
    ++ toBytes 1 (bit (c.running.any (·.slot))) ++ toBytes 1 c.keyrev.toNat ++ toBytes 8 (s.reg Reg.ID_SERIAL).toNat
    ++ toBytesBE 32 ((run.map (·.digest.toNat)).getD 0) ++ toBytesBE 32 other.toNat ++ (List.range 12).flatMap (fun u => toBytes 2 (clu u))
    ++ (List.range 12).flatMap (fun p => toBytes 4 (vget c.pgen p)) ++ toBytes 6 s.time.sec ++ toBytes 4 s.time.ns ++ toBytes 2 s.time.frac
    ++ toBytes 28 0

/-- A measurement block (R451, Table 14-6). -/
def State.measureBlock (s : State) (i : Nat) : Nat × Nat × List Byte :=
  if i = 17 then (17, 0x84, s.statusBlock)
  else (i, if i = 1 then 0 else if i = 2 then 1 else 3, toBytesBE 32 (vget s.sec.ms (i - 1)).toNat)

/-- The blocks that an index asks for: none, one, or all (0xFF). -/
def State.measureBlocks (s : State) (i : Nat) : Option (List (Nat × Nat × List Byte)) :=
  if i = 0 then some []
  else if i = 0xFF then some ((List.range 17).map fun j => s.measureBlock (j + 1))
  else if i ≤ 17 then some [s.measureBlock i]
  else none

/-- Whether the device can sign: the attestation key and its chain are there. -/
def SecState.signs (c : SecState) : Bool := c.attKey && c.chain.isSome

def State.modSpdm (s : State) (sid : Nat) (f : SpdmSession → SpdmSession) : State :=
  s.modSec fun c => { c with spdm := c.spdm.map fun x => if x.sid = sid then f x else x }

/-- The chain of a requester is one that the life-cycle state admits (R454). -/
def SecState.admits (c : SecState) (root : BitVec 256) : Bool :=
  match c.lifecycle with
  | 1 => c.cfgRoot == some root
  | 2 => c.oproot == some root
  | _ => false

/-- An SPDM session ends: every Kilper session opened in it closes (R454). -/
def State.endSpdm (s : State) (sid : Nat) (own : Nat → State → State) : State :=
  let s := s.modSec fun c => { c with spdm := c.spdm.filter (·.sid != sid) }
  (s.host.sessions.filter (·.spdm == sid)).foldl (fun s x => s.closeSession x.num (own x.num)) s

/-- A request within a session that the device holds. -/
def State.inSpdm (s : State) (sid : BitVec 32) (f : SpdmSession → SpdmAnswer × State) : SpdmAnswer × State :=
  match s.sec.spdm.find? (·.sid == sid.toNat) with
  | some x => f x
  | none => (.invalidRequest, s)

/-- The answers that a part in Test does not give (Table 14-5, R453). -/
def State.spdmService (s : State) (r : SpdmReq) : SpdmAnswer × State :=
  let c := s.sec
  let lc := c.lifecycle
  match r with
  | .getDigests => (.digests, s)
  | .getCertificate slot => if slot = 0 then (.certificate (c.chain.getD []), s) else (.unsupportedRequest, s)
  | .challenge nonce => if lc = 3 ∨ !c.signs then (.unsupportedRequest, s) else (.challengeAuth nonce, s)
  | .getMeasurements i signed nonce =>
    if signed ∧ (lc = 3 ∨ !c.signs) then (.unsupportedRequest, s)
    else (match s.measureBlocks i with
      | some b => (.measurements b (if signed then some nonce else none), s)
      | none => (.invalidRequest, s))
  | .getMel => (.log c.log, s)
  | .keyExchange sid mutAuth =>
    if lc = 3 ∨ !c.signs ∨ !mutAuth then (.unsupportedRequest, s)
    else if c.spdm.any (·.sid == sid.toNat) then (.invalidRequest, s)
    else if 16 ≤ c.spdm.length then (.sessionLimit, s)
    else (.keyExchange sid.toNat, s.modSec fun c => { c with spdm := c.spdm ++ [⟨sid.toNat, true, none, false, false⟩] })
  | .getEncapsulated sid => s.inSpdm sid fun _ => (.encapsulated sid.toNat, s)
  | .deliverEncapsulated sid root => s.inSpdm sid fun _ => (.encapsulatedAck sid.toNat, s.modSpdm sid.toNat fun x => { x with root := some root })
  | .finish sid verified root => s.inSpdm sid fun x =>
      if !x.finished ∧ verified ∧ x.root = some root ∧ c.admits root then
        (.finish sid.toNat, s.modSpdm sid.toNat fun x => { x with finished := true, authorised := true })
      else (.invalidRequest, s)
  | .heartbeat sid => s.inSpdm sid fun x => if x.finished then (.heartbeat sid.toNat, s) else (.invalidRequest, s)
  | .keyUpdate sid => s.inSpdm sid fun x => if x.finished then (.keyUpdate sid.toNat, s) else (.invalidRequest, s)
  | .endSession sid => s.inSpdm sid fun _ => (.endSession sid.toNat, s)
  | .getVersion | .getCapabilities | .negotiateAlgorithms | .getCsr | .setCertificate _ _ _ _ | .other => (.unsupportedRequest, s)

/-- The answer to a request (Table 14-5), in the states in which it is answered (R453). -/
def State.spdm (s : State) (r : SpdmReq) : SpdmAnswer × State :=
  let c := s.sec
  let lc := c.lifecycle
  match r with
  | .getVersion => (.version, s)
  | .getCapabilities => (.capabilities, s)
  | .negotiateAlgorithms => (.algorithms, s)
  | .getCsr =>
    if lc ≠ 0 then (.unsupportedRequest, s) else (.csr (s.reg Reg.ID_SERIAL), s.modSec fun c => { c with attKey := true })
  | .setCertificate slot chain leafKeyOk serialOk =>
    if lc ≠ 0 ∨ slot ≠ 0 then (.unsupportedRequest, s)
    else if !leafKeyOk || !serialOk || !c.attKey then (.invalidRequest, s)
    else (.certificateSet, s.modSec fun c => { c with chain := some chain })
  | r => if lc = 0 then (.unsupportedRequest, s) else s.spdmService r

/-- The SPDM session that a request ends. -/
def spdmEnds (r : SpdmReq) (a : SpdmAnswer) : Option Nat :=
  match r, a with
  | .endSession sid, .endSession _ => some sid.toNat
  | _, _ => none

def cmdAttest (r : SpdmReq) : Cmd :=
  { row := ⟨0x70, true, true, true⟩
    run := fun t s =>
      let (a, s) := s.spdm r
      let reply (s : State) : State := s.ok t [] (Config.spdmBytes a)
      match spdmEnds r a with
      | none => reply s
      | some sid =>
        if (s.session? t.num).any (·.spdm == sid) then s.endSpdm sid fun n s => if n = t.num then reply s else s
        else reply (s.endSpdm sid fun _ s => s) }

/-! ### Life cycle (R457, R458) -/

/-- LIFECYCLE is accepted over session 0 in Test and in Provisioned (R457). -/
def lifeChecks (confirm : BitVec 32) (target : Nat) (allowed : State → Bool) (t : Turn) (s : State) : Checks :=
  let lc := s.sec.lifecycle
  { denied := (t.who == .zero && decide (1 < lc)) || (lc != target && !allowed s)
    bad := firstBad [(confirm != 0x4C435943#32, 4)]
    busy := s.handing || s.rbit Reg.DDR_RK_CTL Reg.DDR_RK_CTL.BUSY }

def lifeCmd (confirm : BitVec 32) (target : Nat) (allowed : State → Bool) (act : State → State) : Cmd :=
  { row := ⟨0x82, true, true, false⟩
    always := true
    chk := lifeChecks confirm target allowed
    run := fun t s =>
      if s.sec.lifecycle = target then s.ok t [] []
      else ((act s).measureCmd t (toBytesBE 1 target ++ toBytesBE 3 0 ++ toBytesBE 4 confirm.toNat) none).ok t [] [] }

def cmdLifecycleProvisioned (confirm : BitVec 32) : Cmd :=
  lifeCmd confirm 1 (fun s => s.sec.lifecycle == 0 && s.sec.signs) fun s => s.modSec fun c => { c with fuseP := true }

def cmdLifecycleField (confirm : BitVec 32) : Cmd :=
  lifeCmd confirm 2 (fun s => s.sec.lifecycle == 1 && s.sec.cfgRoot.isSome) fun s => s.modSec fun c => { c with oproot := c.cfgRoot, fuseF := true }

/-- A live stack or channel is blanket-scrubbed whole (R326). -/
def State.scrubWhole (s : State) (m : ExtMem) : State :=
  if !s.extLive m then s
  else
    let (lo, n) := s.pagesOf m
    let s := s.zeroRange (lo * pageBytes) (n * pageBytes)
    { s with ext := { s.ext with
      poison := s.ext.poison.filter fun u => !(decide (lo ≤ u / 1024) && decide (u / 1024 < lo + n))
      unitKey := Sparse.clearRange s.ext.unitKey (lo * 1024) ((lo + n) * 1024) } }

/-- Steps 1 to 7 of R458. -/
def State.destroySecrets (s : State) : State :=
  let s := s.parts.foldl (fun s x =>
    let s := s.beginDestroy x.num
    (s.modPart x.num fun x => { x with dying := some [] }).settleDestroy) s
  let s := ((List.range 24).map ExtMem.hbm ++ (List.range 12).map ExtMem.ddr).foldl (fun s m => s.scrubWhole m) s
  let s := (List.range 64).foldl (fun s k => (s.setRf (Reg.KEY_CTL k) Reg.KEY_CTL.VALID 0).setRf (Reg.KEY_CTL k) Reg.KEY_CTL.PAGES 0) s
  let s := { s with ext := { s.ext with keys := Vector.replicate 64 none } }
  let s := (s.setReg Reg.HST_MSEC 0).setRf Reg.HST_STAT Reg.HST_STAT.MSON 0
  let s := s.modHost fun h => { h with tx := [], rx := [] }
  s.modSec fun c => { c with attKey := false, dukGone := true, fuseR := true }

def cmdLifecycleReturn (confirm : BitVec 32) : Cmd := lifeCmd confirm 3 (fun s => s.sec.lifecycle != 3) State.destroySecrets

/-! ### Commands -/

/-- FW_STAGE (R444). -/
def execFwStage (h : KHdr) (len : BitVec 32) (img : Image) (s : State) : Out := .next (s.perform h (.fwStage h len img) (cmdFwStage len img))
/-- FW_ACTIVATE (R431). -/
def execFwActivate (h : KHdr) (deadline : BitVec 16) (s : State) : Out := .next (s.perform h (.fwActivate h deadline) (cmdFwActivate deadline))
/-- HAND_OVER (R431). -/
def execHandOver (s : State) : Out := .next s.handOver
/-- IMAGE_COMMIT (R445). -/
def execImageCommit (s : State) : Out := .next s.imageCommit
/-- DEADLINE_EXPIRY (R432). -/
def execDeadlineExpiry (s : State) : Out := .next s.rollback
/-- FIRMWARE_WATCHDOG (R432, R433). -/
def execFirmwareWatchdog (s : State) : Out := .next s.watchdog
/-- KEY_INSTALL of a DDR5 slot (R319, R455). -/
def execKeyInstallDdr5 (h : KHdr) (slot : BitVec 8) (k : KeyRecord) (s : State) : Out :=
  .next (s.perform h (.keyInstallDdr5 h slot k) (cmdKeyInstallDdr5 slot k))
/-- KEY_INSTALL of a MACsec transmit association (R456). -/
def execKeyInstallMacsecTx (h : KHdr) (an : BitVec 8) (k : KeyRecord) (s : State) : Out :=
  .next (s.perform h (.keyInstallMacsecTx h an k) (cmdKeyInstallTx an k))
/-- KEY_INSTALL of a MACsec receive association (R456). -/
def execKeyInstallMacsecRx (h : KHdr) (an : BitVec 8) (k : KeyRecord) (s : State) : Out :=
  .next (s.perform h (.keyInstallMacsecRx h an k) (cmdKeyInstallRx an k))
/-- KEY_RETIRE of a DDR5 slot (R320). -/
def execKeyRetireDdr5 (h : KHdr) (slot : BitVec 8) (s : State) : Out := .next (s.perform h (.keyRetireDdr5 h slot) (cmdKeyRetireDdr5 slot))
/-- KEY_RETIRE of a MACsec association (R456). -/
def execKeyRetireMacsec (h : KHdr) (rx : Bool) (an : BitVec 8) (s : State) : Out :=
  .next (s.perform h (.keyRetireMacsec h rx an) (cmdKeyRetireMacsec rx an))
/-- ATTEST (R450). -/
def execAttest (h : KHdr) (r : SpdmReq) (s : State) : Out := .next (s.perform h (.attest h r) (cmdAttest r))
/-- SPDM_SESSION_TIMEOUT (R454). -/
def execSpdmSessionTimeout (sid : BitVec 32) (s : State) : Out :=
  .next (if s.sec.spdm.any (·.sid == sid.toNat) then s.endSpdm sid.toNat fun _ s => s else s)
/-- LIFECYCLE to Provisioned (R457). -/
def execLifecycleProvisioned (h : KHdr) (confirm : BitVec 32) (s : State) : Out :=
  .next (s.perform h (.lifecycleProvisioned h confirm) (cmdLifecycleProvisioned confirm))
/-- LIFECYCLE to Field (R457). -/
def execLifecycleField (h : KHdr) (confirm : BitVec 32) (s : State) : Out :=
  .next (s.perform h (.lifecycleField h confirm) (cmdLifecycleField confirm))
/-- LIFECYCLE to Return (R458). -/
def execLifecycleReturn (h : KHdr) (confirm : BitVec 32) (s : State) : Out :=
  .next (s.perform h (.lifecycleReturn h confirm) (cmdLifecycleReturn confirm))

end Sys2Proof.Machine
end

