-- ==== Sys2Proof/Machine/Debug.lean ====
section
/-! DEFINITION. Operator debug, traces and profiling (R185, R187, R401, R460, R461). -/

namespace Sys2Proof.Machine

/-! ### Addresses -/

/-- A register block that is a hole: that of a retired cluster (R28). -/
def State.blockGone (s : State) (off : Nat) : Bool :=
  match blkOf off with
  | some (.core, _, k) => !isSteward k && s.cluRetired (k / 40)
  | some (.cluster, _, u) => s.cluRetired u
  | _ => false

/-- The offset in register space that a physical address of a whole register names (R8, R28). -/
def State.debugReg (s : State) (pa : Nat) : Option Nat :=
  match s.site pa with
  | .register o => if pa % 8 = 0 ∧ !s.blockGone o then some o else none
  | _ => none

/-- An address in register space. -/
def inRegs (a : Nat) : Bool := decide (0xF000000000000 ≤ a)

/-- Whether a range of memory holds a hole (R27). -/
def State.rangeHole (s : State) (a n : Nat) : Bool :=
  (List.range ((a % 64 + n + 63) / 64)).any fun i => s.site (max a (a / 64 * 64 + 64 * i)) == .hole

/-- The registers of a range. -/
def regsOf (a n : Nat) : List Nat := (List.range (n / 8)).map fun i => a + 8 * i

/-- What is wrong with ADDR and LENGTH of DEBUG_READ and DEBUG_WRITE. -/
def State.debugBad (s : State) (a n : Nat) (badLen : Bool) : Option Nat :=
  if inRegs a then firstBad [(a % 8 != 0 || (regsOf a n).any (fun x => (s.debugReg x).isNone), 0), (badLen || n % 8 != 0, 8)]
  else firstBad [(s.rangeHole a n, 0), (badLen, 8)]

/-! ### DEBUG_HALT (R185) -/

/-- The operator's stop of the named strands; an Off strand never stops. -/
def State.askHalt (s : State) (k : Nat) (m : BitVec 8) : State :=
  (List.range 4).foldl (fun s i => match (s.strand k i).run with
    | .off | .restStop => s
    | _ => if m.getLsbD i then s.modStrand k i fun x => { x with haltReq := true } else s) s

def cmdDebugHalt (core : BitVec 16) (strands : BitVec 8) : Cmd :=
  { row := ⟨0x90, false, true, false⟩
    chk := fun _ s =>
      { bad := firstBad [(decide (480 ≤ core.toNat), 0), (decide (15 < strands.toNat), 2)]
        absent := !s.coreLive core.toNat }
    run := fun t s => ((s.askHalt core.toNat strands).hold t.h t.op t.flags (.halt core.toNat strands)).settleHalts }

/-! ### DEBUG_READ and DEBUG_WRITE -/

def cmdDebugRead (addr : BitVec 64) (len : BitVec 32) : Cmd :=
  { row := ⟨0x91, false, true, false⟩
    chk := fun _ s => { bad := s.debugBad addr.toNat len.toNat (decide (len.toNat < 8) || decide (8064 < len.toNat)) }
    run := fun t s =>
      if inRegs addr.toNat then
        let (l, s) := (regsOf addr.toNat len.toNat).foldl (fun (acc : List Byte × State) a =>
          match acc.2.debugReg a with
          | some o => let (v, s) := acc.2.regLoad epCheter o; (acc.1 ++ toBytes 8 v.toNat, s)
          | none => acc) ([], s)
        s.ok t [] l
      else
        let (m, s) := s.fwRead .phys addr.toNat len.toNat
        s.finishTransfer t true len.toNat m }

/-- What a DEBUG_WRITE is measured with (R447). -/
def debugParams (addr : BitVec 64) (len : BitVec 32) : List Byte := toBytesBE 8 addr.toNat ++ toBytesBE 4 len.toNat

def cmdDebugWrite (addr : BitVec 64) (len : BitVec 32) (bytes : List Byte) : Cmd :=
  { row := ⟨0x92, false, true, false⟩
    chk := fun _ s =>
      { denied := inRegs addr.toNat && (regsOf addr.toNat len.toNat).any fun a => match s.debugReg a with
          | some o => (match blkOf o with
            | some (b, _, n) => s.mayStore .firmware b n && !s.mayStore .debug b n
            | none => false)
          | none => false
        bad := s.debugBad addr.toNat len.toNat (len.toNat != bytes.length) }
    run := fun t s =>
      let sha := Config.sha256 bytes
      let good (s : State) : State := s.measureDebug t.op t.num (debugParams addr len) (some sha)
      if inRegs addr.toNat then
        (good (((regsOf addr.toNat len.toNat).zip (dataRuns 8 bytes.length 0 bytes)).foldl (fun s (x : Nat × Nat × List Byte) =>
          match s.debugReg x.1 with
          | some o => s.regStore .debug o (BitVec.ofNat 64 (ofBytes x.2.2))
          | none => s) s)).ok t [] []
      else
        let (m, s) := s.fwWrite .phys addr.toNat bytes
        let s := if m.asks.isEmpty && m.bad.isNone then good s else s
        let s := s.finishTransfer t false len.toNat m
        if m.asks.isEmpty then s
        else s.modHost fun x => { x with pending := x.pending.map fun k =>
          if k.h = t.h ∧ k.opcode = t.op then { k with record := some (debugParams addr len, sha) } else k } }

/-! ### TRACE_CONFIG (R461) -/

/-- Pages of a trace ring. -/
def ringPages (buf size : Nat) : List Nat := (List.range size).map (buf / pageBytes + ·)

/-- The unit's ring and setting; SIZE 0 stops it. -/
def State.traceConfig (s : State) (o : TraceOp) : State :=
  let old := (s.traces.filter (·.trc == o.trc.toNat)).flatMap fun x => ringPages x.buf x.size
  let rest := s.traces.filter (·.trc != o.trc.toNat)
  let own := s.ext.owned.filter fun e => !old.contains e.1
  let s := s.setRf (Reg.CHT_TRACE o.trc.toNat) Reg.CHT_TRACE.WPOS 0
  if o.size = 0 then { s with traces := rest, ext := { s.ext with owned := own } }
  else
    { s with
      traces := rest ++ [⟨o.trc.toNat, o.events, o.core.toNat, o.strands, o.buf.toNat, o.size.toNat⟩]
      ext := { s.ext with owned := own ++ (ringPages o.buf.toNat o.size.toNat).map fun g => (g, 15) } }

def cmdTraceConfig (o : TraceOp) : Cmd :=
  { row := ⟨0x93, false, true, false⟩
    chk := fun _ s =>
      let ring := ringPages o.buf.toNat o.size.toNat
      let old := (s.traces.filter (·.trc == o.trc.toNat)).flatMap fun x => ringPages x.buf x.size
      let top := 24 * 2 ^ 36
      { bad := firstBad [(decide (7 < o.trc.toNat), 0), (decide (15 < o.events.toNat), 1), (decide (480 ≤ o.core.toNat), 2),
          (decide (15 < o.strands.toNat), 4), (o.buf.toNat % pageBytes != 0 || decide (top ≤ o.buf.toNat), 8),
          (decide (top < o.buf.toNat + o.size.toNat * pageBytes), 16)]
        absent := o.size != 0 && (!s.coreLive o.core.toNat || ring.any fun g => !s.pageThere g)
        taken := ring.any fun g => !old.contains g && s.ext.owned.any (·.1 == g) }
    run := fun t s =>
      ((s.traceConfig o).measureDebug t.op t.num (toBytesBE 1 o.trc.toNat ++ toBytesBE 1 o.events.toNat ++ toBytesBE 2 o.core.toNat
        ++ toBytesBE 1 o.strands.toNat ++ toBytesBE 3 0 ++ toBytesBE 8 o.buf.toNat ++ toBytesBE 4 o.size.toNat ++ toBytesBE 4 0) none).ok t [] [] }

/-! ### PERF_READ (R401) -/

/-- What an S-mode strand of a partition may read (R29). -/
def State.partReads (s : State) (p : Nat) (pa : Nat) : Bool :=
  match s.site pa with
  | .register o => (match blkOf o with
    | some (.core, _, k) => !isSteward k && s.partOf (clusterOf k) == p
    | some (.cluster, _, u) => s.partOf u == p
    | some (.device b, _, _) => b == 5 || b == 9
    | none => false)
  | _ => false

def cmdPerfRead (count : BitVec 16) (addrs : List (BitVec 64)) : Cmd :=
  { row := ⟨0x94, false, true, true⟩
    chk := fun t s =>
      { denied := match t.who.part? with
          | some p => addrs.any fun a => !s.partReads p a.toNat
          | none => false
        bad := firstBad ((count == 0 || decide (1000 < count.toNat) || count.toNat != addrs.length, 0)
          :: addrs.zipIdx.map fun (a, i) => ((s.debugReg a.toNat).isNone, 4 + 8 * i)) }
    run := fun t s =>
      let (l, s) := addrs.foldl (fun (acc : List Byte × State) a =>
        match acc.2.debugReg a.toNat with
        | some o => let (v, s) := acc.2.regLoad epCheter o; (acc.1 ++ toBytesBE 8 v.toNat, s)
        | none => acc) ([], s)
      s.ok t [] l }

/-! ### Commands -/

/-- DEBUG_HALT (R185, R460). -/
def execDebugHalt (h : KHdr) (core : BitVec 16) (strands : BitVec 8) (s : State) : Out :=
  .next (s.perform h (.debugHalt h core strands) (cmdDebugHalt core strands))
/-- DEBUG_READ (R460). -/
def execDebugRead (h : KHdr) (addr : BitVec 64) (len : BitVec 32) (s : State) : Out :=
  .next (s.perform h (.debugRead h addr len) (cmdDebugRead addr len))
/-- DEBUG_WRITE (R401, R460). -/
def execDebugWrite (h : KHdr) (addr : BitVec 64) (len : BitVec 32) (bytes : List Byte) (s : State) : Out :=
  .next (s.perform h (.debugWrite h addr len bytes) (cmdDebugWrite addr len bytes))
/-- TRACE_CONFIG (R461). -/
def execTraceConfig (h : KHdr) (o : TraceOp) (s : State) : Out := .next (s.perform h (.traceConfig h o) (cmdTraceConfig o))
/-- PERF_READ (R401). -/
def execPerfRead (h : KHdr) (count : BitVec 16) (addrs : List (BitVec 64)) (s : State) : Out :=
  .next (s.perform h (.perfRead h count addrs) (cmdPerfRead count addrs))

end Sys2Proof.Machine
end

