-- ==== Sys2Proof/Machine/Links.lean ====
section
/-! DEFINITION. LINK_CONFIG and the remote windows (R334, R346, R348, R354 to R356). -/

namespace Sys2Proof.Machine

/-! ### LINK_CONFIG -/

/-- EN and MAXW of a port; a port that is UP retrains when its widest width is raised (R334). -/
def State.portConfig (s : State) (en : BitVec 32) (maxw : BitVec 64) (p : Nat) : State :=
  let old := s.maxWidth p
  let s := s.setRf (Reg.TRL_CFG p) Reg.TRL_CFG.MAXW (let m := fld maxw (2 * p + 1) (2 * p); if m = 3 then 0 else m)
  let s := if en.getLsbD p then s.trailEnable p else s.trailDisable p
  if s.maxWidth p < old ∧ s.portUp p then s.retrain p else s

def cmdLinkConfig (devid : BitVec 16) (valid hops : BitVec 8) (en : BitVec 32) (maxw : BitVec 64) : Cmd :=
  { row := ⟨0xA0, false, true, false⟩
    chk := fun _ _ => { bad := firstBad [(decide (1 < valid.toNat), 2), (decide (2 ^ 18 ≤ en.toNat), 4), (decide (2 ^ 36 ≤ maxw.toNat), 8)] }
    run := fun t s =>
      let s := (s.setRf Reg.TRL_DEVID Reg.TRL_DEVID.DEVID devid.toNat).setRf Reg.TRL_DEVID Reg.TRL_DEVID.VALID valid.toNat
      let s := s.setRf Reg.TRL_CTL Reg.TRL_CTL.HOPS (if hops = 0 then 8 else hops.toNat)
      let s := (List.range 18).foldl (fun s p => s.portConfig en maxw p) s
      (s.measureCmd t (toBytesBE 2 devid.toNat ++ toBytesBE 1 valid.toNat ++ toBytesBE 1 hops.toNat ++ toBytesBE 4 en.toNat
        ++ toBytesBE 8 maxw.toNat) none).ok t [] [] }

/-! ### WINDOW_OPEN (R355) -/

/-- The cluster that holds a place of memory (R11): two stacks and one channel for each. -/
def clusterOfSite : Site → Option Nat
  | .hbm n _ => some (n / 2)
  | .ddr n _ => some n
  | .clm u _ => some u
  | .store k _ _ => some (clusterOf k)
  | _ => none

/-- One populated part of the map. -/
def sameSite : Site → Site → Bool
  | .hbm _ _, .hbm _ _ => true
  | .ddr _ _, .ddr _ _ => true
  | .clm u _, .clm v _ => u == v
  | .store k _ _, .store j _ _ => k == j
  | _, _ => false

/-- A window's pages lie in one part of memory, in clusters of its partition. -/
def State.windowMemory (s : State) (part base size : Nat) : Bool :=
  (List.range size).all fun i =>
    let a := base + pageBytes * i
    [a, a + pageBytes - 1].all fun x =>
      sameSite (s.site base) (s.site x) && (clusterOfSite (s.site x)).any fun u => s.partOf u == part

/-- A window's counters belong to its partition. -/
def State.windowCounters (s : State) (part first size : Nat) : Bool :=
  (List.range size).all fun i => match counterOfNum (first + i) with
    | some (.core k _) => s.partOf (clusterOf k) == part
    | some (.shared n) => s.rf (Reg.SYN_SCTL n) Reg.SYN_SCTL.OWNER == part
    | none => false

/-- BASE of a window: a page's address, or a counter's number. -/
def baseBad (o : WinOp) : Bool :=
  if o.kind = 0 then o.base.toNat % pageBytes != 0 || decide (2 ^ 52 ≤ o.base.toNat) else decide (2 ^ 14 ≤ o.base.toNat)

def State.windowOpen (s : State) (o : WinOp) : State :=
  let w := o.win.toNat
  let a := Reg.TRL_WINA w
  let b (i : Nat) : Nat := bit (o.perm.getLsbD i)
  let s := (s.setRf (Reg.TRL_WINB w) Reg.TRL_WINB.BASE o.base.toNat).setRf (Reg.TRL_WINC w) Reg.TRL_WINC.SIZE o.size.toNat
  let s := (s.setRf (Reg.TRL_WINC w) Reg.TRL_WINC.SRCDEV o.srcdev.toNat).setRf (Reg.TRL_WINC w) Reg.TRL_WINC.SRCMASK o.srcmask.toNat
  let s := (s.setRf a Reg.TRL_WINA.KIND o.kind.toNat).setRf a Reg.TRL_WINA.PART o.part.toNat
  let s := ((s.setRf a Reg.TRL_WINA.RD (b 0)).setRf a Reg.TRL_WINA.WR (b 1)).setRf a Reg.TRL_WINA.SIGOK (b 2)
  let s := (s.setRf a Reg.TRL_WINA.TOKOK (b 3)).bump a Reg.TRL_WINA.EPOCH 1
  (s.setRf a Reg.TRL_WINA.SPOIL 0).setRf a Reg.TRL_WINA.OPEN 1

def cmdWindowOpen (o : WinOp) : Cmd :=
  { row := ⟨0xA1, false, true, false⟩
    chk := fun _ s =>
      let fits := if o.kind = 0 then s.windowMemory o.part.toNat o.base.toNat o.size.toNat
        else s.windowCounters o.part.toNat o.base.toNat o.size.toNat
      { bad := firstBad [(decide (1 < o.kind.toNat), 1), (decide (15 < o.perm.toNat), 2), (decide (11 < o.part.toNat), 3), (baseBad o, 4),
          (o.size == 0 || decide (2 ^ 22 ≤ o.size.toNat), 12), ((s.part? o.part.toNat).isSome && !fits, 4)]
        absent := (s.part? o.part.toNat).isNone
        taken := s.rbit (Reg.TRL_WINA o.win.toNat) Reg.TRL_WINA.OPEN }
    run := fun t s =>
      let s := s.windowOpen o
      let s := s.measureCmd t (toBytesBE 1 o.win.toNat ++ toBytesBE 1 o.kind.toNat ++ toBytesBE 1 o.perm.toNat ++ toBytesBE 1 o.part.toNat
        ++ toBytesBE 8 o.base.toNat ++ toBytesBE 4 o.size.toNat ++ toBytesBE 2 o.srcdev.toNat ++ toBytesBE 2 o.srcmask.toNat) none
      s.ok t [] (toBytesBE 1 (s.rf (Reg.TRL_WINA o.win.toNat) Reg.TRL_WINA.EPOCH)) }

/-! ### WINDOW_CLOSE (R356) -/

/-- Writes of a window that the mesh has not answered, and its signals that wait behind writes. -/
def State.windowOpenWork (s : State) (w : Nat) : List (Nat × Nat) :=
  (List.range 18).flatMap fun p =>
    ((s.port p).serve.filter fun x => x.t.kind == .wr && x.t.win == w).map (fun x => (p, x.tag))
      ++ ((s.port p).held.filter fun x => x.t.kind == .sig && x.t.win == w).map fun x => (p, x.id)

def cmdWindowClose (win : BitVec 8) : Cmd :=
  { row := ⟨0xA2, false, true, false⟩
    run := fun t s =>
      let s := s.setRf (Reg.TRL_WINA win.toNat) Reg.TRL_WINA.OPEN 0
      ((s.measureCmd t (toBytesBE 1 win.toNat) none).hold t.h t.op t.flags (.window (s.windowOpenWork win.toNat))).settleWindows }

/-! ### Commands -/

/-- LINK_CONFIG (R346). -/
def execLinkConfig (h : KHdr) (devid : BitVec 16) (valid hops : BitVec 8) (en : BitVec 32) (maxw : BitVec 64) (s : State) : Out :=
  .next (s.perform h (.linkConfig h devid valid hops en maxw) (cmdLinkConfig devid valid hops en maxw))
/-- WINDOW_OPEN (R355). -/
def execWindowOpen (h : KHdr) (o : WinOp) (s : State) : Out := .next (s.perform h (.windowOpen h o) (cmdWindowOpen o))
/-- WINDOW_CLOSE (R356). -/
def execWindowClose (h : KHdr) (win : BitVec 8) (s : State) : Out := .next (s.perform h (.windowClose h win) (cmdWindowClose win))

end Sys2Proof.Machine
end

