-- ==== Sys2Proof/Machine/Sessions.lean ====
section
/-! DEFINITION. HELLO, sessions, queries, time and the schedule (Table 12-6, R386, R387, R390). -/

namespace Sys2Proof.Machine

/-! ### HELLO and queries -/

/-- SERVICE: 0 starting, 1 reduced, 2 full (Table 13-8). -/
def State.service (s : State) : Nat := s.rf Reg.CHT_BOOT Reg.CHT_BOOT.STAGE - 3

/-- HELLO's reply data. -/
def State.helloData (s : State) : List Byte :=
  toBytesBE 1 1 ++ toBytesBE 1 1 ++ toBytesBE 1 s.service ++ toBytesBE 1 s.sec.lifecycle ++ toBytesBE 8 (s.reg Reg.ID_PART).toNat
    ++ toBytesBE 8 (s.reg Reg.ID_SERIAL).toNat ++ toBytesBE 2 (64 - s.host.sessions.length) ++ toBytesBE 2 8064 ++ toBytesBE 4 0
def cmdHello : Cmd := { row := ⟨0x01, true, true, true⟩, run := fun t s => s.ok t [] s.helloData }

/-- The registers that QUERY_INFO reports: ID_PART to ID_CORE_LIVE7. -/
def infoRegs : List Nat :=
  [Reg.ID_PART, Reg.ID_SERIAL, Reg.ID_CAPS, Reg.ID_MEM_LIVE, Reg.ID_CLU_ASSIGN, Reg.ID_CLU_STATE] ++ (List.range 8).map Reg.ID_CORE_LIVE
def cmdQueryInfo : Cmd :=
  { row := ⟨0x10, true, true, true⟩
    run := fun t s => s.ok t [] (infoRegs.flatMap (fun a => toBytesBE 8 (s.reg a).toNat)
      ++ toBytesBE 8 ((s.sec.running.map (·.img.version.toNat)).getD 0) ++ toBytesBE 32 ((s.sec.running.map (·.img.digest.toNat)).getD 0)) }

/-- Retired pages of a memory (R313). -/
def State.retiredIn (s : State) (m : ExtMem) : Nat := (s.ext.retired.filter fun g => memOfPage g == m).length
/-- Rest-stop entries of every strand (R186). -/
def State.restEntries (s : State) : Nat :=
  (List.range 480).foldl (fun n k => (List.range 4).foldl (fun n i => n + s.rf (Reg.CORE_XCOUNT k i) Reg.CORE_XCOUNT.RSTOPS) n) 0
/-- Trail ports that are not UP (R335). -/
def State.portsDown (s : State) : Nat :=
  (List.range 18).foldl (fun n p => n + bit (s.rf (Reg.TRL_STAT p) Reg.TRL_STAT.LINK != 2) * 2 ^ p) 0
/-- QUERY_HEALTH's reply data. -/
def State.healthData (s : State) : List Byte :=
  (List.range 24).flatMap (fun n => toBytesBE 4 (s.retiredIn (.hbm n))) ++ (List.range 12).flatMap (fun n => toBytesBE 4 (s.retiredIn (.ddr n)))
    ++ toBytesBE 8 s.ext.poison.length ++ toBytesBE 8 s.restEntries ++ toBytesBE 2 s.phys.retired.length ++ toBytesBE 4 s.portsDown
    ++ toBytesBE 2 (s.rf Reg.PWR_HOT Reg.PWR_HOT.HOTJ) ++ toBytesBE 1 (s.rf Reg.PWR_CLK Reg.PWR_CLK.THROTTLE)
    ++ toBytesBE 1 (s.rf Reg.TIME_STAT Reg.TIME_STAT.LOCK) ++ toBytesBE 8 (s.rf Reg.CHT_MBOX Reg.CHT_MBOX.DISC)
def cmdQueryHealth : Cmd := { row := ⟨0x11, false, true, true⟩, run := fun t s => s.ok t [] s.healthData }

/-- TIME_STATUS's reply data. -/
def State.timeData (s : State) : List Byte :=
  s.time.bytesBE ++ toBytesBE 1 (s.rf Reg.TIME_STAT Reg.TIME_STAT.LOCK) ++ toBytesBE 1 (s.rf Reg.TIME_STAT Reg.TIME_STAT.SOURCE)
    ++ toBytesBE 4 (s.rf Reg.TIME_STAT Reg.TIME_STAT.OFFSET) ++ toBytesBE 8 (s.reg Reg.TIME_GM).toNat
def cmdTimeStatus : Cmd := { row := ⟨0x60, true, true, true⟩, run := fun t s => s.ok t [] s.timeData }

/-! ### Sessions (R387) -/

/-- The SPDM session that a SESSION_OPEN names authorises it (R387, R454). -/
def State.spdmAuthorises (s : State) (sid : Nat) : Bool := s.sec.spdm.any fun x => x.sid == sid && x.finished && x.authorised

/-- A session number is free: not zero, not in use, and not in use within the last 60 s (R387). -/
def State.numFree (s : State) (n : Nat) : Bool :=
  n != 0 && !s.host.sessions.any (·.num == n)
    && !s.host.closed.any fun c => c.1 == n && decide (s.time.inNs < c.2 + 60 * 1000000000)

/-- The first free session number from one on. -/
def State.searchNum (s : State) : Nat → Nat → Nat
  | 0, n => n
  | f + 1, n => if s.numFree n then n else s.searchNum f ((n + 1) % 2 ^ 32)

/-- The checks of a SESSION_OPEN. -/
def State.openChecks (s : State) (o : OpenOp) : Checks :=
  { bad := firstBad [(decide (1 < o.role.toNat), 0), (o.role == 1 && decide (11 < o.part.toNat), 1),
      (o.window == 0 || decide (4096 < o.window.toNat), 2),
      (decide (o.maxdata.toNat < 1024) || decide (8064 < o.maxdata.toNat) || o.maxdata.toNat % 64 != 0, 4),
      (o.keep == 0 || decide (600 < o.keep.toNat), 6)]
    auth := !s.spdmAuthorises o.spdm.toNat
    absent := o.role == 1 && (s.part? o.part.toNat).isNone
    busy := decide (64 ≤ s.host.sessions.length) }

/-- A new session: its number and the device's ISN are firmware's choice. -/
def State.newSession (s : State) (t : Turn) (o : OpenOp) : List Byte × State :=
  let (a, s) := s.fresh
  let (b, s) := s.fresh
  let n := s.searchNum (s.host.sessions.length + s.host.closed.length + 2) (a % 2 ^ 32)
  let isn := b % 2 ^ 32
  let peer : Peer := ((s.host.zero.find? (·.1 == t.h.tag.toNat)).map (·.2)).getD {}
  let x : Session :=
    { num := n, role := o.role.toNat, part := o.part.toNat, window := o.window.toNat, maxdata := o.maxdata.toNat, keep := o.keep.toNat
      spdm := o.spdm.toNat, peer := peer, next := o.isn.toNat, txNext := isn }
  (toBytesBE 4 n ++ toBytesBE 4 isn ++ toBytesBE 2 o.window.toNat ++ toBytesBE 2 o.maxdata.toNat ++ toBytesBE 2 o.keep.toNat,
    s.modHost fun h => { h with sessions := h.sessions ++ [x] })

/-- SESSION_OPEN: a repeated NONCE receives the reply that it has had (R387). -/
def State.openSession (s : State) (t : Turn) (o : OpenOp) : State :=
  match s.host.opens.find? fun e => e.1 == o.nonce && decide (s.time.inNs < e.2.1 + 10 * 1000000000) with
  | some (_, _, p) => s.reply t.h t.op t.flags (ofBytesBE (p.payload.take 2)) (ofBytesBE ((p.payload.drop 2).take 2)) (p.payload.drop 8)
  | none =>
    let (st, d, data, s) : Nat × Nat × List Byte × State :=
      match (s.openChecks o).first with
      | some (st, d) => (st, d, [], s)
      | none => let (data, s1) := s.newSession t o; (0, 0, data, s1)
    let p : KPkt := { type := 2, session := 0, opcode := t.op, tag := t.h.tag.toNat, payload := replyBytes st d data }
    (s.modHost fun h => { h with opens := (o.nonce, s.time.inNs, p) :: h.opens.filter (·.1 != o.nonce) }).answer t st d data
def cmdSessionOpen (o : OpenOp) : Cmd := { row := ⟨0x02, true, false, false⟩, run := fun t s => s.openSession t o }

def cmdSessionClose : Cmd :=
  { row := ⟨0x03, false, true, true⟩, run := fun t s => s.closeSession t.num fun s => s.ok t [] [] }

/-! ### The schedule -/

/-- The session that a SCHEDULE names, 0 for its own. -/
def Turn.schedSession (t : Turn) (session : BitVec 32) : Nat := if session = 0 then t.num else session.toNat
def schedChecks (session : BitVec 32) (t : Turn) (s : State) : Checks :=
  let n := t.schedSession session
  { denied := t.who != .operator && n != t.num, absent := (s.session? n).isNone }

/-- An entry of LIST. -/
def Sched.entry (x : Sched) : List Byte := toBytesBE 4 x.session ++ toBytesBE 2 x.tag ++ toBytesBE 2 x.opcode ++ toBytesBE 8 x.exec.toNat
def cmdScheduleList (session : BitVec 32) : Cmd :=
  { row := ⟨0x61, false, true, true⟩, chk := schedChecks session
    run := fun t s =>
      let l := s.host.scheduled.filter (·.session == t.schedSession session)
      s.ok t [] (toBytesBE 2 l.length ++ l.flatMap Sched.entry) }

/-- A scheduled command has started: an alarm of it has fired. -/
def State.schedStarted (s : State) (x : Sched) : Bool := x.alarms.any fun n => !s.rbit (Reg.TIME_ALA n) Reg.TIME_ALA.EN
/-- What a SCHEDULE CANCEL names. -/
def State.schedOf (s : State) (n tag : Nat) : Option Sched := s.host.scheduled.find? fun x => x.session == n && x.tag == tag
def cmdScheduleCancel (tag : BitVec 16) (session : BitVec 32) : Cmd :=
  { row := ⟨0x61, false, true, true⟩
    chk := fun t s =>
      let n := t.schedSession session
      let running := ((s.session? n).map fun x => x.running.contains tag.toNat).getD false
      { schedChecks session t s with
        bad := if (s.session? n).isSome && (s.schedOf n tag.toNat).isNone && !running then some 2 else none
        taken := running || (s.schedOf n tag.toNat).any s.schedStarted }
    run := fun t s =>
      (match s.schedOf (t.schedSession session) tag.toNat with
       | some x => s.cancelSched x
       | none => s).ok t [] [] }

/-! ### Commands -/

/-- HELLO (R400). -/
def execHello (h : KHdr) (s : State) : Out := .next (s.perform h (.hello h) cmdHello)
/-- SESSION_OPEN (R387). -/
def execSessionOpen (h : KHdr) (o : OpenOp) (s : State) : Out := .next (s.perform h (.sessionOpen h o) (cmdSessionOpen o))
/-- SESSION_CLOSE (R390). -/
def execSessionClose (h : KHdr) (s : State) : Out := .next (s.perform h (.sessionClose h) cmdSessionClose)
/-- QUERY_INFO (R400, R2). -/
def execQueryInfo (h : KHdr) (s : State) : Out := .next (s.perform h (.queryInfo h) cmdQueryInfo)
/-- QUERY_HEALTH (R400). -/
def execQueryHealth (h : KHdr) (s : State) : Out := .next (s.perform h (.queryHealth h) cmdQueryHealth)
/-- TIME_STATUS (R400). -/
def execTimeStatus (h : KHdr) (s : State) : Out := .next (s.perform h (.timeStatus h) cmdTimeStatus)
/-- SCHEDULE LIST (R400). -/
def execScheduleList (h : KHdr) (session : BitVec 32) (s : State) : Out :=
  .next (s.perform h (.scheduleList h session) (cmdScheduleList session))
/-- SCHEDULE CANCEL (R400). -/
def execScheduleCancel (h : KHdr) (tag : BitVec 16) (session : BitVec 32) (s : State) : Out :=
  .next (s.perform h (.scheduleCancel h tag session) (cmdScheduleCancel tag session))

end Sys2Proof.Machine
end

