-- ==== Sys2Proof/Machine/Time.lean ====
section
/-! DEFINITION. The time unit and what happens at network times: samples and lock, PPS, alarms, scheduled commands (R396, R397, R408 to
R415). -/

namespace Sys2Proof.Machine

/-! ### Commands by their constructor -/

/-- The header and the meaning of a Kilper command. -/
def kilperCmd (i : Instr) : Option (KHdr × Cmd) :=
  match i with
  | .hello h => some (h, cmdHello)
  | .sessionOpen h o => some (h, cmdSessionOpen o)
  | .sessionClose h => some (h, cmdSessionClose)
  | .queryInfo h => some (h, cmdQueryInfo)
  | .queryHealth h => some (h, cmdQueryHealth)
  | .memWrite h addr len data => some (h, cmdMemWrite addr len data)
  | .memRead h addr len => some (h, cmdMemRead addr len)
  | .memFill h addr len pattern => some (h, cmdMemFill addr len pattern)
  | .scrub h addr pages => some (h, cmdScrub addr pages)
  | .partCreate h part clusters interval => some (h, cmdPartCreate part clusters interval)
  | .partDestroy h part => some (h, cmdPartDestroy part)
  | .mapPages h o => some (h, cmdMapPages o)
  | .unmapPages h part scrub va count => some (h, cmdUnmapPages part scrub va count)
  | .loadProgram h prog priv entry code codeLen => some (h, cmdLoadProgram prog priv entry code codeLen)
  | .loadRoutes h image entries => some (h, cmdLoadRoutes image entries)
  | .loadMicrocode h clusters entry umode start nops ops => some (h, cmdLoadMicrocode clusters entry umode start nops ops)
  | .launchStart h prog strands clusters args => some (h, cmdLaunchStart prog strands clusters args)
  | .launchWake h nctr ctrs => some (h, cmdLaunchWake nctr ctrs)
  | .signalAdd h n x => some (h, cmdSignalAdd n x)
  | .signalSet h n x => some (h, cmdSignalSet n x)
  | .waitCounterWatch h n x timeout => some (h, cmdWaitCounter false n x timeout)
  | .waitCounterTake h n x timeout => some (h, cmdWaitCounter true n x timeout)
  | .waypointTake h part => some (h, cmdWaypointTake part)
  | .waypointRestore h part waypoint => some (h, cmdWaypointRestore part waypoint)
  | .clusterReset h cluster => some (h, cmdClusterReset cluster)
  | .coreRetire h core => some (h, cmdCoreRetire core)
  | .timeStatus h => some (h, cmdTimeStatus)
  | .scheduleList h session => some (h, cmdScheduleList session)
  | .scheduleCancel h tag session => some (h, cmdScheduleCancel tag session)
  | .attest h r => some (h, cmdAttest r)
  | .keyInstallDdr5 h slot k => some (h, cmdKeyInstallDdr5 slot k)
  | .keyInstallMacsecTx h an k => some (h, cmdKeyInstallTx an k)
  | .keyInstallMacsecRx h an k => some (h, cmdKeyInstallRx an k)
  | .keyRetireDdr5 h slot => some (h, cmdKeyRetireDdr5 slot)
  | .keyRetireMacsec h rx an => some (h, cmdKeyRetireMacsec rx an)
  | .fwStage h len img => some (h, cmdFwStage len img)
  | .fwActivate h deadline => some (h, cmdFwActivate deadline)
  | .lifecycleProvisioned h confirm => some (h, cmdLifecycleProvisioned confirm)
  | .lifecycleField h confirm => some (h, cmdLifecycleField confirm)
  | .lifecycleReturn h confirm => some (h, cmdLifecycleReturn confirm)
  | .debugHalt h core strands => some (h, cmdDebugHalt core strands)
  | .debugRead h addr len => some (h, cmdDebugRead addr len)
  | .debugWrite h addr len bytes => some (h, cmdDebugWrite addr len bytes)
  | .traceConfig h o => some (h, cmdTraceConfig o)
  | .perfRead h count addrs => some (h, cmdPerfRead count addrs)
  | .linkConfig h devid valid hops en maxw => some (h, cmdLinkConfig devid valid hops en maxw)
  | .windowOpen h o => some (h, cmdWindowOpen o)
  | .windowClose h win => some (h, cmdWindowClose win)
  | _ => none

/-! ### Alarms (R414) -/

def State.alarmNs (s : State) (n : Nat) : Nat := s.execNs (s.reg (Reg.TIME_ALB n))
def State.alarmOn (s : State) (n : Nat) : Bool := s.rbit (Reg.TIME_ALA n) Reg.TIME_ALA.EN
/-- The counter of an alarm lies in a cluster that a capture pauses (R418), so that a signal does not reach it. -/
def State.alarmPaused (s : State) (n : Nat) : Bool :=
  s.rbit (Reg.TIME_ALA n) Reg.TIME_ALA.ACT
    && ((counterOfNum (s.rf (Reg.TIME_ALA n) Reg.TIME_ALA.N)).bind s.counterHub).any s.net.paused.contains
/-- Alarms of a command that come before one of them and are armed. -/
def State.alarmBehind (s : State) (n : Nat) : Bool :=
  s.host.scheduled.any fun x => x.alarms.contains n && (x.alarms.takeWhile (· != n)).any s.alarmOn
/-- An alarm whose time has come. -/
def State.alarmDue (s : State) (n : Nat) : Bool :=
  decide (n < 64) && s.alarmOn n && decide (s.alarmNs n ≤ s.time.inNs) && !s.alarmPaused n && !s.alarmBehind n

/-- LATE: more than 1 µs after the time, or passed by a step (R415, Table 12-3). -/
def State.lateFlag (s : State) (e : W64) (passed : Bool) : Nat := if passed || decide (s.execNs e + 1000 < s.time.inNs) then 16 else 0

/-- A command whose alarms have all fired receives its last reply. -/
def State.finishAlarms (s : State) (passed : Bool) (x : Sched) : State :=
  if x.alarms.isEmpty || x.alarms.any s.alarmOn then s
  else
    let ctrs := x.alarms.map fun n => s.rf (Reg.TIME_ALA n) Reg.TIME_ALA.N
    let data := if x.opcode = 0x44 then toBytesBE 4 (s.fwValue (ctrs.headD 0)) else []
    (s.modHost fun h => { h with scheduled := h.scheduled.erase x }).reply ⟨BitVec.ofNat 32 x.session, BitVec.ofNat 16 x.tag, none⟩ x.opcode
      (8 ||| s.lockFlag ||| s.lateFlag x.exec passed) (s.okStatus (s.ctrClusters ctrs)) 0 data

/-- An alarm fires: the steward cores are interrupted, or AMT is added to counter N; EN is cleared. -/
def State.fireAlarm (s : State) (n : Nat) (passed : Bool) : State :=
  if !s.alarmDue n then s
  else
    let a := Reg.TIME_ALA n
    let ctr := s.rf a Reg.TIME_ALA.N
    let mine := s.host.scheduled.filter fun x => x.alarms.contains n
    let s := s.setRf a Reg.TIME_ALA.EN 0
    let s := if s.rbit a Reg.TIME_ALA.ACT then (if s.ctrAbsent ctr then s else s.fwAdd ctr (signed 32 (s.rf a Reg.TIME_ALA.AMT)))
      else { s with time := { s.time with steward := true } }
    mine.foldl (fun s x => s.finishAlarms passed x) s

/-! ### Scheduled commands (R397) -/

/-- A scheduled command that firmware starts, when nothing holds it back (R418, R431). -/
def State.schedReady (s : State) (x : Sched) : Option (KHdr × Cmd × Asker) :=
  match kilperCmd x.cmd with
  | none => none
  | some (h, c) => match s.asker? h with
    | none => none
    | some w =>
      if x.alarms.isEmpty && s.serving && !(s.handing && !c.always) && !(s.stopped w.part? || s.stopped (c.acts s))
          && decide (s.execNs x.exec ≤ s.time.inNs) then some (h, c, w) else none

/-- Whether one that was scheduled earlier for the same time is ready too. -/
def State.schedBehind (s : State) (k : Nat) (x : Sched) : Bool :=
  (s.host.scheduled.take k).any fun y => s.execNs y.exec == s.execNs x.exec && (s.schedReady y).isSome

/-- A scheduled command starts: it is checked again, and has its effect. -/
def State.startSched (s : State) (k : Nat) (passed : Bool) : State :=
  match s.host.scheduled[k]? with
  | none => s
  | some x => match s.schedReady x with
    | none => s
    | some (h, c, w) =>
      if s.schedBehind k x then s
      else
        let s1 := s.modHost fun y => { y with scheduled := y.scheduled.eraseIdx k }
        (s1.startChecked ⟨h, x.opcode, 8 ||| s.lockFlag ||| s.lateFlag x.exec passed, w⟩ c).getD s1

/-! ### Steps of network time (R411, R415) -/

/-- What a forward step passes: the earliest of the alarms that are due (by number) and of the scheduled commands. -/
def State.firstPassed (s : State) : Option (Nat × Bool × Nat) :=
  let al := ((List.range 64).filter s.alarmDue).map fun n => (s.alarmNs n, true, n)
  let sc := (s.host.scheduled.zipIdx.filter fun x => (s.schedReady x.1).isSome).map fun x => (s.execNs x.1.exec, false, x.2)
  (al ++ sc).foldl (fun b x => match b with
    | none => some x
    | some y => if x.1 < y.1 then some x else some y) none

/-- All of them, in order of time. -/
def firePassed : Nat → State → State
  | 0, s => s
  | f + 1, s => match s.firstPassed with
    | none => s
    | some (_, true, n) => firePassed f (s.fireAlarm n true)
    | some (_, false, k) => firePassed f (s.startSched k true)

/-- Network time steps to a sample. -/
def State.stepTime (s : State) (ns : Nat) : State :=
  let ahead := decide (s.time.inNs < ns)
  let s := { s with time := { s.time with now := ns * 2 ^ 32 } }.bump Reg.TIME_EVT Reg.TIME_EVT.STEPS 1
  let s := if ahead then firePassed (64 + s.host.scheduled.length) s else s
  { s with parts := s.parts.map fun x => { x with nextDue := s.nextMs (s.rf (Reg.TIME_WPA x.num) Reg.TIME_WPA.INTERVAL) } }

/-! ### Samples and lock (R409 to R412) -/

/-- LOCK; every change sends TIME_LOCK. -/
def State.setLock (s : State) (l : Nat) : State :=
  let old := s.rf Reg.TIME_STAT Reg.TIME_STAT.LOCK
  if old = l then s
  else
    let s := if old = 2 then s.bump Reg.TIME_EVT Reg.TIME_EVT.LOSSES 1 else s
    let s := s.setRf Reg.TIME_STAT Reg.TIME_STAT.LOCK l
    s.event .everyone 0x30 0xF (toBytesBE 1 l ++ toBytesBE 1 (s.rf Reg.TIME_STAT Reg.TIME_STAT.SOURCE) ++ toBytesBE 2 0)

/-- An offset in ns, saturated to 32 bits. -/
def satOffset (x : Int) : Nat := (max (-(2 ^ 31)) (min (2 ^ 31 - 1) x) % 2 ^ 32).toNat

/-- The discipline loop changes the increment by at most 100 ppm; how, the spec leaves to it. -/
def State.slew (s : State) : State :=
  let (v, s) := s.fresh
  { s with time := { s.time with inc := 6871947674 - 687194 + v % (2 * 687194 + 1) } }

/-- Samples in a row within 100 ns and above 1 µs. -/
def State.runs (s : State) (good bad : Nat) : State := { s with time := { s.time with good := good, bad := bad } }

/-- A valid sample: its offset and the time that it gives, in ns (Table 13-1). -/
def State.sample (s : State) (source : Nat) (offset : Int) (ns : Nat) : State :=
  let lock := s.rf Reg.TIME_STAT Reg.TIME_STAT.LOCK
  let close := decide (offset.natAbs ≤ 100)
  let good := if close then s.time.good + 1 else 0
  let s := (s.setRf Reg.TIME_STAT Reg.TIME_STAT.OFFSET (satOffset offset)).setRf Reg.TIME_STAT Reg.TIME_STAT.SOURCE source
  match lock with
  | 0 => (((s.setRf Reg.TIME_STAT Reg.TIME_STAT.HOLD 0).runs (bit close) 0).setLock 1).stepTime ns
  | 1 =>
    if 1000000 < offset.natAbs then (s.runs 0 0).stepTime ns
    else if 16 ≤ good then (s.slew.runs 0 0).setLock 2
    else s.slew.runs good 0
  | _ =>
    let bad := if 1000 < offset.natAbs then s.time.bad + 1 else 0
    if 4 ≤ bad then (s.slew.runs 0 0).setLock 1 else s.slew.runs 0 bad

/-- A completed exchange of the host port's slave clock (R381, R409). -/
def State.ptpSample (s : State) (x : PtpSample) : State :=
  let src := s.rf Reg.TIME_CFG Reg.TIME_CFG.SRC
  if src = 0 ∨ src = 2 then (s.setRf Reg.TIME_GM Reg.TIME_GM.GMID x.gmid.toNat).sample 1 x.offset x.time else s

/-- A rising edge on PPS_IN (R409). -/
def State.ppsEdge (s : State) : State :=
  let ns := s.time.edge * 1000000000
  let offset : Int := ((s.time.now : Int) - (ns * 2 ^ 32 : Nat)) / 2 ^ 32
  let src := s.rf Reg.TIME_CFG Reg.TIME_CFG.SRC
  let ptp := s.rf Reg.TIME_STAT Reg.TIME_STAT.LOCK == 2 && s.rf Reg.TIME_STAT Reg.TIME_STAT.SOURCE == 1
  let s := { s with time := { s.time with edge := (s.time.edge + 1) % 2 ^ 48 } }
  if src = 1 ∨ (src = 2 ∧ !ptp) then s.sample 2 offset ns else s

/-- No valid sample for 4 s: the unit runs on its last increment (R410, R412). -/
def State.sampleTimeout (s : State) : State :=
  if s.rf Reg.TIME_STAT Reg.TIME_STAT.LOCK = 0 then s
  else (((s.setRf Reg.TIME_STAT Reg.TIME_STAT.SOURCE 0).setRf Reg.TIME_STAT Reg.TIME_STAT.HOLD 1).runs 0 0).setLock 0

/-- Whether the device is powered and out of reset. -/
def State.alive (s : State) : Bool := s.phys.pwrGood && s.phys.resetN && !s.phys.inReset && !s.phys.tripped

/-- One cycle of the time clock (R408). -/
def State.tick (s : State) : State := if s.alive then { s with time := { s.time with now := s.time.now + s.time.inc } } else s

/-- PPS_IN_EDGE (R409). -/
def execPpsInEdge (s : State) : Out := .next (if s.alive then s.ppsEdge else s)
/-- SAMPLE_TIMEOUT (R410). -/
def execSampleTimeout (s : State) : Out := .next s.sampleTimeout
/-- PPS_OUT_RISE (R413). -/
def execPpsOutRise (s : State) : Out := .next (if s.alive && s.serving then { s with time := { s.time with ppsOut := true } } else s)
/-- PPS_OUT_FALL (R413). -/
def execPpsOutFall (s : State) : Out := .next { s with time := { s.time with ppsOut := false } }
/-- ALARM_FIRE (R414). -/
def execAlarmFire (n : Nat) (s : State) : Out := .next (s.fireAlarm n false)
/-- SCHEDULED_START (R397): the k-th of the scheduled commands. -/
def execScheduledStart (k : Nat) (s : State) : Out := .next (s.startSched k false)

end Sys2Proof.Machine
end

