-- ==== Sys2Proof/Machine/Frames.lean ====
section
/-! DEFINITION. Received Ethernet frames and Kilper packets, acknowledgements, retransmission and keep-alive (R378 to R390, R392). -/

namespace Sys2Proof.Machine

/-! ### Acknowledgements (R388, R389) -/

/-- A sequence number is later than another. -/
def seq32Later (a b : Nat) : Bool := let d := (a + 2 ^ 32 - b) % 2 ^ 32; decide (0 < d) && decide (d < 2 ^ 31)

/-- Ranges of consecutive sequence numbers received above NEXT, in ascending order: first and last, as distances from NEXT. -/
def sackRuns : List Nat → List (Nat × Nat)
  | [] => []
  | a :: l => match sackRuns l with
    | (f, z) :: r => if f = a + 1 then (a, z) :: r else (a, a) :: (f, z) :: r
    | [] => [(a, a)]

/-- The distances of held packets from NEXT, in ascending order. -/
def Session.heldAt (x : Session) : List Nat :=
  ((x.held.map fun p => (p.seq + 2 ^ 32 - x.next) % 2 ^ 32).mergeSort).eraseDups

/-- The payload of an ack packet: blocks for what is held out of order. -/
def Session.sackPayload (x : Session) : List Byte :=
  let r := (sackRuns x.heldAt).take 16
  toBytesBE 4 r.length ++ r.flatMap fun b => toBytesBE 4 ((x.next + b.1) % 2 ^ 32) ++ toBytesBE 4 ((x.next + b.2) % 2 ^ 32)

/-- An ack packet leaves: it carries the next number and takes none. -/
def State.sendAck (s : State) (n : Nat) : State :=
  match s.session? n with
  | none => s
  | some x =>
    let p : KPkt := { type := 4, session := n, seq := x.txNext }
    let p := if x.held.isEmpty then p else { p with flags := 2, payload := x.sackPayload }
    State.transmit x.peer (x.stamp p) (s.modSession n fun x => { x with ackOwed := false })

/-- SACK blocks of an ack packet: FIRST and LAST; none when the payload is malformed. -/
def sackBlocks (p : KPkt) : Option (List (Nat × Nat)) :=
  let c := payNum p.payload 0 4
  if c = 0 ∨ 16 < c ∨ p.payload.length ≠ 4 + 8 * c then none
  else some ((List.range c).map fun i => (payNum p.payload (4 + 8 * i) 4, payNum p.payload (8 + 8 * i) 4))

/-- A packet is sent again (R389). -/
def State.resend (s : State) (n seq : Nat) (fast : Bool) : State :=
  match s.session? n with
  | none => s
  | some x => match x.unacked.find? (·.p.seq == seq) with
    | none => s
    | some q =>
      let s := s.modSession n fun x => { x with
        unacked := x.unacked.map fun y => if y.p.seq = seq then { y with tries := if fast then y.tries else y.tries + 1, fast := y.fast || fast } else y }
      State.transmit x.peer (x.stamp q.p) (s.bump Reg.HST_KSTAT Reg.HST_KSTAT.RETX 1)

/-- An ACK of the host: packets up to it are done with, and their mailbox places are released (R406); when it advances, the times to
the next sending start again at 1 ms. -/
def State.hostAck (s : State) (n ack : Nat) : State :=
  match s.session? n with
  | none => s
  | some x =>
    let (keep, done) := x.unacked.partition fun q => seq32Later q.p.seq ack
    if done.isEmpty then s
    else
      let s := s.modSession n fun x => { x with unacked := keep.map fun q => { q with tries := 0 } }
      let s := (done.filterMap (·.place)).foldl (fun s (p : Nat × Nat) => s.mailRelease p.1 p.2) s
      drain State.transmit n x.txq.length s

/-- SACK blocks of the host: what they cover is never sent again; packets below the first block are sent again, once. -/
def State.hostSack (s : State) (n : Nat) (blocks : List (Nat × Nat)) : State :=
  let covers (q : TxPkt) : Bool := blocks.any fun b => !seq32Later b.1 q.p.seq && !seq32Later q.p.seq b.2
  let s := s.modSession n fun x => { x with unacked := x.unacked.map fun q => if covers q then { q with sacked := true } else q }
  match s.session? n, blocks with
  | some x, b :: _ =>
    ((x.unacked.filter fun q => !q.sacked && !q.fast && seq32Later b.1 q.p.seq).map (·.p.seq)).foldl (fun s q => s.resend n q true) s
  | _, _ => s

/-! ### Packets in order (R385, R388, R392, R398) -/

/-- Commands of the device that wait to start. -/
def State.waitingCommands (s : State) : Nat :=
  (s.host.arrived.filter (·.type == 1)).length + (s.host.sessions.map fun x => (x.arrived.filter (·.type == 1)).length).sum

/-- A packet accepted in order: a command waits, or is answered BUSY when too many wait; data joins its command, or is discarded when
that has ended; data without an OFFSET fails it. -/
def State.intake (s : State) (n : Nat) (p : KPkt) : State :=
  let l := s.arrivedOf n
  let mine (q : KPkt) : Bool := q.type == 1 && q.tag == p.tag && q.opcode == p.opcode
  if p.type = 1 then
    if 1024 ≤ s.waitingCommands then s.reply (p.hdr n) p.opcode 0 0x200 0 [] else s.setArrived n (l ++ [p])
  else if !l.any mine then s
  else if 8 ≤ p.payload.length then s.setArrived n (l ++ [p])
  else match l.findIdx? mine with
    | some j => (s.setArrived n ((l.eraseIdx j).filter fun q => !(q.type == 3 && q.tag == p.tag && q.opcode == p.opcode))).reply (p.hdr n) p.opcode 0 0x101 0 []
    | none => s

/-- Held packets that NEXT has reached. -/
def takeHeld (n : Nat) : Nat → State → State
  | 0, s => s
  | f + 1, s => match s.session? n with
    | none => s
    | some x => match x.held.find? (·.seq == x.next) with
      | none => s
      | some p =>
        takeHeld n f ((s.modSession n fun x => { x with next := (x.next + 1) % 2 ^ 32, held := x.held.filter (·.seq != p.seq) }).intake n p)

/-- A command or data packet of an open session. -/
def State.inOrder (s : State) (n : Nat) (p : KPkt) : State :=
  match s.session? n with
  | none => s
  | some x =>
    let d := (p.seq + 2 ^ 32 - x.next) % 2 ^ 32
    if d = 0 then
      let s := (s.modSession n fun x => { x with next := (x.next + 1) % 2 ^ 32, ackOwed := true }).intake n p
      let s := takeHeld n x.held.length s
      (if ((s.session? n).map (·.held.isEmpty)).getD true then s else s.sendAck n).settleHeads n
    else if d < x.window then
      (s.modSession n fun x => { x with held := if x.held.any (·.seq == p.seq) then x.held else x.held ++ [p] }).sendAck n
    else if 2 ^ 31 ≤ d then s.modSession n fun x => { x with ackOwed := true }
    else s

/-! ### Kilper packets (R383, R384, R386, R390) -/

/-- The header (Table 12-2); none for a packet that R384 discards. -/
def parseKilper (b : List Byte) : Option KPkt :=
  let g := payNum b
  let type := g 1 1
  if b.length < 32 ∨ g 0 1 ≠ 1 ∨ g 20 4 + 32 ≠ b.length ∨ 8072 < g 20 4 ∨ 64 ≤ g 2 2 then none
  else if type = 1 ∨ type = 3 ∨ type = 4 then
    some { type := type, flags := g 2 2, session := g 4 4, seq := g 8 4, ack := g 12 4, opcode := g 16 2, tag := g 18 2, exec := g 24 8,
           payload := b.drop 32 }
  else none

def State.dropKilper (s : State) : State := s.bump Reg.HST_DROP1 Reg.HST_DROP1.KILPER 1
def State.dropAddr (s : State) : State := s.bump Reg.HST_DROP1 Reg.HST_DROP1.ADDR 1

/-- A Kilper packet from somewhere. -/
def State.kilperIn (s : State) (src : Peer) (p : KPkt) : State :=
  let n := p.session
  if n = 0 then
    if p.type ≠ 1 then s.dropKilper
    else
      let s := s.modHost fun h => { h with zero := (p.tag, src) :: h.zero.filter (·.1 != p.tag) }
      if !s.serving then s
      else match s.wireBad .zero p with
        | some (st, d) => s.reply (p.hdr 0) p.opcode 0 st d []
        | none => s.intake 0 p
  else match s.session? n with
    | none =>
      if p.type = 1 then
        State.transmit src { type := 2, session := 0, opcode := p.opcode, tag := p.tag, payload := replyBytes 0x201 0 [] } s
      else s.dropKilper
    | some _ =>
      let sack := p.type == 4 && p.flags.testBit 1
      if sack && (sackBlocks p).isNone then s.dropKilper
      else
        let s := s.modSession n fun x => { x with peer := { x.peer with mac := src.mac } }
        let s := if p.flags.testBit 0 then s.hostAck n p.ack else s
        let s := if sack then s.hostSack n ((sackBlocks p).getD []) else s
        if p.type = 4 then s else s.inOrder n p

/-! ### Frames (R378 to R381) -/

/-- MACsec: the state after a validly protected frame; none when the frame is discarded (R380). -/
def State.macsecIn (s : State) (f : Frame) : Option State :=
  match f.sec with
  | none => if s.rbit Reg.HST_CFG Reg.HST_CFG.MSREQ then none else some s
  | some t => match s.host.rx.find? (·.1 == t.an.toNat) with
    | none => none
    | some (_, a) =>
      if !t.valid ∨ t.pn.toNat < a.low then none
      else
        let low := max a.low (t.pn.toNat + 1 - a.k.window.toNat)
        some (s.modHost fun h => { h with rx := h.rx.map fun e => if e.1 = t.an.toNat then (e.1, { a with low := low }) else e })

/-- Tags that the port accepts (R378). -/
def State.tagsOk (s : State) (tags : List (BitVec 12)) : Bool :=
  match tags with
  | [] => !s.rbit Reg.HST_CFG Reg.HST_CFG.VREQ
  | [v] => v.toNat == s.rf Reg.HST_VLAN Reg.HST_VLAN.VID
  | _ => false

/-- The link-local address: fe80::/64 with the modified EUI-64 of HST_MAC. -/
def State.linkLocal (s : State) : BitVec 128 :=
  let m := s.rf Reg.HST_MAC Reg.HST_MAC.MAC
  let hi := (BitVec.ofNat 64 (m / 2 ^ 24 * 2 ^ 40) ^^^ BitVec.ofNat 64 (2 ^ 57)).toNat
  BitVec.ofNat 128 (0xFE80 * 2 ^ 112 + hi + 0xFFFE * 2 ^ 24 + m % 2 ^ 24)

/-- Whether an IP version is in use. -/
def State.ipUsed (s : State) (v6 : Bool) : Bool := s.rbit Reg.HST_CFG (if v6 then Reg.HST_CFG.V6 else Reg.HST_CFG.V4)

/-- What a frame addressed to the port carries, and what the port does with it (R379, R381, R383). -/
def State.frameBody (s : State) (f : Frame) : State :=
  let own := f.dst == .own && f.toOurIp && !f.fragmentOrOptions
  match f.body with
  | .arpRequest a =>
    if (f.dst = .own ∨ f.dst = .broadcast) ∧ s.ipUsed false ∧ a.toNat = s.rf Reg.HST_IP4 Reg.HST_IP4.ADDR then s.sendFrame f.body else s.dropAddr
  | .neighbourSolicitation a =>
    if (f.dst = .own ∨ f.dst = .solicitedNode) ∧ s.ipUsed true ∧ (a = s.ip6 ∨ a = s.linkLocal) then s.sendFrame f.body else s.dropAddr
  | .echoRequest v6 n => if own ∧ s.ipUsed v6 ∧ n ≤ 1024 then s.sendFrame f.body else s.dropAddr
  | .ptpSync d =>
    if f.dst = .own ∨ f.dst = .ptpMulticast then
      (if d.toNat = s.rf Reg.TIME_CFG Reg.TIME_CFG.DOMAIN then s.sendFrame f.body else s)
    else s.dropAddr
  | .ptpExchange d x =>
    if f.dst = .own ∨ f.dst = .ptpMulticast then
      (if d.toNat = s.rf Reg.TIME_CFG Reg.TIME_CFG.DOMAIN then s.ptpSample x else s)
    else s.dropAddr
  | .udp v6 ip sp dp b =>
    if own ∧ s.ipUsed v6 ∧ dp.toNat = s.rf Reg.HST_CFG Reg.HST_CFG.UDPPORT then
      match parseKilper b with
      | some p => s.kilperIn ⟨f.src, v6, ip, sp⟩ p
      | none => s.dropKilper
    else s.dropAddr
  | .macControl => s
  | .other => s.dropAddr

/-- A received frame. -/
def State.frameIn (s : State) (f : Frame) : State :=
  if s.hostLink ≠ 2 then s
  else
    let s := s.bump Reg.HST_RXF Reg.HST_RXF.FRAMES 1
    let bad (s : State) : State := s.bump Reg.HST_DROP0 Reg.HST_DROP0.FRAME 1
    if !f.fcsOk ∨ 9216 < f.length ∨ f.length < 64 then bad s
    else if f.body = .macControl then s
    else match s.macsecIn f with
      | none => s.bump Reg.HST_DROP0 Reg.HST_DROP0.MACSEC 1
      | some s => if s.tagsOk f.tags then s.frameBody f else bad s

/-! ### Timers (R388, R389) -/

/-- An acknowledgement that is owed leaves. -/
def State.ackTimer (s : State) (n : Nat) : State := if (s.session? n).any (·.ackOwed) then s.sendAck n else s

/-- A packet that is not acknowledged is sent again. -/
def State.retransmit (s : State) (n seq : Nat) : State :=
  if (s.session? n).any fun x => x.unacked.any fun q => q.p.seq == seq && !q.sacked then s.resend n seq false else s

/-- A session from which nothing has come for KEEP seconds is closed. -/
def State.keepExpiry (s : State) (n : Nat) : State :=
  if (s.session? n).isNone then s else (s.bump Reg.HST_KSTAT Reg.HST_KSTAT.LOST 1).closeSession n id

/-- HOST_FRAME (R378). -/
def execHostFrame (f : Frame) (s : State) : Out := .next (s.frameIn f)
/-- ACKNOWLEDGEMENT (R388). -/
def execAcknowledgement (session : BitVec 32) (s : State) : Out := .next (s.ackTimer session.toNat)
/-- KILPER_RETRANSMIT (R389). -/
def execKilperRetransmit (session seq : BitVec 32) (s : State) : Out := .next (s.retransmit session.toNat seq.toNat)
/-- KEEP_EXPIRY (R389). -/
def execKeepExpiry (session : BitVec 32) (s : State) : Out := .next (s.keepExpiry session.toNat)

end Sys2Proof.Machine
end

