-- ==== Sys2Proof/Machine/Vector.lean ====
section
/-! DEFINITION. The vector instructions (R97 to R118, R124, R129, R489, R490, Tables 4-2, 5-9 and 5-10). -/

namespace Sys2Proof.Machine

/-! ### The fields of format V (R142) -/

/-- A field that the instruction does not use is not zero (R142, Table 5-9): T unless it is typed, vd, va and vb as named, and H unless
T is FP64. -/
def vMisfit (o : OpV) (typed d a b : Bool) : Bool :=
  (!typed && o.t != 0) || (o.h && !(typed && Fmt.ofCode o.t == some .fp64))
    || (!d && o.vd != 0) || (!a && o.va != 0) || (!b && o.vb != 0)

/-- T, vd, va and vb are used. -/
def vTyped3 (o : OpV) : Info := { misfit := vMisfit o true true true true }
/-- T, vd and va are used. -/
def vTyped2 (o : OpV) : Info := { misfit := vMisfit o true true true false }
/-- vd, va and vb are used. -/
def vBare3 (o : OpV) : Info := { misfit := vMisfit o false true true true }
/-- vd and va are used. -/
def vBare2 (o : OpV) : Info := { misfit := vMisfit o false true true false }
/-- vd alone is used; it names a g register that is written. -/
def vToG (o : OpV) : Info := { misfit := vMisfit o false true false false, writes := [o.vd] }
/-- va alone is used (VEPC, VFCTL.W). -/
def vFromG (o : OpV) : Info := { misfit := vMisfit o false false true false }
/-- va and vb are used (VRSEED, VRCTR). -/
def vFromPair (o : OpV) : Info := { misfit := vMisfit o false false true true }
/-- vd and vb are used and both written (VRGET). -/
def vToPair (o : OpV) : Info := { misfit := vMisfit o false true false true, writes := [o.vd, o.vb] }
/-- VFFLAG.C: vd is written and vb read. -/
def vClearG (o : OpV) : Info := { misfit := vMisfit o false true false true, writes := [o.vd] }
/-- VMOVG: vd names a g register that is written; T, va and vb are used. -/
def vMovG (o : OpV) : Info := { misfit := vMisfit o true true true true, writes := [o.vd] }

/-! ### Elements and results -/

/-- Elements per instruction (Table 4-1); 0 for formats that the vector unit does not know. -/
def vcount : Fmt → Nat
  | .fp64 => 8
  | .fp32 | .s32 => 32
  | .bf16 | .fp16 => 64
  | .s8 | .u8 => 128
  | _ => 0

/-- The first element that an instruction acts on: FP64 acts on the half that H selects (R98). -/
def vfirst (f : Fmt) (h : Bool) : Nat := if f = .fp64 then 8 * bit h else 0

/-- The elements of a register that an instruction of a type reads. -/
def vlanes (f : Fmt) (h : Bool) (v : VReg) : List Nat := (List.range (vcount f)).map fun i => elt f.width v.toNat (vfirst f h + i)

/-- Bits of a register that an instruction writes, with their mask. -/
structure VPut where
  x : VReg
  mask : VReg
deriving DecidableEq, Repr

/-- Elements of w bits from element `first` upward. -/
def vput (w first : Nat) (l : List Nat) : VPut :=
  ⟨BitVec.ofNat 1024 (packElts w l <<< (w * first)), BitVec.ofNat 1024 ((2 ^ (w * l.length) - 1) <<< (w * first))⟩

/-- A whole register. -/
def vwhole (x : VReg) : VPut := ⟨x, BitVec.allOnes 1024⟩

/-- An instruction counts in CORE_VEC_INSNS (Table 4-8). -/
def State.vecInsn (s : State) (k : Nat) : State := s.bump (Reg.CORE_VEC_INSNS k) Reg.CORE_VEC_INSNS.INSNS 1

/-- The results of an instruction of distance d (R143), with the flags that it raises and the vector unit's trap (R114). -/
def State.vresult (s : State) (e : Env) (d : Nat) (vd : BitVec 5) (p : VPut) (fl : FpFlags) : State :=
  (s.vecInsn e.k).modStrand e.k e.i fun x =>
    let y := x.later (e.t + 4 * d + 3) (.v vd p.x p.mask)
    if fl = 0#6 then y else y.later (e.t + 4 * d + 3) (.fp fl (x.traps fl) 1#2)

/-- The answer of an instruction of strand x that PRECISE serialises (R174). -/
def vfp (x : Strand) (s : State) (e : Env) (d : Nat) (vd : BitVec 5) (p : VPut) (fl : FpFlags) : Res :=
  .fp (s.vresult e d vd p fl) d (x.traps fl)

/-- Flags of all elements together. -/
def orFlags (l : List (Nat × FpFlags)) : FpFlags := l.foldl (fun f p => f ||| p.2) 0#6

/-- The draw that an instruction makes when it rounds under SR (R115, R116): the bits by lane, and the state after it. -/
def State.drawIf (s : State) (k : Nat) (b : Bool) : (Nat → Nat) × State :=
  let c := s.core k
  (drawBits c.seed.toNat c.ctr.toNat, if b then s.modCore k fun c => { c with ctr := c.ctr + 1 } else s)

/-- The element type of an instruction when it is a float type (Table 4-2). -/
def vfloat (o : OpV) : Option (Fmt × FFmt) := (Fmt.ofCode o.t).bind fun f => f.float?.map (f, ·)

/-- The element type of an instruction when it is S32, S8 or U8 (Table 4-2): whether it is signed, and its width. -/
def vint (o : OpV) : Option (Fmt × Bool × Nat) :=
  match Fmt.ofCode o.t with
  | some .s32 => some (.s32, true, 32)
  | some .s8 => some (.s8, true, 8)
  | some .u8 => some (.u8, false, 8)
  | _ => none

/-- The element type of an instruction when it is any that the vector unit holds. -/
def vany (o : OpV) : Option Fmt := (Fmt.ofCode o.t).bind fun f => if vcount f = 0 then none else some f

/-- Elements of va and vb taken together. -/
def vzip (f : Fmt) (h : Bool) (a b : VReg) (g : Nat → Nat → Nat × FpFlags) : List (Nat × FpFlags) :=
  List.zipWith g (vlanes f h a) (vlanes f h b)

/-! ### Float arithmetic and estimates (R100, R101) -/

/-- The float operations that round. -/
inductive FOp where
  | add | sub | mul | fma | fms
deriving DecidableEq, Repr

/-- The exact result on one element. -/
def FOp.exact (op : FOp) (rdn : Bool) (a b d : Val) : Val × FpFlags :=
  match op with
  | .add => Val.add rdn a b
  | .sub => Val.add rdn a b.negate
  | .mul => Val.mul a b
  | .fma => Val.fma rdn a b d
  | .fms => Val.fma rdn a b d.negate

def FOp.reads3 : FOp → Bool
  | .fma | .fms => true
  | _ => false

/-- One element: operands read under the mode, one rounding, output mode INF. -/
def FOp.elt (op : FOp) (f : FFmt) (conf : Bool) (rm : Rm) (r a b d : Nat) : Nat × FpFlags :=
  let (x, f1) := f.read conf a
  let (y, f2) := f.read conf b
  let (z, f3) := if op.reads3 then f.read conf d else (.fin false 0 0, 0#6)
  let (v, f4) := op.exact (rm == .rdn) x y z
  let (q, f5) := f.round (f.keep conf) rm false r v
  (q, f1 ||| f2 ||| f3 ||| f4 ||| f5)

/-- VADD, VSUB, VMUL, VFMA and VFMS. -/
def vfloatBody (op : FOp) (o : OpV) (e : Env) (s : State) : Res :=
  let x := s.strand e.k e.i
  match vfloat o with
  | none => illegal e
  | some (t, f) =>
    let (lane, s1) := s.drawIf e.k (x.rm == .sr)
    let n := vfirst t o.h
    let ds := vlanes t o.h (x.rv o.vd)
    let l := (List.zipWith (·, ·) (List.zipWith (·, ·) (vlanes t o.h (x.rv o.va)) (vlanes t o.h (x.rv o.vb))) ds).zipIdx.map
      fun (((a, b), d), i) => op.elt f x.conf x.rm (lane (n + i)) a b d
    vfp x s1 e 2 o.vd (vput t.width n (l.map (·.1))) (orFlags l)

/-- VNEG and VABS on one element: only the sign bit changes; no NV (R100). -/
def signElt (neg : Bool) (f : FFmt) (conf : Bool) (a : Nat) : Nat × FpFlags :=
  let (v, g) := f.read conf a
  match v with
  | .nan _ => (f.canonNan, g)
  | v => ((f.round (f.keep conf) .rne false 0 (if neg then v.negate else v.abs)).1, g)

/-- A float instruction of one operand that never rounds under SR. -/
def vunaryBody (g : FFmt → Bool → Nat → Nat × FpFlags) (o : OpV) (e : Env) (s : State) : Res :=
  let x := s.strand e.k e.i
  match vfloat o with
  | none => illegal e
  | some (t, f) =>
    let l := (vlanes t o.h (x.rv o.va)).map (g f x.conf)
    vfp x s e 2 o.vd (vput t.width (vfirst t o.h) (l.map (·.1))) (orFlags l)

/-- VMIN and VMAX on one element (R100). -/
def pickElt (big : Bool) (f : FFmt) (conf : Bool) (a b : Nat) : Nat × FpFlags :=
  let (x, f1) := f.read conf a
  let (y, f2) := f.read conf b
  ((f.round (f.keep conf) .rne false 0 (Val.pick big x y)).1, f1 ||| f2 ||| sigFlag [x, y])

/-- VMIN and VMAX. -/
def vpickBody (big : Bool) (o : OpV) (e : Env) (s : State) : Res :=
  let x := s.strand e.k e.i
  match vfloat o with
  | none => illegal e
  | some (t, f) =>
    let l := vzip t o.h (x.rv o.va) (x.rv o.vb) (pickElt big f x.conf)
    vfp x s e 2 o.vd (vput t.width (vfirst t o.h) (l.map (·.1))) (orFlags l)

/-- The 12-bit estimate of a non-zero finite value held exactly in FP32 and FP64, or rounded directly to BF16 and FP16 (R101). -/
def estimateRound (f : FFmt) (conf : Bool) (v : Val) : Nat × FpFlags :=
  match v with
  | .fin neg m e =>
    if f.moded then
      let lsb := (ilog2 m : Int) + e - 11
      let q := (roundTo .rne neg m e lsb 0).1
      f.round conf .rne false 0 (.fin neg q lsb)
    else
      let (b, fl) := f.round true .rne false 0 v
      (b, if tb fl 2 || tb fl 3 then fl else 0#6)
  | v => f.round true .rne false 0 v

/-- VRCPE on one element (Table 4-3). -/
def rcpElt (f : FFmt) (conf : Bool) (a : Nat) : Nat × FpFlags :=
  let (v, g) := f.read conf a
  match v with
  | .nan s => (f.canonNan, g ||| FpFlags.when s FpFlags.nv)
  | .inf neg => (f.zeroBits neg, g)
  | .fin neg 0 _ => (f.infBits neg, g ||| FpFlags.dz)
  | v => let (b, h) := estimateRound f conf (Val.div (.fin false 1 0) v).1
    (b, g ||| h)

/-- VRSQE on one element (Table 4-3). -/
def rsqElt (f : FFmt) (conf : Bool) (a : Nat) : Nat × FpFlags :=
  let (v, g) := f.read conf a
  match v with
  | .nan s => (f.canonNan, g ||| FpFlags.when s FpFlags.nv)
  | .inf neg => if neg then (f.canonNan, g ||| FpFlags.nv) else (f.zeroBits false, g)
  | .fin neg 0 _ => (f.infBits neg, g ||| FpFlags.dz)
  | .fin true _ _ => (f.canonNan, g ||| FpFlags.nv)
  | .fin false m e => let (b, h) := estimateRound f conf (rsqrtFin m e)
    (b, g ||| h)

/-! ### Comparison and selection (R102) -/

/-- The relations of VCMP. -/
inductive Rel where
  | eq | ne | lt | le | un
deriving DecidableEq, Repr

/-- A relation of two float values; NaN makes them unordered. -/
def Rel.float (r : Rel) (a b : Val) : Bool :=
  let un := a.isNan || b.isNan
  match r with
  | .eq => a.eqv b
  | .ne => un || !a.eqv b
  | .lt => !a.eqv b && a.lt b
  | .le => a.eqv b || a.lt b
  | .un => un

def Rel.int (r : Rel) (a b : Int) : Bool :=
  match r with
  | .eq => a == b
  | .ne => a != b
  | .lt => a < b
  | .le => a ≤ b
  | .un => false

/-- One element of a comparison: all ones or all zeros. -/
def cmpElt (r : Rel) (t : Fmt) (conf : Bool) (a b : Nat) : Nat × FpFlags :=
  let ones (c : Bool) : Nat := if c then 2 ^ t.width - 1 else 0
  match t.float? with
  | some f =>
    let (x, f1) := f.read conf a
    let (y, f2) := f.read conf b
    (ones (r.float x y), f1 ||| f2 ||| sigFlag [x, y])
  | none => (ones (match t with
      | .u8 => r.int a b
      | _ => r.int (signed t.width a) (signed t.width b)), 0#6)

/-- VCMP. -/
def vcmpBody (r : Rel) (o : OpV) (e : Env) (s : State) : Res :=
  let x := s.strand e.k e.i
  match vany o with
  | none => illegal e
  | some t =>
    let l := vzip t o.h (x.rv o.va) (x.rv o.vb) (cmpElt r t x.conf)
    .done (s.vresult e 1 o.vd (vput t.width (vfirst t o.h) (l.map (·.1))) (orFlags l))

/-- VSEL: vd holds the mask (Table 4-2). -/
def vselBody (o : OpV) (e : Env) (s : State) : Res :=
  let x := s.strand e.k e.i
  let m := x.rv o.vd
  .done (s.vresult e 1 o.vd (vwhole ((m &&& x.rv o.va) ||| (~~~ m &&& x.rv o.vb))) 0#6)

/-! ### Integer and logic (Table 4-2, R489) -/

/-- The integer operations. -/
inductive IOp where
  | add | sub | adds | subs | mul | min | max | and | or | xor | shl | shrl | shra
deriving DecidableEq, Repr

/-- An integer saturated into a range. -/
def clampInt (sgn : Bool) (w : Nat) (i : Int) : Int :=
  let hi : Int := if sgn then (2 ^ (w - 1) : Nat) - 1 else (2 ^ w : Nat) - 1
  let lo : Int := if sgn then -((2 ^ (w - 1) : Nat) : Int) else 0
  max lo (min hi i)

/-- One element of an integer operation. -/
def IOp.elt (op : IOp) (sgn : Bool) (w a b : Nat) : Nat :=
  let x : Int := if sgn then signed w a else a
  let y : Int := if sgn then signed w b else b
  let n := b % w
  match op with
  | .add => wrap w (x + y)
  | .sub => wrap w (x - y)
  | .adds => wrap w (clampInt sgn w (x + y))
  | .subs => wrap w (clampInt sgn w (x - y))
  | .mul => wrap w (x * y)
  | .min => wrap w (Min.min x y)
  | .max => wrap w (Max.max x y)
  | .and => a.land b
  | .or => a.lor b
  | .xor => a.xor b
  | .shl => (a <<< n) % 2 ^ w
  | .shrl => a >>> n
  | .shra => wrap w (x / (2 ^ n : Nat))

/-- The integer and logic instructions. -/
def vintBody (op : IOp) (o : OpV) (e : Env) (s : State) : Res :=
  let x := s.strand e.k e.i
  match vint o with
  | none => illegal e
  | some (t, sg, w) =>
    let l := vzip t o.h (x.rv o.va) (x.rv o.vb) fun a b => (op.elt sg w a b, 0#6)
    .done (s.vresult e 1 o.vd (vput w 0 (l.map (·.1))) 0#6)

/-! ### Movement (R490) -/

/-- VMOV. -/
def vmovBody (o : OpV) (e : Env) (s : State) : Res := .done (s.vresult e 1 o.vd (vwhole ((s.strand e.k e.i).rv o.va)) 0#6)

/-- VBCAST. -/
def vbcastBody (o : OpV) (e : Env) (s : State) : Res :=
  match vany o with
  | none => illegal e
  | some t =>
    let x := ((s.strand e.k e.i).rg o.va).toNat
    .done (s.vresult e 1 o.vd (vput t.width (vfirst t o.h) (List.replicate (vcount t) x)) 0#6)

/-- VDUP. -/
def vdupBody (o : OpV) (e : Env) (s : State) : Res :=
  let x := s.strand e.k e.i
  let i := (x.rg o.vb).toNat
  match vany o with
  | none => illegal e
  | some t =>
    if vcount t ≤ i then illegal e
    else .done (s.vresult e 1 o.vd
      (vput t.width (vfirst t o.h) (List.replicate (vcount t) (elt t.width (x.rv o.va).toNat (vfirst t o.h + i)))) 0#6)

/-- VPERM. -/
def vpermBody (o : OpV) (e : Env) (s : State) : Res :=
  let x := s.strand e.k e.i
  let idx := (List.range 128).map (elt 8 (x.rv o.vb).toNat)
  if idx.any (128 ≤ ·) then illegal e
  else .done (s.vresult e 1 o.vd (vput 8 0 (idx.map (elt 8 (x.rv o.va).toNat))) 0#6)

/-- VSLIDE. -/
def vslideBody (o : OpV) (e : Env) (s : State) : Res :=
  let x := s.strand e.k e.i
  let n := (x.rg o.vb).toNat
  if 128 ≤ n then illegal e else .done (s.vresult e 1 o.vd (vwhole (x.rv o.va >>> (8 * n))) 0#6)

/-- The number that VMOVG puts into a g register. -/
def movgValue (t : Fmt) (x : Nat) : W32 := if t = .s8 then (BitVec.ofNat 8 x).signExtend 32 else BitVec.ofNat 32 x

/-- VMOVG. -/
def vmovgBody (o : OpV) (e : Env) (s : State) : Res :=
  let x := s.strand e.k e.i
  let i := (x.rg o.vb).toNat
  match vany o with
  | none => illegal e
  | some t =>
    if vcount t ≤ i then illegal e
    else .done ((s.vecInsn e.k).modStrand e.k e.i fun y =>
      y.later (e.t + 7) (.g o.vd (movgValue t (elt t.width (x.rv o.va).toNat (vfirst t o.h + i)))))

/-! ### Reductions (R104, R105) -/

/-- One stage of the pairwise tree; an element without a partner passes through. -/
def treeStage {α : Type} (f : α → α → α) : List α → List α
  | a :: b :: l => f a b :: treeStage f l
  | l => l

/-- The pairwise tree over a list, in at most `fuel` stages. -/
def tree {α : Type} (f : α → α → α) (d : α) : Nat → List α → α
  | _, [] => d
  | _, [a] => a
  | 0, a :: _ => a
  | n + 1, l => tree f d n (treeStage f l)

/-- A reduction's result: element 0, every other bit zero (R104). -/
def velement0 (x : Nat) : VPut := vwhole (BitVec.ofNat 1024 x)

/-- An addition of the sum tree in a format, rounded with RNE under the strand's mode. -/
def sumStep (f : FFmt) (conf : Bool) (a b : Val × FpFlags) : Val × FpFlags :=
  let (v, g) := Val.add false a.1 b.1
  let (q, h) := f.round (f.keep conf) .rne false 0 v
  (f.decode q, a.2 ||| b.2 ||| g ||| h)

/-- VRSUM. -/
def vrsumBody (o : OpV) (e : Env) (s : State) : Res :=
  let x := s.strand e.k e.i
  match vfloat o, vint o with
  | some (t, f), _ =>
    let g : FFmt := if t = .fp64 then .fp64 else .fp32
    let (v, fl) := tree (sumStep g x.conf) (.fin false 0 0, 0#6) 7 ((vlanes t o.h (x.rv o.va)).map (f.read x.conf))
    vfp x s e 3 o.vd (velement0 (g.round (g.keep x.conf) .rne false 0 v).1) fl
  | none, some (t, sg, w) =>
    let sum : Int := (vlanes t o.h (x.rv o.va)).foldl (fun a y => a + if sg then signed w y else (y : Int)) 0
    vfp x s e 3 o.vd (velement0 (wrap 32 sum)) 0#6
  | none, none => illegal e

/-- VRMAX and VRMIN. -/
def vrpickBody (big : Bool) (o : OpV) (e : Env) (s : State) : Res :=
  let x := s.strand e.k e.i
  match vfloat o, vint o with
  | some (t, f), _ =>
    let step (a b : Nat × FpFlags) : Nat × FpFlags := let (q, g) := pickElt big f x.conf a.1 b.1; (q, g ||| a.2 ||| b.2)
    let (q, fl) := tree step (0, 0#6) 7 ((vlanes t o.h (x.rv o.va)).map (·, 0#6))
    vfp x s e 3 o.vd (velement0 q) fl
  | none, some (t, sg, w) =>
    vfp x s e 3 o.vd (velement0 (tree (IOp.elt (if big then .max else .min) sg w) 0 7 (vlanes t o.h (x.rv o.va)))) 0#6
  | none, none => illegal e

/-- The source formats of VRSSQ and of the moments. -/
def vnarrow (c : BitVec 4) : Option (Fmt × FFmt) :=
  match Fmt.ofCode c with
  | some .bf16 => some (.bf16, .bf16)
  | some .fp16 => some (.fp16, .fp16)
  | some .fp32 => some (.fp32, .fp32)
  | _ => none

/-- An FP64 addition with RNE that no mode touches, every NaN quiet, on encodings with the flags so far (R51, R105). -/
def add64 (a b : Nat × FpFlags) : Nat × FpFlags :=
  let (v, g) := Val.add false (quiet64 a.1) (quiet64 b.1)
  let (q, h) := FFmt.fp64.round true .rne false 0 v
  (q, g ||| h ||| a.2 ||| b.2)

/-- The sum of squares of a register (R105). -/
def sumSquares (f : FFmt) (conf : Bool) (xs : List Nat) : Nat × FpFlags :=
  tree add64 (0, 0#6) 7 (xs.map fun x =>
    let (v, g) := f.read conf x
    let (q, h) := ps64 (Val.mul v v)
    (q, g ||| h))

/-- VRSSQ and VRSSQ.A. -/
def vrssqBody (acc : Bool) (o : OpV) (e : Env) (s : State) : Res :=
  let x := s.strand e.k e.i
  match vnarrow o.t with
  | none => illegal e
  | some (t, f) =>
    let (q, fl) := sumSquares f x.conf (vlanes t o.h (x.rv o.va))
    if acc then
      let (q2, fl2) := add64 (elt 64 (x.rv o.vd).toNat 0, 0#6) (q, fl)
      vfp x s e 3 o.vd (vput 64 0 [q2]) fl2
    else vfp x s e 3 o.vd (velement0 q) fl

/-! ### Moment records (R106 to R110) -/

/-- Flags of a record beside it. -/
abbrev RecF := Rec × FpFlags

/-- The record of the first n elements (R107). -/
def recordOf (f : FFmt) (conf : Bool) (xs : List Nat) : RecF :=
  let vs := xs.map (f.read conf)
  let fl := vs.foldl (fun a v => a ||| v.2 ||| FpFlags.when v.1.isSig FpFlags.nv) 0#6
  let n := xs.length
  if n = 0 then (⟨0, 0, 0⟩, 0#6)
  else if vs.any (fun v => !v.1.isFin) then
    (⟨n, FFmt.fp32.canonNan, FFmt.fp32.canonNan⟩,
      fl ||| FpFlags.when (vs.any fun v => !v.1.isFin && !v.1.isNan) FpFlags.nv)
  else
    let add (a b : Val × FpFlags) : Val × FpFlags := let (v, g) := r64 (Val.add false a.1 b.1); (v, g ||| a.2 ||| b.2)
    let zero : Val × FpFlags := (.fin false 0 0, 0#6)
    let (sum, f1) := tree add zero 7 (vs.map fun v => (v.1, 0#6))
    let (mu, f2) := r64 (Val.div sum (Val.ofInt n))
    let sq (v : Val × FpFlags) : Val × FpFlags :=
      let (d, g) := r64 (Val.add false v.1 mu.negate)
      let (q, h) := r64 (Val.mul d d)
      (q, g ||| h)
    let (m2, f3) := tree add zero 7 (vs.map sq)
    let (b1, g1) := FFmt.fp32.round conf .rne false 0 mu
    let (b2, g2) := FFmt.fp32.round conf .rne false 0 m2
    (⟨n, b1, b2⟩, fl ||| f1 ||| f2 ||| f3 ||| g1 ||| g2)

/-- Slot q of a register with a record. -/
def recPut (q : Nat) (r : Rec) : VPut := vput 128 q [r.n % 2 ^ 32 + 2 ^ 32 * (r.mean % 2 ^ 32) + 2 ^ 64 * (r.m2 % 2 ^ 32)]

/-- VMOM and VMOM.A. -/
def vmomBody (acc : Bool) (o : OpVM) (e : Env) (s : State) : Res :=
  let x := s.strand e.k e.i
  let n := (x.rg o.gn).toNat
  match vnarrow o.t with
  | none => illegal e
  | some (t, f) =>
    if vcount t < n then illegal e
    else
      let (r, fl) := recordOf f x.conf ((vlanes t false (x.rv o.va)).take n)
      let (r2, fl2) := if acc then Rec.merge ⟨x.conf, false⟩ (Rec.get (x.rv o.vd) o.q.toNat) r else (r, 0#6)
      vfp x s e 5 o.vd (recPut o.q.toNat r2) (fl ||| fl2)

/-- Eight records as one register. -/
def recPack (l : List RecF) : VReg :=
  BitVec.ofNat 1024 (packElts 128 (l.map fun p => p.1.n % 2 ^ 32 + 2 ^ 32 * (p.1.mean % 2 ^ 32) + 2 ^ 64 * (p.1.m2 % 2 ^ 32)))

def recFlags (l : List RecF) : FpFlags := l.foldl (fun f p => f ||| p.2) 0#6

/-- VMMRG (R109). -/
def vmmrgBody (o : OpV) (e : Env) (s : State) : Res :=
  let x := s.strand e.k e.i
  let l := (List.range 8).map fun q => Rec.merge ⟨x.conf, false⟩ (Rec.get (x.rv o.va) q) (Rec.get (x.rv o.vb) q)
  vfp x s e 4 o.vd (vwhole (recPack l)) (recFlags l)

/-- VMRED (R109). -/
def vmredBody (o : OpV) (e : Env) (s : State) : Res :=
  let x := s.strand e.k e.i
  let step (a b : RecF) : RecF := let (r, f) := Rec.merge ⟨x.conf, false⟩ a.1 b.1; (r, f ||| a.2 ||| b.2)
  let (r, fl) := tree step (⟨0, 0, 0⟩, 0#6) 3 ((List.range 8).map fun q => (Rec.get (x.rv o.va) q, 0#6))
  vfp x s e 4 o.vd (vwhole (recPack [(r, 0#6)])) fl

/-- Word 3 of a slot after VMVAR (R110). -/
def varianceOf (conf : Bool) (r : Rec) : Nat × FpFlags :=
  if r.n = 0 then (FFmt.fp32.canonNan, FpFlags.nv)
  else
    let (m2, f1) := FFmt.fp32.read conf r.m2
    let (v, f2) := Val.div m2 (Val.ofInt r.n)
    let (q, f3) := FFmt.fp64.round true .rto false 0 v
    let (b, f4) := FFmt.fp32.round conf .rne false 0 (FFmt.fp64.decode q)
    (b, f1 ||| f2 ||| f3 ||| f4)

/-- VMVAR: words 0 to 2 of each slot are those of va. -/
def vmvarBody (o : OpV) (e : Env) (s : State) : Res :=
  let x := s.strand e.k e.i
  let a := (x.rv o.va).toNat
  let l := (List.range 8).map fun q => varianceOf x.conf (Rec.get (x.rv o.va) q)
  let y := (List.range 8).foldl (fun v q => setElt 32 v (4 * q + 3) ((l.map (·.1)).getD q 0)) a
  vfp x s e 4 o.vd (vwhole (BitVec.ofNat 1024 y)) (orFlags l)

/-! ### Conversion (R103, R59 to R61), activation and epilogue (R124) -/

/-- VCVT. -/
def vcvtBody (o : OpVC) (e : Env) (s : State) : Res :=
  let x := s.strand e.k e.i
  match (Fmt.ofCode o.ts), (Fmt.ofCode o.td), Rm.ofField o.rm x.rm with
  | some ts, some td, some rm =>
    let n := min (vcount ts) (vcount td)
    if n = 0 then illegal e
    else
      let p := o.p.toNat
      let wide := max (if ts = .fp64 then 8 else vcount ts) (if td = .fp64 then 8 else vcount td)
      if wide < (p + 1) * n then illegal e
      else
        let from_ := if ts = .fp64 then 8 * bit o.h else if vcount ts = n ∧ vcount td ≠ n then 0 else p * n
        let to_ := if td = .fp64 then 8 * bit o.h else if vcount td = n ∧ vcount ts ≠ n then 0 else p * n
        let (lane, s1) := s.drawIf e.k (rm == .sr)
        let l := (List.range n).map fun i =>
          let a := elt ts.width (x.rv o.va).toNat (from_ + i)
          let (v, g) := match ts.float?, ts.int? with
            | some f, _ => f.read x.conf a
            | none, some (sg, w) => (Val.ofInt (if sg then signed w a else a), 0#6)
            | none, none => (.fin false 0 0, 0#6)
          let (q, h) := convertElt td x.conf rm o.om (lane (to_ + i)) v
          (q, g ||| h)
        vfp x s1 e 2 o.vd (vput td.width to_ (l.map (·.1))) (orFlags l)
  | _, _, _ => illegal e

/-- VACT: slot vb applied to the FP32 elements of va (R124). -/
def vactBody (o : OpV) (e : Env) (s : State) : Res :=
  let x := s.strand e.k e.i
  let n := o.vb.toNat
  if Fmt.ofCode o.t ≠ some .fp32 ∨ 8 ≤ n then illegal e
  else
    let a := vget (s.core e.k).act n
    let (lane, s1) := s.drawIf e.k (x.rm == .sr)
    let l := (vlanes .fp32 false (x.rv o.va)).zipIdx.map fun (w, i) =>
      let (v, f) := actEval a n x.conf ⟨x.rm, lane i⟩ (FFmt.fp32.read x.conf w)
      ((FFmt.fp32.round x.conf .rne false 0 v).1, f)
    vfp x s1 e 4 o.vd (vput 32 0 (l.map (·.1))) (orFlags l)

/-- VEPX (R124). -/
def vepxBody (o : OpVE) (e : Env) (s : State) : Res :=
  let x := s.strand e.k e.i
  match Fmt.ofCode o.td, Rm.ofField o.rm x.rm with
  | some td, some rm =>
    let p := o.p.toNat
    if !(td ∈ [Fmt.bf16, .fp16, .fp32, .s8, .u8]) ∨ vcount td < (p + 1) * 32 then illegal e
    else
      let a := vget (s.core e.k).act (epiSlot x.epictl)
      let (lane, s1) := s.drawIf e.k (rm == .sr)
      let l := (vlanes .fp32 false (x.rv o.va)).zipIdx.map fun (w, i) =>
        let last : LastRm := if td = .fp32 then ⟨rm, lane i⟩ else .rto
        let (v, f) := epiChain x.conf x.epictl (fun r => vget x.v r) a last (32 * bit o.cb + i) (FFmt.fp32.read x.conf w)
        let (q, h) := if td = .fp32 then FFmt.fp32.round x.conf .rne false 0 v else convertElt td x.conf rm o.om (lane i) v
        (q, f ||| h)
      vfp x s1 e 4 o.vd (vput td.width (32 * p) (l.map (·.1))) (orFlags l)
  | _, _ => illegal e

/-! ### Control (R111, R113, R118, R119, R129) -/

/-- VTLOAD: slot vd from the AS at the offset in a(va). -/
def vtloadBody (o : OpV) (e : Env) (s : State) : Res :=
  let x := s.strand e.k e.i
  if 8 ≤ o.vd.toNat ∨ 8 ≤ o.va.toNat then illegal e
  else
    let off := (x.ra (o.va.setWidth 3)).toNat
    if off % 32 ≠ 0 then .trap { code := 0x07, xtval := off }
    else match s.storeFault e.k .as off 1056 with
    | some a => .trap { code := 0x04, xtval := a }
    | none =>
      let (d, s1) := s.readStore e.k .as off 1056 e.ecc
      .done ((s1.vecInsn e.k).modCore e.k fun c => { c with act := vset c.act o.vd.toNat ⟨some (BitVec.ofNat 8448 d)⟩ })

/-- VEPC. -/
def vepcBody (o : OpV) (e : Env) (s : State) : Res :=
  .done ((s.vecInsn e.k).modStrand e.k e.i fun x => x.later (e.t + 3) (.epi ((x.rg o.va).setWidth 18)))

/-- VFCTL.R. -/
def vfctlRBody (o : OpV) (e : Env) (s : State) : Res :=
  .done ((s.vecInsn e.k).modStrand e.k e.i fun x => x.putG e.t o.vd ((x.fpctl &&& 0x37#6).setWidth 32))

/-- VFCTL.W: a mode write (R189). -/
def vfctlWBody (o : OpV) (e : Env) (s : State) : Res :=
  .done ((s.vecInsn e.k).modStrand e.k e.i fun x => { x with shadow := x.shadow ++ [⟨4, .fp ((x.rg o.va).setWidth 3)⟩] })

/-- VFFLAG and VFFLAG.C. -/
def vfflagBody (clear : Bool) (o : OpV) (e : Env) (s : State) : Res :=
  .done ((s.vecInsn e.k).modStrand e.k e.i fun x =>
    let y := x.putG e.t o.vd (x.fpflags.setWidth 32)
    if clear then { y with fpflags := y.fpflags &&& ~~~ ((x.rg o.vb).setWidth 6) } else y)

/-- The number that two g registers hold. -/
def Strand.pair (x : Strand) (lo hi : BitVec 5) : W64 := x.rg hi ++ x.rg lo

/-- VRSEED. -/
def vrseedBody (o : OpV) (e : Env) (s : State) : Res :=
  let v := (s.strand e.k e.i).pair o.va o.vb
  .done ((s.vecInsn e.k).modCore e.k (Core.genLater e.t true v))

/-- VRCTR. -/
def vrctrBody (o : OpV) (e : Env) (s : State) : Res :=
  let v := (s.strand e.k e.i).pair o.va o.vb
  .done ((s.vecInsn e.k).modCore e.k (Core.genLater e.t false v))

/-- VRGET: the low half into g(vd), the high half into g(vb). -/
def vrgetBody (v : Core → W64) (o : OpV) (e : Env) (s : State) : Res :=
  let n := v (s.core e.k)
  .done ((s.vecInsn e.k).modStrand e.k e.i fun x =>
    (x.later (e.t + 7) (.g o.vd (n.setWidth 32))).later (e.t + 7) (.g o.vb (BitVec.ofNat 32 (fld n 63 32))))

/-- R100. -/
def execVadd (w : Who) (o : OpV) (s : State) : Out := .next (issue w (vTyped3 o) (vfloatBody .add o) s)
/-- R100. -/
def execVsub (w : Who) (o : OpV) (s : State) : Out := .next (issue w (vTyped3 o) (vfloatBody .sub o) s)
/-- R100. -/
def execVmul (w : Who) (o : OpV) (s : State) : Out := .next (issue w (vTyped3 o) (vfloatBody .mul o) s)
/-- R100. -/
def execVfma (w : Who) (o : OpV) (s : State) : Out := .next (issue w (vTyped3 o) (vfloatBody .fma o) s)
/-- R100. -/
def execVfms (w : Who) (o : OpV) (s : State) : Out := .next (issue w (vTyped3 o) (vfloatBody .fms o) s)
/-- R100. -/
def execVneg (w : Who) (o : OpV) (s : State) : Out := .next (issue w (vTyped2 o) (vunaryBody (signElt true) o) s)
/-- R100. -/
def execVabs (w : Who) (o : OpV) (s : State) : Out := .next (issue w (vTyped2 o) (vunaryBody (signElt false) o) s)
/-- R100. -/
def execVmin (w : Who) (o : OpV) (s : State) : Out := .next (issue w (vTyped3 o) (vpickBody false o) s)
/-- R100. -/
def execVmax (w : Who) (o : OpV) (s : State) : Out := .next (issue w (vTyped3 o) (vpickBody true o) s)
/-- R101. -/
def execVrcpe (w : Who) (o : OpV) (s : State) : Out := .next (issue w (vTyped2 o) (vunaryBody rcpElt o) s)
/-- R101. -/
def execVrsqe (w : Who) (o : OpV) (s : State) : Out := .next (issue w (vTyped2 o) (vunaryBody rsqElt o) s)
/-- R102. -/
def execVcmpEq (w : Who) (o : OpV) (s : State) : Out := .next (issue w (vTyped3 o) (vcmpBody .eq o) s)
/-- R102. -/
def execVcmpNe (w : Who) (o : OpV) (s : State) : Out := .next (issue w (vTyped3 o) (vcmpBody .ne o) s)
/-- R102. -/
def execVcmpLt (w : Who) (o : OpV) (s : State) : Out := .next (issue w (vTyped3 o) (vcmpBody .lt o) s)
/-- R102. -/
def execVcmpLe (w : Who) (o : OpV) (s : State) : Out := .next (issue w (vTyped3 o) (vcmpBody .le o) s)
/-- R102. -/
def execVcmpUn (w : Who) (o : OpV) (s : State) : Out := .next (issue w (vTyped3 o) (vcmpBody .un o) s)
/-- Table 4-2. -/
def execVsel (w : Who) (o : OpV) (s : State) : Out := .next (issue w (vBare3 o) (vselBody o) s)
/-- Table 4-2. -/
def execViadd (w : Who) (o : OpV) (s : State) : Out := .next (issue w (vTyped3 o) (vintBody .add o) s)
/-- Table 4-2. -/
def execVisub (w : Who) (o : OpV) (s : State) : Out := .next (issue w (vTyped3 o) (vintBody .sub o) s)
/-- Table 4-2. -/
def execViadds (w : Who) (o : OpV) (s : State) : Out := .next (issue w (vTyped3 o) (vintBody .adds o) s)
/-- Table 4-2. -/
def execVisubs (w : Who) (o : OpV) (s : State) : Out := .next (issue w (vTyped3 o) (vintBody .subs o) s)
/-- Table 4-2. -/
def execVimul (w : Who) (o : OpV) (s : State) : Out := .next (issue w (vTyped3 o) (vintBody .mul o) s)
/-- Table 4-2. -/
def execVimin (w : Who) (o : OpV) (s : State) : Out := .next (issue w (vTyped3 o) (vintBody .min o) s)
/-- Table 4-2. -/
def execVimax (w : Who) (o : OpV) (s : State) : Out := .next (issue w (vTyped3 o) (vintBody .max o) s)
/-- Table 4-2. -/
def execVand (w : Who) (o : OpV) (s : State) : Out := .next (issue w (vTyped3 o) (vintBody .and o) s)
/-- Table 4-2. -/
def execVor (w : Who) (o : OpV) (s : State) : Out := .next (issue w (vTyped3 o) (vintBody .or o) s)
/-- Table 4-2. -/
def execVxor (w : Who) (o : OpV) (s : State) : Out := .next (issue w (vTyped3 o) (vintBody .xor o) s)
/-- R489. -/
def execVshl (w : Who) (o : OpV) (s : State) : Out := .next (issue w (vTyped3 o) (vintBody .shl o) s)
/-- R489. -/
def execVshrl (w : Who) (o : OpV) (s : State) : Out := .next (issue w (vTyped3 o) (vintBody .shrl o) s)
/-- R489. -/
def execVshra (w : Who) (o : OpV) (s : State) : Out := .next (issue w (vTyped3 o) (vintBody .shra o) s)
/-- Table 4-2. -/
def execVmov (w : Who) (o : OpV) (s : State) : Out := .next (issue w (vBare2 o) (vmovBody o) s)
/-- R490. -/
def execVbcast (w : Who) (o : OpV) (s : State) : Out := .next (issue w (vTyped2 o) (vbcastBody o) s)
/-- Table 4-2. -/
def execVdup (w : Who) (o : OpV) (s : State) : Out := .next (issue w (vTyped3 o) (vdupBody o) s)
/-- Table 4-2. -/
def execVperm (w : Who) (o : OpV) (s : State) : Out := .next (issue w (vBare3 o) (vpermBody o) s)
/-- R490. -/
def execVslide (w : Who) (o : OpV) (s : State) : Out := .next (issue w (vBare3 o) (vslideBody o) s)
/-- R490. -/
def execVmovg (w : Who) (o : OpV) (s : State) : Out := .next (issue w (vMovG o) (vmovgBody o) s)
/-- R104. -/
def execVrsum (w : Who) (o : OpV) (s : State) : Out := .next (issue w (vTyped2 o) (vrsumBody o) s)
/-- R104. -/
def execVrmax (w : Who) (o : OpV) (s : State) : Out := .next (issue w (vTyped2 o) (vrpickBody true o) s)
/-- R104. -/
def execVrmin (w : Who) (o : OpV) (s : State) : Out := .next (issue w (vTyped2 o) (vrpickBody false o) s)
/-- R105. -/
def execVrssq (w : Who) (o : OpV) (s : State) : Out := .next (issue w (vTyped2 o) (vrssqBody false o) s)
/-- R105. -/
def execVrssqA (w : Who) (o : OpV) (s : State) : Out := .next (issue w (vTyped2 o) (vrssqBody true o) s)
/-- R107. -/
def execVmom (w : Who) (o : OpVM) (s : State) : Out := .next (issue w {} (vmomBody false o) s)
/-- R107. -/
def execVmomA (w : Who) (o : OpVM) (s : State) : Out := .next (issue w {} (vmomBody true o) s)
/-- R109. -/
def execVmmrg (w : Who) (o : OpV) (s : State) : Out := .next (issue w (vBare3 o) (vmmrgBody o) s)
/-- R109. -/
def execVmred (w : Who) (o : OpV) (s : State) : Out := .next (issue w (vBare2 o) (vmredBody o) s)
/-- R110. -/
def execVmvar (w : Who) (o : OpV) (s : State) : Out := .next (issue w (vBare2 o) (vmvarBody o) s)
/-- R124. -/
def execVact (w : Who) (o : OpV) (s : State) : Out := .next (issue w (vTyped3 o) (vactBody o) s)
/-- R129. -/
def execVtload (w : Who) (o : OpV) (s : State) : Out := .next (issue w (vBare2 o) (vtloadBody o) s)
/-- R119. -/
def execVepc (w : Who) (o : OpV) (s : State) : Out := .next (issue w (vFromG o) (vepcBody o) s)
/-- R111. -/
def execVfctlR (w : Who) (o : OpV) (s : State) : Out := .next (issue w (vToG o) (vfctlRBody o) s)
/-- R111. -/
def execVfctlW (w : Who) (o : OpV) (s : State) : Out := .next (issue w (vFromG o) (vfctlWBody o) s)
/-- R113. -/
def execVfflag (w : Who) (o : OpV) (s : State) : Out := .next (issue w (vToG o) (vfflagBody false o) s)
/-- R113. -/
def execVfflagC (w : Who) (o : OpV) (s : State) : Out := .next (issue w (vClearG o) (vfflagBody true o) s)
/-- R118. -/
def execVrseed (w : Who) (o : OpV) (s : State) : Out := .next (issue w (vFromPair o) (vrseedBody o) s)
/-- R118. -/
def execVrctr (w : Who) (o : OpV) (s : State) : Out := .next (issue w (vFromPair o) (vrctrBody o) s)
/-- R118. -/
def execVrgetS (w : Who) (o : OpV) (s : State) : Out := .next (issue w (vToPair o) (vrgetBody Core.seed o) s)
/-- R118. -/
def execVrgetC (w : Who) (o : OpV) (s : State) : Out := .next (issue w (vToPair o) (vrgetBody Core.ctr o) s)
/-- R103. -/
def execVcvt (w : Who) (o : OpVC) (s : State) : Out := .next (issue w {} (vcvtBody o) s)
/-- R124. -/
def execVepx (w : Who) (o : OpVE) (s : State) : Out := .next (issue w {} (vepxBody o) s)

end Sys2Proof.Machine
end

