-- ==== Sys2Proof/Machine/Micro.lean ====
section
/-! DEFINITION. Customer instructions: the words of a micro-op as instructions (R137, R138, R192 to R194), and CUSTOM (R191 to
R196). -/

namespace Sys2Proof.Machine

/-- Bits [hi:lo] of a word as a field of n bits. -/
def bf {m : Nat} (n : Nat) (w : BitVec m) (hi lo : Nat) : BitVec n := BitVec.ofNat n (fld w hi lo)

/-- OP (Table 5-8); JR and JALR are forbidden in a micro-op (R194). -/
def decodeOp (x : W32) (w : Who) : Option Instr :=
  let o : OpR := ⟨bf 5 x 10 6, bf 5 x 15 11, bf 5 x 20 16, tb x 31⟩
  match fld x 30 21 with
  | 0x000 => some (.add w o)
  | 0x001 => some (.sub w o)
  | 0x002 => some (.and w o)
  | 0x003 => some (.or w o)
  | 0x004 => some (.xor w o)
  | 0x005 => some (.shl w o)
  | 0x006 => some (.shr w o)
  | 0x007 => some (.sra w o)
  | 0x008 => some (.slt w o)
  | 0x009 => some (.sltu w o)
  | 0x00A => some (.min w o)
  | 0x00B => some (.max w o)
  | 0x00C => some (.minu w o)
  | 0x00D => some (.maxu w o)
  | 0x010 => some (.mul w o)
  | 0x011 => some (.mulh w o)
  | 0x012 => some (.mulhu w o)
  | 0x018 => some (.div w o)
  | 0x019 => some (.divu w o)
  | 0x01A => some (.rem w o)
  | 0x01B => some (.remu w o)
  | _ => none

/-- VOP (Table 5-9). -/
def decodeVop (x : W32) (w : Who) : Option Instr :=
  let o : OpV := ⟨bf 5 x 10 6, bf 5 x 15 11, bf 5 x 20 16, bf 4 x 24 21, tb x 31⟩
  match fld x 30 25 with
  | 0x00 => some (.vadd w o)
  | 0x01 => some (.vsub w o)
  | 0x02 => some (.vmul w o)
  | 0x03 => some (.vfma w o)
  | 0x04 => some (.vfms w o)
  | 0x05 => some (.vneg w o)
  | 0x06 => some (.vabs w o)
  | 0x07 => some (.vmin w o)
  | 0x08 => some (.vmax w o)
  | 0x09 => some (.vrcpe w o)
  | 0x0A => some (.vrsqe w o)
  | 0x0B => some (.vcmpEq w o)
  | 0x0C => some (.vcmpNe w o)
  | 0x0D => some (.vcmpLt w o)
  | 0x0E => some (.vcmpLe w o)
  | 0x0F => some (.vcmpUn w o)
  | 0x10 => some (.vsel w o)
  | 0x11 => some (.viadd w o)
  | 0x12 => some (.visub w o)
  | 0x13 => some (.viadds w o)
  | 0x14 => some (.visubs w o)
  | 0x15 => some (.vimul w o)
  | 0x16 => some (.vimin w o)
  | 0x17 => some (.vimax w o)
  | 0x18 => some (.vand w o)
  | 0x19 => some (.vor w o)
  | 0x1A => some (.vxor w o)
  | 0x1B => some (.vshl w o)
  | 0x1C => some (.vshrl w o)
  | 0x1D => some (.vshra w o)
  | 0x20 => some (.vmov w o)
  | 0x21 => some (.vbcast w o)
  | 0x22 => some (.vdup w o)
  | 0x23 => some (.vperm w o)
  | 0x24 => some (.vslide w o)
  | 0x25 => some (.vmovg w o)
  | 0x28 => some (.vrsum w o)
  | 0x29 => some (.vrmax w o)
  | 0x2A => some (.vrmin w o)
  | 0x2B => some (.vrssq w o)
  | 0x2C => some (.vrssqA w o)
  | 0x2D => some (.vmmrg w o)
  | 0x2E => some (.vmred w o)
  | 0x2F => some (.vmvar w o)
  | 0x30 => some (.vact w o)
  | 0x31 => some (.vtload w o)
  | 0x32 => some (.vepc w o)
  | 0x38 => some (.vfctlR w o)
  | 0x39 => some (.vfctlW w o)
  | 0x3A => some (.vfflag w o)
  | 0x3B => some (.vfflagC w o)
  | 0x3C => some (.vrseed w o)
  | 0x3D => some (.vrctr w o)
  | 0x3E => some (.vrgetS w o)
  | 0x3F => some (.vrgetC w o)
  | _ => none

/-- SYNC (Table 9-2). -/
def decodeSync (x : W32) (w : Who) : Option Instr :=
  let o : OpS := ⟨bf 5 x 14 10, bf 5 x 19 15, bf 8 x 27 20, tb x 28⟩
  if fld x 31 29 ≠ 0 then none
  else match fld x 9 6 with
  | 0 => some (.sadd w o) | 1 => some (.saddP w o) | 2 => some (.stake w o) | 3 => some (.swatch w o)
  | 4 => some (.sset w o) | 5 => some (.sread w o) | 6 => some (.roll w o) | _ => none

/-- MSG (Table 8-9). -/
def decodeMsg (x : W32) (w : Who) : Option Instr :=
  let o : OpG := ⟨bf 5 x 14 10, bf 6 x 20 15⟩
  if fld x 31 21 ≠ 0 then none
  else match fld x 9 6 with
  | 0 => some (.sendv w o) | 1 => some (.sendf w o) | 2 => some (.sendfG w o)
  | 4 => some (.recvv w o) | 5 => some (.recvf w o) | 6 => some (.qrel w o) | 7 => some (.qpoll w o) | _ => none

/-- CSR (format C). -/
def decodeCsr (x : W32) (w : Who) : Option Instr :=
  let r := bf 5 x 12 8
  let n := bf 12 x 31 20
  if fld x 19 13 ≠ 0 then none
  else match fld x 7 6 with
  | 0 => some (.csrr w r n) | 1 => some (.csrw w r n) | 2 => some (.csrra w r n) | _ => some (.csrwa w r n)

/-- AOP (format A). -/
def decodeAop (x : W32) (w : Who) : Option Instr :=
  let ad := bf 3 x 10 8
  let as := bf 3 x 13 11
  match fld x 7 6 with
  | 0 => some (.aaddi w ad as (bf 18 x 31 14))
  | 1 => some (.amod w ad as (bf 18 x 31 14))
  | 2 => if fld x 31 24 ≠ 0 ∨ as ≠ 0 then none else some (.amov w ad (bf 5 x 18 14) (bf 5 x 23 19))
  | _ => if fld x 31 19 ≠ 0 then none else some (.aadd w ad as (bf 5 x 18 14))

/-- MX (Tables 3-2 and 3-3); TLOAD and TSTORE are forbidden in a micro-op. -/
def decodeMx (x : W64) (w : Who) : Option Instr :=
  if fld x 63 62 ≠ 0 then none
  else match fld x 9 6 with
  | 0 =>
    let o : OpMma :=
      { asrc := tb x 11, aidx := bf 3 x 14 12, ta := bf 4 x 18 15, tb := bf 4 x 22 19, rows := bf 4 x 26 23, cols := bf 6 x 32 27
        klen := bf 10 x 42 33, run := bf 2 x 44 43, dest := bf 2 x 46 45, gb := bf 5 x 51 47, gp := bf 5 x 56 52
        vsa := bf 5 x 61 57 }
    if tb x 10 then some (.mmaG w o) else some (.mma w o)
  | 1 =>
    let o : OpDrain :=
      { src := tb x 11, scls := tb x 12, gp := bf 5 x 17 13, td := bf 4 x 21 18, dst := tb x 22, didx := bf 3 x 25 23
        lay := tb x 26, rows := bf 4 x 30 27, cols := bf 6 x 36 31, coff := bf 2 x 38 37, soff := bf 3 x 41 39
        vsd := bf 5 x 46 42, fuse := bf 2 x 48 47, fidx := bf 3 x 51 49, tf := bf 4 x 55 52, rm := bf 3 x 58 56
        om := tb x 59, epi := tb x 60, clr := tb x 61 }
    if tb x 10 then some (.mdrainG w o) else some (.mdrain w o)
  | _ => none

/-- The instruction that a micro-op's words hold; none for one that R194 forbids or that no major defines. -/
def decodeMicro (x w1 : W32) (w : Who) : Option Instr :=
  let rd := bf 5 x 10 6
  let i : OpI := ⟨rd, bf 5 x 15 11, bf 16 x 31 16⟩
  let m : OpM := ⟨rd, bf 3 x 13 11, bf 2 x 15 14, bf 2 x 17 16, bf 3 x 20 18, bf 11 x 31 21⟩
  if w1 ≠ 0 ∧ fld x 5 0 ≠ 0x3E then none
  else match fld x 5 0 with
  | 0x01 => decodeOp x w
  | 0x02 => some (.addi w i) | 0x03 => some (.andi w i) | 0x04 => some (.ori w i) | 0x05 => some (.xori w i)
  | 0x06 => some (.shi w i) | 0x07 => some (.lui w i) | 0x08 => some (.cmpi w i)
  | 0x0D => if fld x 31 11 ≠ 0 then none else if tb x 6 then some (.waitm w (bf 4 x 10 7)) else some (.waitl w (bf 4 x 10 7))
  | 0x0E => decodeCsr x w
  | 0x10 => some (.ldl w m) | 0x11 => some (.stl w m) | 0x12 => some (.ld w m) | 0x13 => some (.st w m)
  | 0x14 => (match fld x 10 6 with
    | 0 => some (.pref w m) | 1 => some (.prefS w m) | 2 => some (.cinv w m) | 3 => some (.cinvAll w m) | _ => none)
  | 0x16 => decodeAop x w
  | 0x18 => decodeSync x w
  | 0x19 => decodeMsg x w
  | 0x20 => decodeVop x w
  | 0x22 | 0x23 => some (.vcvt w ⟨rd, bf 5 x 15 11, bf 4 x 19 16, bf 4 x 23 20, bf 3 x 26 24, tb x 27, bf 4 x 31 28, tb x 0⟩)
  | 0x24 => if fld x 31 29 ≠ 0 then none
    else some (.vepx w ⟨rd, bf 5 x 15 11, bf 4 x 19 16, bf 3 x 22 20, tb x 23, bf 4 x 27 24, tb x 28⟩)
  | 0x25 => if fld x 31 29 ≠ 0 then none
    else
      let o : OpVM := ⟨rd, bf 5 x 15 11, bf 5 x 20 16, bf 3 x 23 21, bf 4 x 27 24⟩
      if tb x 28 then some (.vmomA w o) else some (.vmom w o)
  | 0x3E => decodeMx (w1 ++ x) w
  | _ => none

/-- What the issue of an instruction that a micro-op may hold does (Table 5-6). -/
def bodyOf (i : Instr) : Option (Info × (Env → State → Res)) :=
  match i with
  | .add _ o => some ((aluInfo o), (aluBody .add o))
  | .sub _ o => some ((aluInfo o), (aluBody .sub o))
  | .and _ o => some ((aluInfo o), (aluBody .and o))
  | .or _ o => some ((aluInfo o), (aluBody .or o))
  | .xor _ o => some ((aluInfo o), (aluBody .xor o))
  | .shl _ o => some ((aluInfo o), (aluBody .shl o))
  | .shr _ o => some ((aluInfo o), (aluBody .shr o))
  | .sra _ o => some ((aluInfo o), (aluBody .sra o))
  | .slt _ o => some ((aluInfo o), (aluBody .slt o))
  | .sltu _ o => some ((aluInfo o), (aluBody .sltu o))
  | .min _ o => some ((aluInfo o), (aluBody .min o))
  | .max _ o => some ((aluInfo o), (aluBody .max o))
  | .minu _ o => some ((aluInfo o), (aluBody .minu o))
  | .maxu _ o => some ((aluInfo o), (aluBody .maxu o))
  | .mul _ o => some ((aluInfo o), (aluBody .mul o))
  | .mulh _ o => some ((aluInfo o), (aluBody .mulh o))
  | .mulhu _ o => some ((aluInfo o), (aluBody .mulhu o))
  | .div _ o => some ((aluInfo o), (aluBody .div o))
  | .divu _ o => some ((aluInfo o), (aluBody .divu o))
  | .rem _ o => some ((aluInfo o), (aluBody .rem o))
  | .remu _ o => some ((aluInfo o), (aluBody .remu o))
  | .addi _ o => some ((immInfo o), (addiBody o))
  | .andi _ o => some ((immInfo o), (andiBody o))
  | .ori _ o => some ((immInfo o), (oriBody o))
  | .xori _ o => some ((immInfo o), (xoriBody o))
  | .shi _ o => some ((immInfo o), (shiBody o))
  | .lui _ o => some ((immInfo o), (luiBody o))
  | .cmpi _ o => some ({ setsFlags := true }, (cmpiBody o))
  | .waitl _ n => some ({}, (waitlBody n))
  | .waitm _ n => some ({}, (waitmBody n))
  | .csrr _ r num => some ({ writes := [r] }, (csrReadBody false r num))
  | .csrw _ r num => some ({}, (csrWriteBody false r num))
  | .csrra _ r num => some ({}, (csrReadBody true r num))
  | .csrwa _ r num => some ({}, (csrWriteBody true r num))
  | .ldl _ o => some ((memInfo o), (ldlBody o))
  | .stl _ o => some ({}, (stlBody o))
  | .ld _ o => some ((memInfo o), (ldBody o))
  | .st _ o => some ({}, (stBody o))
  | .pref _ o => some ({}, (prefBody o))
  | .prefS _ o => some ({}, (prefSBody o))
  | .cinv _ o => some ({}, (cinvBody o))
  | .cinvAll _ o => some ({}, (cinvAllBody o))
  | .aaddi _ ad as imm => some ({}, (aaddiBody ad as imm))
  | .amod _ ad as imm => some ({}, (amodBody ad as imm))
  | .amov _ ad gl gh => some ({}, (amovBody ad gl gh))
  | .aadd _ ad as g => some ({}, (aaddBody ad as g))
  | .sadd _ o => some ({}, (syncBody .sadd o))
  | .saddP _ o => some ({}, (syncBody .saddP o))
  | .stake _ o => some ({}, (syncBody .stake o))
  | .swatch _ o => some ({}, (syncBody .swatch o))
  | .sset _ o => some ({}, (syncBody .sset o))
  | .sread _ o => some ({ writes := [o.ra] }, (syncBody .sread o))
  | .roll _ o => some ({}, (syncBody .roll o))
  | .sendv _ o => some ({}, (sendBody 0 o))
  | .sendf _ o => some ({}, (sendBody 1 o))
  | .sendfG _ o => some ({}, (sendBody 2 o))
  | .recvv _ o => some ({}, (recvvBody o))
  | .recvf _ o => some ({ writes := [o.r] }, (recvfBody o))
  | .qrel _ o => some ({}, (qrelBody o))
  | .qpoll _ o => some ({ writes := [o.r] }, (qpollBody o))
  | .vadd _ o => some ((vTyped3 o), (vfloatBody .add o))
  | .vsub _ o => some ((vTyped3 o), (vfloatBody .sub o))
  | .vmul _ o => some ((vTyped3 o), (vfloatBody .mul o))
  | .vfma _ o => some ((vTyped3 o), (vfloatBody .fma o))
  | .vfms _ o => some ((vTyped3 o), (vfloatBody .fms o))
  | .vneg _ o => some ((vTyped2 o), (vunaryBody (signElt true) o))
  | .vabs _ o => some ((vTyped2 o), (vunaryBody (signElt false) o))
  | .vmin _ o => some ((vTyped3 o), (vpickBody false o))
  | .vmax _ o => some ((vTyped3 o), (vpickBody true o))
  | .vrcpe _ o => some ((vTyped2 o), (vunaryBody rcpElt o))
  | .vrsqe _ o => some ((vTyped2 o), (vunaryBody rsqElt o))
  | .vcmpEq _ o => some ((vTyped3 o), (vcmpBody .eq o))
  | .vcmpNe _ o => some ((vTyped3 o), (vcmpBody .ne o))
  | .vcmpLt _ o => some ((vTyped3 o), (vcmpBody .lt o))
  | .vcmpLe _ o => some ((vTyped3 o), (vcmpBody .le o))
  | .vcmpUn _ o => some ((vTyped3 o), (vcmpBody .un o))
  | .vsel _ o => some ((vBare3 o), (vselBody o))
  | .viadd _ o => some ((vTyped3 o), (vintBody .add o))
  | .visub _ o => some ((vTyped3 o), (vintBody .sub o))
  | .viadds _ o => some ((vTyped3 o), (vintBody .adds o))
  | .visubs _ o => some ((vTyped3 o), (vintBody .subs o))
  | .vimul _ o => some ((vTyped3 o), (vintBody .mul o))
  | .vimin _ o => some ((vTyped3 o), (vintBody .min o))
  | .vimax _ o => some ((vTyped3 o), (vintBody .max o))
  | .vand _ o => some ((vTyped3 o), (vintBody .and o))
  | .vor _ o => some ((vTyped3 o), (vintBody .or o))
  | .vxor _ o => some ((vTyped3 o), (vintBody .xor o))
  | .vshl _ o => some ((vTyped3 o), (vintBody .shl o))
  | .vshrl _ o => some ((vTyped3 o), (vintBody .shrl o))
  | .vshra _ o => some ((vTyped3 o), (vintBody .shra o))
  | .vmov _ o => some ((vBare2 o), (vmovBody o))
  | .vbcast _ o => some ((vTyped2 o), (vbcastBody o))
  | .vdup _ o => some ((vTyped3 o), (vdupBody o))
  | .vperm _ o => some ((vBare3 o), (vpermBody o))
  | .vslide _ o => some ((vBare3 o), (vslideBody o))
  | .vmovg _ o => some ((vMovG o), (vmovgBody o))
  | .vrsum _ o => some ((vTyped2 o), (vrsumBody o))
  | .vrmax _ o => some ((vTyped2 o), (vrpickBody true o))
  | .vrmin _ o => some ((vTyped2 o), (vrpickBody false o))
  | .vrssq _ o => some ((vTyped2 o), (vrssqBody false o))
  | .vrssqA _ o => some ((vTyped2 o), (vrssqBody true o))
  | .vmom _ o => some ({}, (vmomBody false o))
  | .vmomA _ o => some ({}, (vmomBody true o))
  | .vmmrg _ o => some ((vBare3 o), (vmmrgBody o))
  | .vmred _ o => some ((vBare2 o), (vmredBody o))
  | .vmvar _ o => some ((vBare2 o), (vmvarBody o))
  | .vact _ o => some ((vTyped3 o), (vactBody o))
  | .vtload _ o => some ((vBare2 o), (vtloadBody o))
  | .vepc _ o => some ((vFromG o), (vepcBody o))
  | .vfctlR _ o => some ((vToG o), (vfctlRBody o))
  | .vfctlW _ o => some ((vFromG o), (vfctlWBody o))
  | .vfflag _ o => some ((vToG o), (vfflagBody false o))
  | .vfflagC _ o => some ((vClearG o), (vfflagBody true o))
  | .vrseed _ o => some ((vFromPair o), (vrseedBody o))
  | .vrctr _ o => some ((vFromPair o), (vrctrBody o))
  | .vrgetS _ o => some ((vToPair o), (vrgetBody Core.seed o))
  | .vrgetC _ o => some ((vToPair o), (vrgetBody Core.ctr o))
  | .vcvt _ o => some ({}, (vcvtBody o))
  | .vepx _ o => some ({}, (vepxBody o))
  | .mma _ o => some ({ len := 8 }, (mmaBody false o))
  | .mmaG _ o => some ({ len := 8 }, (mmaBody true o))
  | .mdrain _ o => some ({ len := 8 }, (drainBody false o))
  | .mdrainG _ o => some ({ len := 8 }, (drainBody true o))
  | _ => none

/-- The template with its operands substituted (R192). -/
def substitute (w0 ctl : W32) (o : OpCustom) : W32 :=
  let src (c : Nat) (hi lo : Nat) (x : W32) : W32 :=
    match c with
    | 0 => x
    | 1 => setFld x hi lo o.opd.toNat
    | 2 => setFld x hi lo o.opa.toNat
    | _ => setFld x hi lo o.opb.toNat
  let x := src (fld ctl 5 4) 20 16 (src (fld ctl 3 2) 15 11 (src (fld ctl 1 0) 10 6 w0))
  if tb ctl 6 then setFld x 31 16 (o.imm7.signExtend 16).toNat else x

/-- The next micro-op of a sequence issues in cycle t (R193 to R195): read from the store, substituted, decoded and run as an
instruction. -/
def State.microIssue (s : State) (k i t : Nat) (w : Who) : State :=
  let x := s.strand k i
  match x.micro with
  | none => s
  | some m =>
    let u := clusterOf k
    let a := s.reg (Reg.CLU_UC_OPA u (m.start + m.next))
    let b := s.reg (Reg.CLU_UC_OPB u (m.start + m.next))
    let word := substitute (a.setWidth 32) (b.setWidth 32) m.o
    let e : Env := ⟨k, i, t, word.toNat, w.ecc⟩
    if 255 < m.start + m.len ∨ fld b 63 7 ≠ 0 then s.settle e 4 (illegal e)
    else match (decodeMicro word (BitVec.ofNat 32 (fld a 63 32)) { w with word := word, rsvd := false }).bind bodyOf with
    | none => s.settle e 4 (illegal e)
    | some (info, body) =>
      if x.forbids { info with noLast := false } { w with rsvd := false } then s.settle e 4 (illegal e) else s.settle e 4 (body e s)

/-- CUSTOM (R191): the entry is read at issue, and micro-op 0 issues in the same slot. -/
def customBody (w : Who) (o : OpCustom) (e : Env) (s : State) : Res :=
  let r := Reg.CLU_UC_DEC (clusterOf e.k) o.sel.toNat
  if isSteward e.k || !s.rbit r Reg.CLU_UC_DEC.VALID then illegal e
  else if !s.rbit r Reg.CLU_UC_DEC.UMODE && (s.strand e.k e.i).priv == 0 then privileged e
  else
    let m : MicroRun :=
      { sel := o.sel.toNat, epoch := s.rbit r Reg.CLU_UC_DEC.EPOCH, start := s.rf r Reg.CLU_UC_DEC.START, next := 0
        len := s.rf r Reg.CLU_UC_DEC.LEN, o := o }
    .settled ((s.modStrand e.k e.i fun x => { x with micro := some m }).microIssue e.k e.i e.t w)

/-- MICRO_OP: the next micro-op of a sequence in flight issues in the strand's slot (R193). -/
def State.microOp (s : State) (w : Who) : State :=
  let x := s.strand w.core w.strand
  if !whoOk w || x.run != .running || x.micro.isNone then s
  else
    let t := s.slotFor w.core w.strand w.cycle
    (s.atSlot w.core w.strand t).microIssue w.core w.strand t w

/-- CUSTOM (R191). -/
def execCustom (w : Who) (o : OpCustom) (s : State) : Out := .next (issue w { noDelay := true } (customBody w o) s)
/-- MICRO_OP (R193). -/
def execMicroOp (w : Who) (s : State) : Out := .next (s.microOp w)

end Sys2Proof.Machine
end

