-- ==== Sys2Proof/Machine/Package.lean ====
section
/-! DEFINITION. Reset, the boot ROM and bring-up, sensors and throttling, faults, I3C and the test access port (R435, R436, R439, R443,
R459, R462, R463, R469 to R487). -/

namespace Sys2Proof.Machine

def State.modPhys (s : State) (f : PhysState → PhysState) : State := { s with phys := f s.phys }

/-! ### Management status (R477) -/

/-- FLAGS of the status set. -/
def State.i3cFlagBits (s : State) : Nat :=
  s.rf Reg.PWR_CLK Reg.PWR_CLK.THROTTLE + 2 * bit s.phys.alertLow + 4 * bit s.phys.faultLow + 8 * s.rf Reg.PWR_FAULT Reg.PWR_FAULT.TRIP
    + 16 * bit (s.rf Reg.TIME_STAT Reg.TIME_STAT.LOCK == 2)

/-- A change of bit 1, 2 or 3 raises an in-band interrupt with FLAGS, once ENEC has come. -/
def State.i3cUpdate (s : State) : State :=
  let f := s.i3cFlagBits
  let change := f / 2 % 8 != s.phys.i3cFlags / 2 % 8
  s.modPhys fun p => { p with i3cFlags := f, i3cRaised := if change && p.i3cIbi then p.i3cRaised ++ [f] else p.i3cRaised }

/-- The status set (Table 15-7). -/
def State.statusSet (s : State) : List Byte :=
  let resting := s.phys.inReset || s.phys.tripped || !s.phys.resetN
  let hot (f : Fld) : Nat := s.rf Reg.PWR_HOT f
  toBytes 1 1 ++ toBytes 1 (if resting then 0 else s.rf Reg.CHT_BOOT Reg.CHT_BOOT.STAGE)
    ++ toBytes 1 (if resting then 0xFF else s.sec.lifecycle) ++ toBytes 1 s.i3cFlagBits
    ++ toBytes 1 (hot Reg.PWR_HOT.HOTJ) ++ toBytes 1 (hot Reg.PWR_HOT.HOTSEN) ++ toBytes 1 (hot Reg.PWR_HOT.HOTHBM)
    ++ toBytes 1 (hot Reg.PWR_HOT.HOTSTK) ++ toBytes 2 (s.rf Reg.PWR_POWER Reg.PWR_POWER.WATTS)
    ++ toBytes 2 (s.rf Reg.PWR_POWER Reg.PWR_POWER.VCORE_MV) ++ toBytes 1 (s.rf Reg.PWR_FAULT Reg.PWR_FAULT.CAUSE)
    ++ toBytes 2 (s.rf Reg.PWR_CLK Reg.PWR_CLK.LEVEL) ++ toBytes 1 0 ++ toBytes 8 (s.reg Reg.ID_SERIAL).toNat

/-! ### Entering reset (R436, R462, R473) -/

/-- What a reset leaves of the package's state: the pins, the fault, the sensors' protection, the I3C target, the TAP, retired cores. -/
def PhysState.kept (p : PhysState) : PhysState :=
  { p with inReset := true, therm := Vector.replicate 6 0, cool := Vector.replicate 6 0, power := 0, below := 0, halved := [] }

/-- What a reset leaves of fuses and boot flash. -/
def SecState.kept (c : SecState) : SecState :=
  { fuseP := c.fuseP, fuseF := c.fuseF, fuseR := c.fuseR, keyhash := c.keyhash, keyrev := c.keyrev, svn := c.svn, dukGone := c.dukGone
    oproot := c.oproot, boot := c.boot, cfgRoot := c.cfgRoot, cfgMsreq := c.cfgMsreq, slotA := c.slotA, slotB := c.slotB
    attKey := c.attKey, chain := c.chain }

/-- The device enters reset: registers take their reset values but for those kept through RESET_N; partitions, sessions, keys, lock and
waypoints are lost; memories keep what they hold until they are brought up again. -/
def State.enterReset (s : State) : State :=
  let keep := [Reg.PWR_FAULT.CAUSE, Reg.PWR_FAULT.TRIP, Reg.PWR_FAULT.SEEN]
  let s1 : State := { State.reset with
    mem := s.mem, phys := s.phys.kept, sec := s.sec.kept, free := s.free, pending := s.pending
    ext := { poison := s.ext.poison, unitKey := s.ext.unitKey, retired := s.ext.retired } }
  keep.foldl (fun t f => t.setRf Reg.PWR_FAULT f (s.rf Reg.PWR_FAULT f)) s1

/-- FAULT_N falls (R487): the first cause is kept, every cause is seen. -/
def State.recordFault (s : State) (cause : Nat) : State :=
  let s := if s.rf Reg.PWR_FAULT Reg.PWR_FAULT.CAUSE = 0 then s.setRf Reg.PWR_FAULT Reg.PWR_FAULT.CAUSE cause else s
  let seen := BitVec.ofNat 5 (s.rf Reg.PWR_FAULT Reg.PWR_FAULT.SEEN) ||| BitVec.ofNat 5 (2 ^ (cause - 1))
  (s.setRf Reg.PWR_FAULT Reg.PWR_FAULT.SEEN seen.toNat).modPhys fun p => { p with faultLow := true }

/-- PWR_FAULT as power-up sets it. -/
def State.clearFault (s : State) : State := s.setReg Reg.PWR_FAULT (regReset Reg.PWR_FAULT)

def State.powerRise (s : State) : State :=
  if s.phys.pwrGood then s else (s.clearFault.modPhys fun p => { p with pwrGood := true, inReset := true }).i3cUpdate
def State.powerFall (s : State) : State :=
  if !s.phys.pwrGood then s
  else s.enterReset.clearFault.modPhys fun p => { p with
    pwrGood := false, tripped := false, faultLow := false, alertLow := false, i3cAddr := none, i3cIbi := false, i3cFlags := 0 }
/-- A low pulse of 1 µs or more on RESET_N; it ends no trip, and FAULT_N stays low but for a boot that failed. -/
def State.resetFall (s : State) : State :=
  let boot := s.rf Reg.PWR_FAULT Reg.PWR_FAULT.CAUSE == 1
  (s.enterReset.modPhys fun p => { p with resetN := false, faultLow := p.faultLow && !boot }).i3cUpdate
def State.resetRise (s : State) : State := s.modPhys fun p => { p with resetN := true }

/-! ### Clock levels (R471, R481) -/

/-- The clock level that a tower's demands give. -/
def State.towerLevel (s : State) (t : Nat) : Nat :=
  max (max (vget s.phys.therm t) s.phys.power) (if s.cluReduced (2 * t) || s.cluReduced (2 * t + 1) then 2 else 0)

/-- LEVEL, THERM, CAPPED and THROTTLE, the steps upward, and the voltages of the fastest tower. -/
def State.settleClocks (s : State) : State :=
  let lv := (List.range 6).map s.towerLevel
  let old := s.rf Reg.PWR_CLK Reg.PWR_CLK.LEVEL
  let up := ((List.range 6).zip lv).foldl (fun n (x : Nat × Nat) => n + (x.2 - old / 2 ^ (2 * x.1) % 4)) 0
  let s := s.setRf Reg.PWR_CLK Reg.PWR_CLK.LEVEL (((List.range 6).zip lv).foldl (fun n x => n + x.2 % 4 * 2 ^ (2 * x.1)) 0)
  let s := s.setRf Reg.PWR_CLK Reg.PWR_CLK.THERM ((List.range 6).foldl (fun n t => n + bit (vget s.phys.therm t != 0) * 2 ^ t) 0)
  let s := (s.setRf Reg.PWR_CLK Reg.PWR_CLK.CAPPED (bit (s.phys.power != 0))).setRf Reg.PWR_CLK Reg.PWR_CLK.THROTTLE (bit (lv.any (· != 0)))
  let fast := lv.foldl min 3
  let s := s.bump Reg.PWR_THR Reg.PWR_THR.STEPS up
  (s.setRf Reg.PWR_POWER Reg.PWR_POWER.VCORE_MV (Config.levelMv fast).toNat).setRf Reg.PWR_POWER Reg.PWR_POWER.VSRAM_MV
    (Config.levelMv (4 + fast)).toNat

/-! ### Alert and trip (R485, R486) -/

def State.sensor (s : State) (n : Nat) : Nat := s.rf (Reg.PWR_TEMP n) Reg.PWR_TEMP.TEMP
def State.stackTemp (s : State) (n : Nat) : Nat := s.rf (Reg.HBM_STAT n) Reg.HBM_STAT.TEMP

/-- THERM_ALERT_N and PWR_FAULT.ALERT. -/
def State.settleAlert (s : State) : State :=
  let a := (List.range 56).any (fun n => decide (100 ≤ s.sensor n)) || (List.range 24).any (fun n => decide (95 ≤ s.stackTemp n))
    || (List.range 6).any (fun t => vget s.phys.therm t != 0) || s.phys.power != 0
  ((s.setRf Reg.PWR_FAULT Reg.PWR_FAULT.ALERT (bit a)).modPhys fun p => { p with alertLow := a }).i3cUpdate

/-- A trip: every clock but those of the sensors and of I3C stops, and the device is in reset. -/
def State.trip (s : State) (cause : Nat) : State :=
  let temps := (List.range 56).map fun n => s.reg (Reg.PWR_TEMP n)
  let hot := s.reg Reg.PWR_HOT
  let s := ((s.setRf Reg.PWR_FAULT Reg.PWR_FAULT.TRIP 1).recordFault cause).enterReset
  let s := (((List.range 56).zip temps).foldl (fun s x => s.setReg (Reg.PWR_TEMP x.1) x.2) s).setReg Reg.PWR_HOT hot
  s.modPhys fun p => { p with tripped := true }

/-- The hottest of some readings and its number, the lowest of equals. -/
def hottest (l : List Nat) : Nat × Nat :=
  l.zipIdx.foldl (fun b x => if b.1 < x.1 then x else b) (l.headD 0, 0)

/-- SENSOR_SAMPLE: TS0 on. -/
def State.sampleSensors (s : State) (temps : List Byte) : State :=
  if !s.phys.pwrGood then s
  else
    let s := ((temps.take 56).zipIdx).foldl (fun s (x : Byte × Nat) =>
      (s.setRf (Reg.PWR_TEMP x.2) Reg.PWR_TEMP.TEMP x.1.toNat).setRf (Reg.PWR_TEMP x.2) Reg.PWR_TEMP.VALID 1) s
    let (t, n) := hottest ((List.range 56).map s.sensor)
    let s := (s.setRf Reg.PWR_HOT Reg.PWR_HOT.HOTJ t).setRf Reg.PWR_HOT Reg.PWR_HOT.HOTSEN n
    (if 115 ≤ t ∧ !s.phys.tripped then s.trip 2 else s).settleAlert

/-- HBM_TEMP_READ: a stack's own sensor; its bandwidth is halved from 95 °C until 90 °C (R484). -/
def State.stackRead (s : State) (n : Nat) (temp : Byte) : State :=
  if !s.phys.pwrGood ∨ 24 ≤ n then s
  else
    let s := s.setRf (Reg.HBM_STAT n) Reg.HBM_STAT.TEMP temp.toNat
    let (t, k) := hottest ((List.range 24).map s.stackTemp)
    let s := (s.setRf Reg.PWR_HOT Reg.PWR_HOT.HOTHBM t).setRf Reg.PWR_HOT Reg.PWR_HOT.HOTSTK k
    let s := s.modPhys fun p => { p with halved :=
      if 95 ≤ temp.toNat then (if p.halved.contains n then p.halved else p.halved ++ [n])
      else if temp.toNat ≤ 90 then p.halved.filter (· != n) else p.halved }
    (if 105 ≤ temp.toNat ∧ !s.phys.tripped then s.trip 3 else s).settleAlert

/-! ### Evaluations (R482, R483) -/

/-- A tower's thermal level after an evaluation, and its evaluations at 95 °C or below: a fall comes after 10 ms of them. -/
def thermStep (level cool hot : Nat) : Nat × Nat :=
  if 100 ≤ hot then (min 3 (level + 1), 0)
  else if hot ≤ 95 then (if 99 ≤ cool then (level - 1, 0) else (level, cool + 1))
  else (level, 0)

/-- THERMAL_EVALUATION: the sensors of the I/O dies count for every tower. -/
def State.thermal (s : State) : State :=
  if !s.phys.pwrGood then s
  else
    let io := (hottest ((List.range 8).map fun i => s.sensor (48 + i))).1
    let s := (List.range 6).foldl (fun s t =>
      let hot := max io (hottest ((List.range 8).map fun i => s.sensor (8 * t + i))).1
      let (l, c) := thermStep (vget s.phys.therm t) (vget s.phys.cool t) hot
      s.modPhys fun p => { p with therm := vset p.therm t l, cool := vset p.cool t c }) s
    s.settleClocks.settleAlert

/-- POWER_EVALUATION: the power of the last 10 ms, against the cap; a fall comes after 10 ms below 95 % of it. -/
def State.powerEval (s : State) (watts : Nat) : State :=
  if !s.phys.pwrGood then s
  else
    let cap := s.rf Reg.PWR_CAP Reg.PWR_CAP.WATTS
    let (amps, s) := s.fresh
    let s := (s.setRf Reg.PWR_POWER Reg.PWR_POWER.WATTS (min watts 65535)).setRf Reg.PWR_POWER Reg.PWR_POWER.VCORE_A amps
    let s := s.bump Reg.PWR_THR Reg.PWR_THR.MS (s.rf Reg.PWR_CLK Reg.PWR_CLK.THROTTLE)
    let s := s.modPhys fun p =>
      if cap < watts then { p with power := min 3 (p.power + 1), below := 0 }
      else if watts * 100 < cap * 95 then (if 9 ≤ p.below then { p with power := p.power - 1, below := 0 } else { p with below := p.below + 1 })
      else { p with below := 0 }
    s.settleClocks.settleAlert

/-! ### Faults and references (R469, R487) -/

/-- RAIL_FAULT and REFCLK_LOSS: the device enters reset. -/
def State.faultReset (s : State) (cause : Nat) : State :=
  if !s.phys.pwrGood then s else ((s.recordFault cause).enterReset).i3cUpdate

/-! ### Boot (R443) -/

/-- The copy of the boot record that counts: the valid one with the higher GEN; PREF names slot B. -/
def bootPref (b : List (Option (Bool × Nat))) : Option Bool :=
  match b[0]?.join, b[1]?.join with
  | some x, some y => some (if x.2 < y.2 then y.1 else x.1)
  | some x, none => some x.1
  | none, some y => some y.1
  | none, none => none

/-- The slots in the order in which the ROM tries them. -/
def bootOrder (b : List (Option (Bool × Nat))) : List Bool :=
  let p := (bootPref b).getD false
  [p, !p]

def State.slotImage (s : State) (slot : Bool) : Option Image := if slot then s.sec.slotB else s.sec.slotA

/-- The first image that verifies. -/
def State.bootImage (s : State) : Option Loaded :=
  (bootOrder s.sec.boot).findSome? fun slot => (s.slotImage slot).bind fun i => if s.verifies i then some ⟨slot, i⟩ else none

/-- Fields that firmware sets from the boot flash and the fuses (Table 12-10, R346, R435). -/
def flashRegs : List (Nat × List Fld) :=
  [(Reg.HST_MAC, [Reg.HST_MAC.MAC]), (Reg.HST_VLAN, [Reg.HST_VLAN.VID, Reg.HST_VLAN.PCP]), (Reg.HST_IP4, [Reg.HST_IP4.ADDR]),
    (Reg.HST_IP6H, [⟨63, 0⟩]), (Reg.HST_IP6L, [⟨63, 0⟩]), (Reg.HST_STAT, [Reg.HST_STAT.PHY]),
    (Reg.HST_CFG, [Reg.HST_CFG.V4, Reg.HST_CFG.V6, Reg.HST_CFG.VREQ, Reg.HST_CFG.UDPPORT]),
    (Reg.TIME_CFG, [Reg.TIME_CFG.SRC, Reg.TIME_CFG.DOMAIN])]

/-- Registers set from the boot flash. -/
def State.fromFlash (s : State) (l : List (Nat × List Fld)) : State :=
  l.foldl (fun s (x : Nat × List Fld) => x.2.foldl (fun s f => s.setRf x.1 f (fld (Config.flashReg x.1) f.hi f.lo)) s) s

/-- Cores that the tests at bring-up put in service, without those that have been retired; a cluster whose cores are all retired is
Retired. -/
def State.coresLive (s : State) : State :=
  let s := (List.range 480).foldl (fun s k =>
    s.setRf (Reg.ID_CORE_LIVE (k / 64)) ⟨k % 64, k % 64⟩
      (bit (tb (Config.flashReg (Reg.ID_CORE_LIVE (k / 64))) (k % 64) && !s.phys.retired.contains k))) s
  (List.range 12).foldl (fun s u => if (List.range 40).all fun j => s.phys.retired.contains (40 * u + j) then s.setClu u 4 else s) s

/-- Stage 2: firmware measures the configuration region and the list of retired pages (Table 14-4), and takes up its settings. -/
def State.startFirmware (s : State) : State :=
  let s := s.measure 0xFF03 2 0 [] (some Config.flashDigest)
  let s := s.measure 0xFF03 2 0 [] (some (Config.sha256 s.retiredList))
  let s := (s.fromFlash flashRegs).coresLive
  if s.sec.cfgMsreq then s.setRf Reg.HST_CFG Reg.HST_CFG.MSREQ 1 else s

/-- RESET_END and the boot ROM: secure SRAM is clear, the images are those found in the flash; a Return that a power loss interrupted
is completed (R458). -/
def State.boot (s : State) (slotA slotB : Option Image) : State :=
  if !s.phys.pwrGood ∨ !s.phys.resetN ∨ s.phys.tripped ∨ !(s.phys.inReset ∨ (s.rf Reg.CHT_BOOT Reg.CHT_BOOT.STAGE = 1 ∧ s.sec.running.isNone)) then s
  else
    let s := ((s.modPhys fun p => { p with inReset := false }).modSec fun c =>
      { c with slotA := slotA, slotB := slotB, fuseR := c.fuseR || c.dukGone }).settleClocks
    let s := s.setRf Reg.CHT_BOOT Reg.CHT_BOOT.STAGE 2
    match s.bootImage with
    | some x =>
      let s := s.measure 0xFF00 0 0 (Config.romRecord s.sec.lifecycle s.sec.svn s.sec.keyrev.toNat x.slot) none
      let s := s.measure 0xFF00 1 0 [] (some x.img.digest)
      (s.modSec fun c => { c with running := some x }).startFirmware
    | none => (s.recordFault 1).i3cUpdate

/-! ### Bring-up (R435, R463) -/

/-- A change of stage from stage 3 on sends SERVICE. -/
def State.setStage (s : State) (n : Nat) : State :=
  let s := s.setRf Reg.CHT_BOOT Reg.CHT_BOOT.STAGE n
  s.event .everyone 0x40 0xF (toBytesBE 1 (n - 3) ++ toBytesBE 3 0)

def State.stage (s : State) : Nat := s.rf Reg.CHT_BOOT Reg.CHT_BOOT.STAGE

/-- STAGE_HOST_PORT: the port is On and UP. -/
def State.stageHost (s : State) : State :=
  if s.stage = 2 ∧ s.sec.running.isSome ∧ s.hostState = .on ∧ s.hostLink = 2 then s.setStage 3 else s

/-- A stack that has trained is scrubbed whole, and is live. -/
def State.stackTrained (s : State) (n : Nat) : State :=
  if 24 ≤ n ∨ !s.alive ∨ s.extLive (.hbm n) ∨ s.rbit (Reg.HBM_STAT n) Reg.HBM_STAT.FAILED then s
  else
    let s := (s.zeroRange (n * 2 ^ 36) (2 ^ 36))
    let s := { s with ext := { s.ext with poison := s.ext.poison.filter fun x => x / 2 ^ 30 != n } }
    (s.setRf (Reg.HBM_STAT n) Reg.HBM_STAT.LIVE 1).setRf Reg.ID_MEM_LIVE ⟨n, n⟩ 1

/-- Whether both home stacks of a cluster are live. -/
def State.homesLive (s : State) (u : Nat) : Bool := s.extLive (.hbm (2 * u)) && s.extLive (.hbm (2 * u + 1))

/-- REDUCED_SERVICE: clusters with their home stacks run at 525 MHz, and the trail configuration of the boot flash is applied. -/
def State.reducedService (s : State) : State :=
  if s.stage ≠ 3 then s
  else
    let s := (List.range 12).foldl (fun s u =>
      if s.homesLive u && !s.cluRetired u then s.setRf Reg.ID_CLU_STATE ⟨5 * u + 4, 5 * u + 4⟩ 1 else s) s
    let s := s.fromFlash [(Reg.TRL_DEVID, [Reg.TRL_DEVID.DEVID, Reg.TRL_DEVID.VALID]), (Reg.TRL_CTL, [Reg.TRL_CTL.HOPS])]
    let s := (List.range 18).foldl (fun s p =>
      let v := Config.flashReg (Reg.TRL_CFG p)
      let s := s.setRf (Reg.TRL_CFG p) Reg.TRL_CFG.MAXW (fld v 2 1)
      if tb v 0 then s.trailEnable p else s.trailDisable p) s
    s.settleClocks.setStage 4

/-- TRAINING_DEADLINE: stacks that have not trained are out of service. -/
def State.trainingDeadline (s : State) : State :=
  if s.stage = 4 ∨ s.stage = 3 then
    (List.range 24).foldl (fun s n => if s.extLive (.hbm n) then s else s.setRf (Reg.HBM_STAT n) Reg.HBM_STAT.FAILED 1) s
  else s

/-- The tag table and its mirror, with every tag not VALID, on stacks that no partition maps (R316). -/
def State.placeTags (s : State) : State :=
  match s.allocFrom 1536 15 (((s.liveStacks (List.range 24)).filter fun n => !s.stackMapped n).map .hbm) with
  | (none, s) => s
  | (some pg, s) =>
    let s := (s.zeroRange (pg * pageBytes) (96 * 2 ^ 20)).setRf Reg.DDR_TAG_BASE Reg.DDR_TAG_BASE.BASE (pg * pageBytes / 2 ^ 20)
    (s.setRf Reg.DDR_TAG_BASE Reg.DDR_TAG_BASE.EN 1).newMirror

/-- Channels that have trained (R306). -/
def State.channelsTrained (s : State) : State :=
  (List.range 12).foldl (fun s n =>
    let v := Config.flashReg (Reg.DDR_STAT n)
    let s := [Reg.DDR_STAT.LIVE, Reg.DDR_STAT.DIMMS, Reg.DDR_STAT.SPEED, Reg.DDR_STAT.CAP].foldl (fun s f =>
      s.setRf (Reg.DDR_STAT n) f (fld v f.hi f.lo)) s
    s.setRf Reg.ID_MEM_LIVE ⟨24 + n, 24 + n⟩ (fld v 0 0)) s

/-- FULL_SERVICE: every stack is live or declared not live; clusters run at CCLK. -/
def State.fullService (s : State) : State :=
  if s.stage ≠ 4 ∨ !(List.range 24).all fun n => s.extLive (.hbm n) || s.rbit (Reg.HBM_STAT n) Reg.HBM_STAT.FAILED then s
  else
    let s := s.channelsTrained.placeTags
    let s := (List.range 12).foldl (fun s u => s.setRf Reg.ID_CLU_STATE ⟨5 * u + 4, 5 * u + 4⟩ 0) s
    s.settleClocks.setStage 5

/-! ### I3C (R477) -/

/-- A private write of one byte sets the read offset; a longer one is ignored. -/
def State.i3cWrite (s : State) (b : List Byte) : State :=
  match b with
  | [x] => if s.phys.pwrGood then s.modPhys fun p => { p with i3cOffset := x.toNat } else s
  | _ => s

/-- A private read: bytes past 0x17 are 0x00. -/
def State.i3cRead (s : State) (len : Nat) : State :=
  if !s.phys.pwrGood then s
  else
    let set := s.statusSet
    s.modPhys fun p => { p with
      i3cOut := (List.range len).map fun i => set[p.i3cOffset + i]?.getD 0#8
      i3cOffset := p.i3cOffset + len }

/-! ### Test access port (R459, R476) -/

/-- Bits shifted through the boundary-scan register after a capture: what leaves at TDO, and what stays. -/
def scanThrough (capture scan : List Bool) : List Bool × List Bool :=
  let l := capture ++ scan
  (l.take scan.length, l.drop scan.length)

/-- A boundary-scan instruction. -/
def State.scanWith (s : State) (i : TapInstr) (capture scan : List Bool) : State :=
  let (out, reg) := scanThrough capture scan
  s.modPhys fun p => { p with tap := i, bsr := reg, tdo := out, hiz := false }

/-- BYPASS: one bit, 0 when captured. -/
def State.bypass (s : State) (tdi : List Bool) : State :=
  s.modPhys fun p => { p with tap := .bypass, hiz := false, tdo := (false :: tdi).take tdi.length }

/-- A fuse field as internal debug reads it, by its place in Table 14-1; DUK reads as zeros (R439). -/
def State.fuseField (s : State) (n : Nat) : Nat :=
  let c := s.sec
  match n with
  | 0 => bit c.fuseP + 2 * bit c.fuseF + 4 * bit c.fuseR
  | 1 | 2 | 3 | 4 => (vget c.keyhash (n - 1)).toNat
  | 5 => c.keyrev.toNat
  | 6 => 2 ^ c.svn - 1
  | 8 => (c.oproot.map (·.toNat)).getD 0
  | 9 => (s.reg Reg.ID_SERIAL).toNat
  | 10 => (Config.flashReg Reg.HST_MAC).toNat % 2 ^ 48
  | _ => 0

/-- INTERNAL_DEBUG: in Test and Return; elsewhere the instruction acts as BYPASS. -/
def State.internalDebug (s : State) (t : JtagTarget) : State :=
  if s.sec.lifecycle = 1 ∨ s.sec.lifecycle = 2 then s.bypass []
  else
    let (v, s) : Nat × State := match t with
      | .sram _ => let (v, s) := s.fresh; (v % 2 ^ 32, s)
      | .fuse n => (s.fuseField n, s)
      | .coreReg k i g => ((vget (s.strand k i).g g.toNat).toNat, s)
    s.modPhys fun p => { p with tap := .debug, hiz := false, jtagOut := some v }

/-! ### Commands -/

/-- PWR_GOOD_RISE (R473). -/
def execPwrGoodRise (s : State) : Out := .next s.powerRise
/-- PWR_GOOD_FALL (R473, R486). -/
def execPwrGoodFall (s : State) : Out := .next s.powerFall
/-- RESET_N_FALL (R473). -/
def execResetNFall (s : State) : Out := .next s.resetFall
/-- RESET_N_RISE (R473). -/
def execResetNRise (s : State) : Out := .next s.resetRise
/-- RESET_END (R443, R473): with the images that the boot flash holds. -/
def execResetEnd (slotA slotB : Option Image) (s : State) : Out := .next (s.boot slotA slotB)
/-- STAGE_HOST_PORT (R435). -/
def execStageHostPort (s : State) : Out := .next s.stageHost
/-- REDUCED_SERVICE (R435). -/
def execReducedService (s : State) : Out := .next s.reducedService
/-- FULL_SERVICE (R435). -/
def execFullService (s : State) : Out := .next s.fullService
/-- TRAINING_DEADLINE (R435). -/
def execTrainingDeadline (s : State) : Out := .next s.trainingDeadline
/-- STACK_TRAINED (R463). -/
def execStackTrained (n : Nat) (s : State) : Out := .next (s.stackTrained n)
/-- SENSOR_SAMPLE (R480). -/
def execSensorSample (temps : List Byte) (s : State) : Out := .next (s.sampleSensors temps)
/-- HBM_TEMP_READ (R480). -/
def execHbmTempRead (n : Nat) (temp : BitVec 8) (s : State) : Out := .next (s.stackRead n temp)
/-- THERMAL_EVALUATION (R482). -/
def execThermalEvaluation (s : State) : Out := .next s.thermal
/-- POWER_EVALUATION (R483). -/
def execPowerEvaluation (watts : Nat) (s : State) : Out := .next (s.powerEval watts)
/-- RAIL_FAULT (R487). -/
def execRailFault (s : State) : Out := .next (s.faultReset 4)
/-- REFCLK_LOSS (R487). -/
def execRefclkLoss (s : State) : Out := .next (s.faultReset 5)
/-- HSTREF_LOSS (R469). -/
def execHstrefLoss (s : State) : Out := .next s.hostDown
/-- TRLREF_LOSS (R469): TP0 to TP8 hang from the north die, TP9 to TP17 from the south die. -/
def execTrlrefLoss (south : Bool) (s : State) : Out :=
  .next ((List.range 9).foldl (fun s i => s.linkDown (if south then 9 + i else i)) s)
/-- I3C_PRIVATE_WRITE (R477). -/
def execI3cPrivateWrite (bytes : List (BitVec 8)) (s : State) : Out := .next (s.i3cWrite bytes)
/-- I3C_PRIVATE_READ (R477). -/
def execI3cPrivateRead (len : Nat) (s : State) : Out := .next (s.i3cRead len)
/-- SETDASA (R477). -/
def execSetdasa (addr : BitVec 7) (s : State) : Out :=
  .next (if s.phys.pwrGood then s.modPhys fun p => { p with i3cAddr := some addr } else s)
/-- ENEC (R477). -/
def execEnec (s : State) : Out := .next (if s.phys.pwrGood then s.modPhys fun p => { p with i3cIbi := true } else s)
/-- TAP_RESET (R476). -/
def execTapReset (s : State) : Out := .next (s.modPhys fun p => { p with tap := .bypass, hiz := false, tdo := [] })
/-- BYPASS (R476). -/
def execBypass (tdi : List Bool) (s : State) : Out := .next (s.bypass tdi)
/-- SAMPLE_PRELOAD (R476). -/
def execSamplePreload (capture scan : List Bool) (s : State) : Out := .next (s.scanWith .sample capture scan)
/-- EXTEST (R476). -/
def execExtest (capture scan : List Bool) (s : State) : Out := .next (s.scanWith .extest capture scan)
/-- CLAMP (R476). -/
def execClamp (s : State) : Out := .next (s.modPhys fun p => { p with tap := .clamp, hiz := false, tdo := [] })
/-- HIGHZ (R476). -/
def execHighz (s : State) : Out := .next (s.modPhys fun p => { p with tap := .highz, hiz := true, tdo := [] })
/-- EXTEST_PULSE (R476). -/
def execExtestPulse (scan : List Bool) (s : State) : Out := .next (s.scanWith .extestPulse s.phys.bsr scan)
/-- EXTEST_TRAIN (R476). -/
def execExtestTrain (scan : List Bool) (s : State) : Out := .next (s.scanWith .extestTrain s.phys.bsr scan)
/-- INTERNAL_DEBUG (R459). -/
def execInternalDebug (t : JtagTarget) (s : State) : Out := .next (s.internalDebug t)

end Sys2Proof.Machine
end

