-- ==== Sys2Proof/Machine/Dispatch.lean ====
section
/-! DEFINITION. One arm per command: each a direct call of its meaning. -/

namespace Sys2Proof.Machine

def exec (i : Instr) (s : State) : Host.Outcome State Fault Refusal :=
  match i with
  | .hello h => Sys2Proof.Machine.execHello h s
  | .sessionOpen h o => Sys2Proof.Machine.execSessionOpen h o s
  | .sessionClose h => Sys2Proof.Machine.execSessionClose h s
  | .queryInfo h => Sys2Proof.Machine.execQueryInfo h s
  | .queryHealth h => Sys2Proof.Machine.execQueryHealth h s
  | .memWrite h addr len data => Sys2Proof.Machine.execMemWrite h addr len data s
  | .memRead h addr len => Sys2Proof.Machine.execMemRead h addr len s
  | .memFill h addr len pattern => Sys2Proof.Machine.execMemFill h addr len pattern s
  | .scrub h addr pages => Sys2Proof.Machine.execScrub h addr pages s
  | .partCreate h part clusters interval => Sys2Proof.Machine.execPartCreate h part clusters interval s
  | .partDestroy h part => Sys2Proof.Machine.execPartDestroy h part s
  | .mapPages h o => Sys2Proof.Machine.execMapPages h o s
  | .unmapPages h part scrub va count => Sys2Proof.Machine.execUnmapPages h part scrub va count s
  | .loadProgram h prog priv entry code codeLen => Sys2Proof.Machine.execLoadProgram h prog priv entry code codeLen s
  | .loadRoutes h image entries => Sys2Proof.Machine.execLoadRoutes h image entries s
  | .loadMicrocode h clusters entry umode start nops ops => Sys2Proof.Machine.execLoadMicrocode h clusters entry umode start nops ops s
  | .launchStart h prog strands clusters args => Sys2Proof.Machine.execLaunchStart h prog strands clusters args s
  | .launchWake h nctr ctrs => Sys2Proof.Machine.execLaunchWake h nctr ctrs s
  | .signalAdd h n x => Sys2Proof.Machine.execSignalAdd h n x s
  | .signalSet h n x => Sys2Proof.Machine.execSignalSet h n x s
  | .waitCounterWatch h n x timeout => Sys2Proof.Machine.execWaitCounterWatch h n x timeout s
  | .waitCounterTake h n x timeout => Sys2Proof.Machine.execWaitCounterTake h n x timeout s
  | .waypointTake h part => Sys2Proof.Machine.execWaypointTake h part s
  | .waypointRestore h part waypoint => Sys2Proof.Machine.execWaypointRestore h part waypoint s
  | .clusterReset h cluster => Sys2Proof.Machine.execClusterReset h cluster s
  | .coreRetire h core => Sys2Proof.Machine.execCoreRetire h core s
  | .timeStatus h => Sys2Proof.Machine.execTimeStatus h s
  | .scheduleList h session => Sys2Proof.Machine.execScheduleList h session s
  | .scheduleCancel h tag session => Sys2Proof.Machine.execScheduleCancel h tag session s
  | .attest h r => Sys2Proof.Machine.execAttest h r s
  | .keyInstallDdr5 h slot k => Sys2Proof.Machine.execKeyInstallDdr5 h slot k s
  | .keyInstallMacsecTx h an k => Sys2Proof.Machine.execKeyInstallMacsecTx h an k s
  | .keyInstallMacsecRx h an k => Sys2Proof.Machine.execKeyInstallMacsecRx h an k s
  | .keyRetireDdr5 h slot => Sys2Proof.Machine.execKeyRetireDdr5 h slot s
  | .keyRetireMacsec h rx an => Sys2Proof.Machine.execKeyRetireMacsec h rx an s
  | .fwStage h len img => Sys2Proof.Machine.execFwStage h len img s
  | .fwActivate h deadline => Sys2Proof.Machine.execFwActivate h deadline s
  | .lifecycleProvisioned h confirm => Sys2Proof.Machine.execLifecycleProvisioned h confirm s
  | .lifecycleField h confirm => Sys2Proof.Machine.execLifecycleField h confirm s
  | .lifecycleReturn h confirm => Sys2Proof.Machine.execLifecycleReturn h confirm s
  | .debugHalt h core strands => Sys2Proof.Machine.execDebugHalt h core strands s
  | .debugRead h addr len => Sys2Proof.Machine.execDebugRead h addr len s
  | .debugWrite h addr len bytes => Sys2Proof.Machine.execDebugWrite h addr len bytes s
  | .traceConfig h o => Sys2Proof.Machine.execTraceConfig h o s
  | .perfRead h count addrs => Sys2Proof.Machine.execPerfRead h count addrs s
  | .linkConfig h devid valid hops en maxw => Sys2Proof.Machine.execLinkConfig h devid valid hops en maxw s
  | .windowOpen h o => Sys2Proof.Machine.execWindowOpen h o s
  | .windowClose h win => Sys2Proof.Machine.execWindowClose h win s
  | .add w o => Sys2Proof.Machine.execAdd w o s
  | .sub w o => Sys2Proof.Machine.execSub w o s
  | .and w o => Sys2Proof.Machine.execAnd w o s
  | .or w o => Sys2Proof.Machine.execOr w o s
  | .xor w o => Sys2Proof.Machine.execXor w o s
  | .shl w o => Sys2Proof.Machine.execShl w o s
  | .shr w o => Sys2Proof.Machine.execShr w o s
  | .sra w o => Sys2Proof.Machine.execSra w o s
  | .slt w o => Sys2Proof.Machine.execSlt w o s
  | .sltu w o => Sys2Proof.Machine.execSltu w o s
  | .min w o => Sys2Proof.Machine.execMin w o s
  | .max w o => Sys2Proof.Machine.execMax w o s
  | .minu w o => Sys2Proof.Machine.execMinu w o s
  | .maxu w o => Sys2Proof.Machine.execMaxu w o s
  | .mul w o => Sys2Proof.Machine.execMul w o s
  | .mulh w o => Sys2Proof.Machine.execMulh w o s
  | .mulhu w o => Sys2Proof.Machine.execMulhu w o s
  | .div w o => Sys2Proof.Machine.execDiv w o s
  | .divu w o => Sys2Proof.Machine.execDivu w o s
  | .rem w o => Sys2Proof.Machine.execRem w o s
  | .remu w o => Sys2Proof.Machine.execRemu w o s
  | .jr w o => Sys2Proof.Machine.execJr w o s
  | .jalr w o => Sys2Proof.Machine.execJalr w o s
  | .addi w o => Sys2Proof.Machine.execAddi w o s
  | .andi w o => Sys2Proof.Machine.execAndi w o s
  | .ori w o => Sys2Proof.Machine.execOri w o s
  | .xori w o => Sys2Proof.Machine.execXori w o s
  | .shi w o => Sys2Proof.Machine.execShi w o s
  | .lui w o => Sys2Proof.Machine.execLui w o s
  | .cmpi w o => Sys2Proof.Machine.execCmpi w o s
  | .bc w cond disp => Sys2Proof.Machine.execBc w cond disp s
  | .jal w rd disp => Sys2Proof.Machine.execJal w rd disp s
  | .loop w o => Sys2Proof.Machine.execLoop w o s
  | .waitl w n => Sys2Proof.Machine.execWaitl w n s
  | .waitm w n => Sys2Proof.Machine.execWaitm w n s
  | .csrr w r num => Sys2Proof.Machine.execCsrr w r num s
  | .csrw w r num => Sys2Proof.Machine.execCsrw w r num s
  | .csrra w r num => Sys2Proof.Machine.execCsrra w r num s
  | .csrwa w r num => Sys2Proof.Machine.execCsrwa w r num s
  | .xret w => Sys2Proof.Machine.execXret w s
  | .rstop w => Sys2Proof.Machine.execRstop w s
  | .rkst w o => Sys2Proof.Machine.execRkst w o s
  | .rkld w o => Sys2Proof.Machine.execRkld w o s
  | .sexit w => Sys2Proof.Machine.execSexit w s
  | .ldl w o => Sys2Proof.Machine.execLdl w o s
  | .stl w o => Sys2Proof.Machine.execStl w o s
  | .ld w o => Sys2Proof.Machine.execLd w o s
  | .st w o => Sys2Proof.Machine.execSt w o s
  | .pref w o => Sys2Proof.Machine.execPref w o s
  | .prefS w o => Sys2Proof.Machine.execPrefS w o s
  | .cinv w o => Sys2Proof.Machine.execCinv w o s
  | .cinvAll w o => Sys2Proof.Machine.execCinvAll w o s
  | .dpick w o => Sys2Proof.Machine.execDpick w o s
  | .aaddi w ad as imm => Sys2Proof.Machine.execAaddi w ad as imm s
  | .amod w ad as imm => Sys2Proof.Machine.execAmod w ad as imm s
  | .amov w ad gl gh => Sys2Proof.Machine.execAmov w ad gl gh s
  | .aadd w ad as g => Sys2Proof.Machine.execAadd w ad as g s
  | .sadd w o => Sys2Proof.Machine.execSadd w o s
  | .saddP w o => Sys2Proof.Machine.execSaddP w o s
  | .stake w o => Sys2Proof.Machine.execStake w o s
  | .swatch w o => Sys2Proof.Machine.execSwatch w o s
  | .sset w o => Sys2Proof.Machine.execSset w o s
  | .sread w o => Sys2Proof.Machine.execSread w o s
  | .roll w o => Sys2Proof.Machine.execRoll w o s
  | .sendv w o => Sys2Proof.Machine.execSendv w o s
  | .sendf w o => Sys2Proof.Machine.execSendf w o s
  | .sendfG w o => Sys2Proof.Machine.execSendfG w o s
  | .sendAccept w => Sys2Proof.Machine.execSendAccept w s
  | .sendStalled w => Sys2Proof.Machine.execSendStalled w s
  | .recvv w o => Sys2Proof.Machine.execRecvv w o s
  | .recvf w o => Sys2Proof.Machine.execRecvf w o s
  | .qrel w o => Sys2Proof.Machine.execQrel w o s
  | .qpoll w o => Sys2Proof.Machine.execQpoll w o s
  | .vadd w o => Sys2Proof.Machine.execVadd w o s
  | .vsub w o => Sys2Proof.Machine.execVsub w o s
  | .vmul w o => Sys2Proof.Machine.execVmul w o s
  | .vfma w o => Sys2Proof.Machine.execVfma w o s
  | .vfms w o => Sys2Proof.Machine.execVfms w o s
  | .vneg w o => Sys2Proof.Machine.execVneg w o s
  | .vabs w o => Sys2Proof.Machine.execVabs w o s
  | .vmin w o => Sys2Proof.Machine.execVmin w o s
  | .vmax w o => Sys2Proof.Machine.execVmax w o s
  | .vrcpe w o => Sys2Proof.Machine.execVrcpe w o s
  | .vrsqe w o => Sys2Proof.Machine.execVrsqe w o s
  | .vcmpEq w o => Sys2Proof.Machine.execVcmpEq w o s
  | .vcmpNe w o => Sys2Proof.Machine.execVcmpNe w o s
  | .vcmpLt w o => Sys2Proof.Machine.execVcmpLt w o s
  | .vcmpLe w o => Sys2Proof.Machine.execVcmpLe w o s
  | .vcmpUn w o => Sys2Proof.Machine.execVcmpUn w o s
  | .vsel w o => Sys2Proof.Machine.execVsel w o s
  | .viadd w o => Sys2Proof.Machine.execViadd w o s
  | .visub w o => Sys2Proof.Machine.execVisub w o s
  | .viadds w o => Sys2Proof.Machine.execViadds w o s
  | .visubs w o => Sys2Proof.Machine.execVisubs w o s
  | .vimul w o => Sys2Proof.Machine.execVimul w o s
  | .vimin w o => Sys2Proof.Machine.execVimin w o s
  | .vimax w o => Sys2Proof.Machine.execVimax w o s
  | .vand w o => Sys2Proof.Machine.execVand w o s
  | .vor w o => Sys2Proof.Machine.execVor w o s
  | .vxor w o => Sys2Proof.Machine.execVxor w o s
  | .vshl w o => Sys2Proof.Machine.execVshl w o s
  | .vshrl w o => Sys2Proof.Machine.execVshrl w o s
  | .vshra w o => Sys2Proof.Machine.execVshra w o s
  | .vmov w o => Sys2Proof.Machine.execVmov w o s
  | .vbcast w o => Sys2Proof.Machine.execVbcast w o s
  | .vdup w o => Sys2Proof.Machine.execVdup w o s
  | .vperm w o => Sys2Proof.Machine.execVperm w o s
  | .vslide w o => Sys2Proof.Machine.execVslide w o s
  | .vmovg w o => Sys2Proof.Machine.execVmovg w o s
  | .vrsum w o => Sys2Proof.Machine.execVrsum w o s
  | .vrmax w o => Sys2Proof.Machine.execVrmax w o s
  | .vrmin w o => Sys2Proof.Machine.execVrmin w o s
  | .vrssq w o => Sys2Proof.Machine.execVrssq w o s
  | .vrssqA w o => Sys2Proof.Machine.execVrssqA w o s
  | .vmom w o => Sys2Proof.Machine.execVmom w o s
  | .vmomA w o => Sys2Proof.Machine.execVmomA w o s
  | .vmmrg w o => Sys2Proof.Machine.execVmmrg w o s
  | .vmred w o => Sys2Proof.Machine.execVmred w o s
  | .vmvar w o => Sys2Proof.Machine.execVmvar w o s
  | .vact w o => Sys2Proof.Machine.execVact w o s
  | .vtload w o => Sys2Proof.Machine.execVtload w o s
  | .vepc w o => Sys2Proof.Machine.execVepc w o s
  | .vfctlR w o => Sys2Proof.Machine.execVfctlR w o s
  | .vfctlW w o => Sys2Proof.Machine.execVfctlW w o s
  | .vfflag w o => Sys2Proof.Machine.execVfflag w o s
  | .vfflagC w o => Sys2Proof.Machine.execVfflagC w o s
  | .vrseed w o => Sys2Proof.Machine.execVrseed w o s
  | .vrctr w o => Sys2Proof.Machine.execVrctr w o s
  | .vrgetS w o => Sys2Proof.Machine.execVrgetS w o s
  | .vrgetC w o => Sys2Proof.Machine.execVrgetC w o s
  | .vcvt w o => Sys2Proof.Machine.execVcvt w o s
  | .vepx w o => Sys2Proof.Machine.execVepx w o s
  | .mma w o => Sys2Proof.Machine.execMma w o s
  | .mmaG w o => Sys2Proof.Machine.execMmaG w o s
  | .mdrain w o => Sys2Proof.Machine.execMdrain w o s
  | .mdrainG w o => Sys2Proof.Machine.execMdrainG w o s
  | .tload w o => Sys2Proof.Machine.execTload w o s
  | .tstore w o => Sys2Proof.Machine.execTstore w o s
  | .tileRow w => Sys2Proof.Machine.execTileRow w s
  | .runTransfer core => Sys2Proof.Machine.execRunTransfer core s
  | .matrixComplete core => Sys2Proof.Machine.execMatrixComplete core s
  | .custom w o => Sys2Proof.Machine.execCustom w o s
  | .microOp w => Sys2Proof.Machine.execMicroOp w s
  | .loadComplete core strand k => Sys2Proof.Machine.execLoadComplete core strand k s
  | .lineFill core line => Sys2Proof.Machine.execLineFill core line s
  | .instructionFill w va => Sys2Proof.Machine.execInstructionFill w va s
  | .storeQueueSend core => Sys2Proof.Machine.execStoreQueueSend core s
  | .signalFenceRelease core strand => Sys2Proof.Machine.execSignalFenceRelease core strand s
  | .pageWalkEnd cluster k => Sys2Proof.Machine.execPageWalkEnd cluster k s
  | .exceptionEntry w => Sys2Proof.Machine.execExceptionEntry w s
  | .restStopEntry w => Sys2Proof.Machine.execRestStopEntry w s
  | .timerInterrupt core strand cycle => Sys2Proof.Machine.execTimerInterrupt core strand cycle s
  | .xirqSet core strand => Sys2Proof.Machine.execXirqSet core strand s
  | .resumeGo core strand usepc pc => Sys2Proof.Machine.execResumeGo core strand usepc pc s
  | .vfpCtlWrite core strand v => Sys2Proof.Machine.execVfpCtlWrite core strand v s
  | .bankEnable b => Sys2Proof.Machine.execBankEnable b s
  | .bankDisable b => Sys2Proof.Machine.execBankDisable b s
  | .bankStopping b => Sys2Proof.Machine.execBankStopping b s
  | .bankOff b => Sys2Proof.Machine.execBankOff b s
  | .bankOn b => Sys2Proof.Machine.execBankOn b s
  | .dinv core => Sys2Proof.Machine.execDinv core s
  | .iinv core => Sys2Proof.Machine.execIinv core s
  | .ucDecWrite cluster e v => Sys2Proof.Machine.execUcDecWrite cluster e v s
  | .queueTableWrite core q second v => Sys2Proof.Machine.execQueueTableWrite core q second v s
  | .mmuInvAll cluster => Sys2Proof.Machine.execMmuInvAll cluster s
  | .mmuInvVa cluster va => Sys2Proof.Machine.execMmuInvVa cluster va s
  | .invalidationDone cluster => Sys2Proof.Machine.execInvalidationDone cluster s
  | .fqRetry cluster => Sys2Proof.Machine.execFqRetry cluster s
  | .fqReject cluster => Sys2Proof.Machine.execFqReject cluster s
  | .synValWrite n v => Sys2Proof.Machine.execSynValWrite n v s
  | .shomeWrite g hub => Sys2Proof.Machine.execShomeWrite g hub s
  | .channelEnable cluster n => Sys2Proof.Machine.execChannelEnable cluster n s
  | .channelDisable cluster n => Sys2Proof.Machine.execChannelDisable cluster n s
  | .channelOn cluster n => Sys2Proof.Machine.execChannelOn cluster n s
  | .channelOff cluster n => Sys2Proof.Machine.execChannelOff cluster n s
  | .dmaGo cluster n head => Sys2Proof.Machine.execDmaGo cluster n head s
  | .descriptorRead cluster n => Sys2Proof.Machine.execDescriptorRead cluster n s
  | .burstStart cluster => Sys2Proof.Machine.execBurstStart cluster s
  | .burstComplete cluster b => Sys2Proof.Machine.execBurstComplete cluster b s
  | .descriptorBad cluster n => Sys2Proof.Machine.execDescriptorBad cluster n s
  | .chkInit cluster u => Sys2Proof.Machine.execChkInit cluster u s
  | .routerArrival node out => Sys2Proof.Machine.execRouterArrival node out s
  | .rd ep ecc => Sys2Proof.Machine.execRd ep ecc s
  | .wr ep ecc => Sys2Proof.Machine.execWr ep ecc s
  | .amoAdd ep => Sys2Proof.Machine.execAmoAdd ep s
  | .amoSet ep => Sys2Proof.Machine.execAmoSet ep s
  | .amoTake ep => Sys2Proof.Machine.execAmoTake ep s
  | .amoWatch ep => Sys2Proof.Machine.execAmoWatch ep s
  | .amoRead ep => Sys2Proof.Machine.execAmoRead ep s
  | .amoCancel ep => Sys2Proof.Machine.execAmoCancel ep s
  | .amoDpick ep => Sys2Proof.Machine.execAmoDpick ep s
  | .sigAdd ep => Sys2Proof.Machine.execSigAdd ep s
  | .sigSet ep => Sys2Proof.Machine.execSigSet ep s
  | .tok ep => Sys2Proof.Machine.execTok ep s
  | .msg ep => Sys2Proof.Machine.execMsg ep s
  | .htl ep => Sys2Proof.Machine.execHtl ep s
  | .hamperFetch core q => Sys2Proof.Machine.execHamperFetch core q s
  | .rdr ep => Sys2Proof.Machine.execRdr ep s
  | .wrr ep => Sys2Proof.Machine.execWrr ep s
  | .err ep => Sys2Proof.Machine.execErr ep s
  | .crd ep => Sys2Proof.Machine.execCrd ep s
  | .rls ep => Sys2Proof.Machine.execRls ep s
  | .red ep => Sys2Proof.Machine.execRed ep s
  | .patrolPass m ecc => Sys2Proof.Machine.execPatrolPass m ecc s
  | .hbmScrubGo n first count => Sys2Proof.Machine.execHbmScrubGo n first count s
  | .ddrScrubGo n first count => Sys2Proof.Machine.execDdrScrubGo n first count s
  | .scrubComplete m => Sys2Proof.Machine.execScrubComplete m s
  | .ddrMoveGo n hpage dpage toHbm => Sys2Proof.Machine.execDdrMoveGo n hpage dpage toHbm s
  | .moveComplete n => Sys2Proof.Machine.execMoveComplete n s
  | .tagAssign n first count slot => Sys2Proof.Machine.execTagAssign n first count slot s
  | .tagRelease n first count => Sys2Proof.Machine.execTagRelease n first count s
  | .tagCommandDone n => Sys2Proof.Machine.execTagCommandDone n s
  | .rekeyGo src dst rate => Sys2Proof.Machine.execRekeyGo src dst rate s
  | .rekeyPage n => Sys2Proof.Machine.execRekeyPage n s
  | .keySlotRetire slot => Sys2Proof.Machine.execKeySlotRetire slot s
  | .tieringMoveOut part va ddr dpage key => Sys2Proof.Machine.execTieringMoveOut part va ddr dpage key s
  | .pageBringBack cluster hpage => Sys2Proof.Machine.execPageBringBack cluster hpage s
  | .pageRetirement pa => Sys2Proof.Machine.execPageRetirement pa s
  | .trailPortEnable p => Sys2Proof.Machine.execTrailPortEnable p s
  | .trailPortDisable p => Sys2Proof.Machine.execTrailPortDisable p s
  | .trailPortStarted p => Sys2Proof.Machine.execTrailPortStarted p s
  | .trailPortStopped p => Sys2Proof.Machine.execTrailPortStopped p s
  | .trainingAttempt p => Sys2Proof.Machine.execTrainingAttempt p s
  | .trainingDone p lanes peer => Sys2Proof.Machine.execTrainingDone p lanes peer s
  | .linkDown p => Sys2Proof.Machine.execLinkDown p s
  | .linkSilence p => Sys2Proof.Machine.execLinkSilence p s
  | .laneFailure p lane => Sys2Proof.Machine.execLaneFailure p lane s
  | .retrainDone p peerLanes => Sys2Proof.Machine.execRetrainDone p peerLanes s
  | .flitSend p => Sys2Proof.Machine.execFlitSend p s
  | .dataFlit p f => Sys2Proof.Machine.execDataFlit p f s
  | .idleFlit p f => Sys2Proof.Machine.execIdleFlit p f s
  | .retryRequest p f => Sys2Proof.Machine.execRetryRequest p f s
  | .endOfLink p => Sys2Proof.Machine.execEndOfLink p s
  | .trailWr p => Sys2Proof.Machine.execTrailWr p s
  | .trailRd p => Sys2Proof.Machine.execTrailRd p s
  | .trailSig p => Sys2Proof.Machine.execTrailSig p s
  | .trailMsg p => Sys2Proof.Machine.execTrailMsg p s
  | .trailRdr p => Sys2Proof.Machine.execTrailRdr p s
  | .wack p => Sys2Proof.Machine.execWack p s
  | .nak p => Sys2Proof.Machine.execNak p s
  | .trailCrd p => Sys2Proof.Machine.execTrailCrd p s
  | .trailRls p => Sys2Proof.Machine.execTrailRls p s
  | .trailRed p => Sys2Proof.Machine.execTrailRed p s
  | .trailTok p => Sys2Proof.Machine.execTrailTok p s
  | .hostPortEnable => Sys2Proof.Machine.execHostPortEnable s
  | .hostPortDisable => Sys2Proof.Machine.execHostPortDisable s
  | .hostPortStarted => Sys2Proof.Machine.execHostPortStarted s
  | .hostPortStopped => Sys2Proof.Machine.execHostPortStopped s
  | .hostTrainingRetry => Sys2Proof.Machine.execHostTrainingRetry s
  | .hostLinkUp => Sys2Proof.Machine.execHostLinkUp s
  | .hostFrame f => Sys2Proof.Machine.execHostFrame f s
  | .acknowledgement session => Sys2Proof.Machine.execAcknowledgement session s
  | .kilperRetransmit session seq => Sys2Proof.Machine.execKilperRetransmit session seq s
  | .keepExpiry session => Sys2Proof.Machine.execKeepExpiry session s
  | .scheduledStart k => Sys2Proof.Machine.execScheduledStart k s
  | .waitCounterTimeout k => Sys2Proof.Machine.execWaitCounterTimeout k s
  | .clusterStopTimeout cluster => Sys2Proof.Machine.execClusterStopTimeout cluster s
  | .clusterOn cluster => Sys2Proof.Machine.execClusterOn cluster s
  | .spdmSessionTimeout sid => Sys2Proof.Machine.execSpdmSessionTimeout sid s
  | .handOver => Sys2Proof.Machine.execHandOver s
  | .imageCommit => Sys2Proof.Machine.execImageCommit s
  | .deadlineExpiry => Sys2Proof.Machine.execDeadlineExpiry s
  | .firmwareWatchdog => Sys2Proof.Machine.execFirmwareWatchdog s
  | .ppsInEdge => Sys2Proof.Machine.execPpsInEdge s
  | .sampleTimeout => Sys2Proof.Machine.execSampleTimeout s
  | .ppsOutRise => Sys2Proof.Machine.execPpsOutRise s
  | .ppsOutFall => Sys2Proof.Machine.execPpsOutFall s
  | .timeNowRead ep => Sys2Proof.Machine.execTimeNowRead ep s
  | .alarmFire n => Sys2Proof.Machine.execAlarmFire n s
  | .waypointCapture part => Sys2Proof.Machine.execWaypointCapture part s
  | .captureAbandon part => Sys2Proof.Machine.execCaptureAbandon part s
  | .captureDrained part pauseUs => Sys2Proof.Machine.execCaptureDrained part pauseUs s
  | .waypointLocal part => Sys2Proof.Machine.execWaypointLocal part s
  | .waypointMirrored part => Sys2Proof.Machine.execWaypointMirrored part s
  | .failureRecovery f => Sys2Proof.Machine.execFailureRecovery f s
  | .stackFailure n => Sys2Proof.Machine.execStackFailure n s
  | .pwrGoodRise => Sys2Proof.Machine.execPwrGoodRise s
  | .pwrGoodFall => Sys2Proof.Machine.execPwrGoodFall s
  | .resetNFall => Sys2Proof.Machine.execResetNFall s
  | .resetNRise => Sys2Proof.Machine.execResetNRise s
  | .resetEnd slotA slotB => Sys2Proof.Machine.execResetEnd slotA slotB s
  | .stageHostPort => Sys2Proof.Machine.execStageHostPort s
  | .reducedService => Sys2Proof.Machine.execReducedService s
  | .fullService => Sys2Proof.Machine.execFullService s
  | .trainingDeadline => Sys2Proof.Machine.execTrainingDeadline s
  | .stackTrained n => Sys2Proof.Machine.execStackTrained n s
  | .sensorSample temps => Sys2Proof.Machine.execSensorSample temps s
  | .hbmTempRead n temp => Sys2Proof.Machine.execHbmTempRead n temp s
  | .thermalEvaluation => Sys2Proof.Machine.execThermalEvaluation s
  | .powerEvaluation watts => Sys2Proof.Machine.execPowerEvaluation watts s
  | .railFault => Sys2Proof.Machine.execRailFault s
  | .refclkLoss => Sys2Proof.Machine.execRefclkLoss s
  | .hstrefLoss => Sys2Proof.Machine.execHstrefLoss s
  | .trlrefLoss south => Sys2Proof.Machine.execTrlrefLoss south s
  | .i3cPrivateWrite bytes => Sys2Proof.Machine.execI3cPrivateWrite bytes s
  | .i3cPrivateRead len => Sys2Proof.Machine.execI3cPrivateRead len s
  | .setdasa addr => Sys2Proof.Machine.execSetdasa addr s
  | .enec => Sys2Proof.Machine.execEnec s
  | .tapReset => Sys2Proof.Machine.execTapReset s
  | .bypass tdi => Sys2Proof.Machine.execBypass tdi s
  | .samplePreload capture scan => Sys2Proof.Machine.execSamplePreload capture scan s
  | .extest capture scan => Sys2Proof.Machine.execExtest capture scan s
  | .clamp => Sys2Proof.Machine.execClamp s
  | .highz => Sys2Proof.Machine.execHighz s
  | .extestPulse scan => Sys2Proof.Machine.execExtestPulse scan s
  | .extestTrain scan => Sys2Proof.Machine.execExtestTrain scan s
  | .internalDebug t => Sys2Proof.Machine.execInternalDebug t s
  | .registerWrite agent addr v => Sys2Proof.Machine.execRegisterWrite agent addr v s
  | .hostLinkDown => Sys2Proof.Machine.execHostLinkDown s

end Sys2Proof.Machine
end

