-- ==== Sys2Proof/Safety.lean ====
section
/-! DEFINITION. What counts as a safe step and a safe run: no fault and no refusal. -/

namespace Sys2Proof

/-- The canonical form of the state's maps: keys strictly rising, no entry equal to what an unlisted key reads as. -/
def Machine.State.wf (s : Machine.State) : Bool :=
  Machine.Memory.wf s.mem && Machine.Sparse.wf Machine.regReset s.regs && Machine.Sparse.wf (fun _ => {}) s.cores
    && Machine.Sparse.wf (fun _ => {}) s.clusters && Machine.Sparse.wf (fun _ => {}) s.msgs && Machine.Sparse.wf (fun _ => {}) s.trail

/-- A step is safe when it answers a next state. -/
def safeStep (s : Machine.State) : Prop := ∃ t, Machine.step s = Host.Outcome.next t

/-- The states of a run of n steps from a state, while every step is safe. -/
inductive Runs : Nat → Machine.State → Machine.State → Prop where
  | refl (s : Machine.State) : Runs 0 s s
  | step {n : Nat} {s t u : Machine.State} : Runs n s t → Machine.step t = Host.Outcome.next u → Runs (n + 1) s u

end Sys2Proof
end

