-- ==== Sys2Proof/Certificates/Slice0/Terms.lean ====
section
/-! DEFINITION. The terms that the statements are written in: when an instruction issues and what is left behind it, and when a command
of the host is taken up. -/

namespace Sys2Proof.Machine

/-! ### Instructions -/

/-- The slot in which the instruction of a command issues (R131, R177). -/
def slotOf (w : Who) (s : State) : Nat := s.slotFor w.core w.strand w.cycle

/-- The state in that slot: results due before it are written (R143, R145). -/
def atIssue (w : Who) (s : State) : State := s.atSlot w.core w.strand (slotOf w s)

/-- The strand in that slot, as its instruction reads it. -/
def strandAt (w : Who) (s : State) : Strand := (atIssue w s).strand w.core w.strand

/-- What the instruction's meaning is given beside the state. -/
def envOf (w : Who) (s : State) : Env := ⟨w.core, w.strand, slotOf w s, w.word.toNat, w.ecc⟩

/-- The strand is Running (R132), nothing is in progress in it, no pause (R417), operator halt (R185) or deferrable cause (R170) comes
first, and no check that is common to all instructions (R137, R152, R155) refuses the instruction. -/
structure Issues (w : Who) (info : Info) (s : State) : Prop where
  known : whoOk w = true
  ready : (s.strand w.core w.strand).ready = true
  free : s.heldByPause w.core w.strand = false
  noHalt : ((strandAt w s).haltReq && (strandAt w s).boundary) = false
  noCause : (atIssue w s).tryDeferrable w.core w.strand (slotOf w s) = none
  allowed : (strandAt w s).forbids info w = false

/-- As `Issues`, but a check that is common to all instructions refuses it: a field that is reserved or that it does not use is not zero
(R137, R142), or it must not stand in a delay slot (R152) or at the end of an active loop (R155). -/
structure Barred (w : Who) (info : Info) (s : State) : Prop where
  known : whoOk w = true
  ready : (s.strand w.core w.strand).ready = true
  free : s.heldByPause w.core w.strand = false
  noHalt : ((strandAt w s).haltReq && (strandAt w s).boundary) = false
  noCause : (atIssue w s).tryDeferrable w.core w.strand (slotOf w s) = none
  barred : (strandAt w s).forbids info w = true

/-- The state after a completed instruction that has brought about t: PC moves on, the slot is used, CORE_ISSUE counts. -/
def passed (w : Who) (len : Nat) (s t : State) : State :=
  (t.modStrand w.core w.strand fun x => x.stepPast len).issued w.core w.strand (slotOf w s)

/-- A one-word instruction that changes its strand alone. -/
def changed (w : Who) (s : State) (f : Strand → Strand) : State := passed w 4 s ((atIssue w s).modStrand w.core w.strand f)

/-- A result of distance 0, 1 or 7 for a g register (Table 5-10, R143). -/
def resultG (w : Who) (s : State) (d : Nat) (r : BitVec 5) (v : W32) (x : Strand) : Strand :=
  if d = 0 then x.putG (slotOf w s) r v else x.later (slotOf w s + 4 * d + 3) (.g r v)

/-- An OP instruction: the result, and the flags when F is 1. -/
def aluDone (w : Who) (o : OpR) (s : State) (d : Nat) (v : W32) (fl : Flags) : State :=
  changed w s fun x => resultG w s d o.rd v (if o.f then { x with flags := fl } else x)

/-- A branch has issued (R151): its delay slot comes next. `link` names the link register and `guards` what the delay slot must not
write (R152). A taken branch leaves a trace record (R461). -/
def branched (w : Who) (s t : State) (target : Option W48) (link : Option (BitVec 5)) (guards : List (BitVec 5)) : State :=
  let pc := (strandAt w s).pc
  let t1 := if target.isSome then t.trace w.core w.strand 1 pc 0 else t
  (t1.modStrand w.core w.strand fun x => { x with pc := pc + 4, delay := some ⟨pc, target, link, guards⟩ }).issued w.core w.strand (slotOf w s)

/-- The instruction has issued and its strand waits or sleeps. -/
def waits (w : Who) (s t : State) (r : Run) (lost : Option Lost) : State :=
  (t.issued w.core w.strand (slotOf w s)).setRun w.core w.strand r (lost.map (slotOf w s + 4, ·))

/-- A floating-point vector instruction of distance d has completed: in a precise strand the next instruction issues only when its result
is written, and an enabled trap is named (R174). -/
def passedFp (w : Who) (s t : State) (d : Nat) (trap : Bool) : State :=
  let x0 := strandAt w s
  if x0.precise then
    (passed w 4 s t).modStrand w.core w.strand fun x =>
      { x with
        nextSlot := firstSlot (slotOf w s + 4 * d + 4) w.strand
        ptrap := if trap && !x0.mask && x0.micro.isNone then some x0.pc else x.ptrap }
  else passed w 4 s t

/-- A synchronous cause (R167, R170): taken at the handler, or rest stop by double fault. -/
def raises (w : Who) (s : State) (c : Cause) : State := (atIssue w s).syncCause w.core w.strand (slotOf w s) c

/-- Whether a strand may touch a control register that is marked S (R166). -/
def mayTouch (w : Who) (s : State) (c : Csr) : Prop := c.sLevel = true → (strandAt w s).handler w.core = true

/-- Bytes of the AS that a rucksack access names (R182). -/
def rkOff (w : Who) (s : State) (o : OpK) : Nat := (strandAt w s).rucksack.toNat + o.off.toNat * rkSize o.cls

/-- The effective address of a memory instruction and its address register's update (Table 5-13), for an access of n bytes. -/
def eaOf (w : Who) (s : State) (o : OpM) (n : Nat) : W48 × Option W48 := effAddr (strandAt w s) o.an o.am o.d n

/-- A counted instruction with one part has been issued (R147): the address register is updated, and the data path goes on. -/
def counted (w : Who) (s t : State) (o : OpM) (p : Part) : State :=
  let ea := eaOf w s o (accessSize o.sz)
  passed w 4 s (((t.modStrand w.core w.strand fun x => (x.postModify o.an ea.2).addLoad { parts := [p] }).hintAccess w.core w.strand
    o.an ea.1).pump w.core)

/-- The instruction has issued and its strand sleeps on a counter (R276), with its trace record (R461). -/
def sleepsOn (w : Who) (s t : State) (c : CounterId) : State :=
  ((t.trace w.core w.strand 2 (strandAt w s).pc c.num).issued w.core w.strand (slotOf w s)).setRun w.core w.strand (.sleeping (.counter c)) none

/-- The counter operation that a SYNC instruction asks for: its counter, operand and register. -/
def syncAsk (w : Who) (s : State) (o : OpS) (c : CounterId) (p : CtrOp) (fence : List Nat) : SyncOp :=
  ⟨p, c, (strandAt w s).rg o.ra + o.imm.setWidth 32, o.ra, o.inv, none, fence, none⟩

/-- A packet of a kind at the head of its virtual channel at an endpoint, and the state without it. -/
def arrives (s : State) (ep : Nat) (p : Packet) (t : State) : Prop :=
  ∃ j, s.net.sinks.findIdx? (fun x => x.1 == ep && x.2.kind.vc == p.kind.vc) = some j ∧ s.net.sinks[j]? = some (ep, p)
    ∧ t = { s with net := { s.net with sinks := s.net.sinks.eraseIdx j } }

/-- A counter packet at the counter block of a hub that serves it and does not refuse it (R270, R285). -/
def counterPacket (s : State) (ep : Nat) (k : PKind) (op : Nat) (p : Packet) (c : CounterId) (t : State) : Prop :=
  arrives s ep p t ∧ p.kind = k ∧ p.ctrOp = op ∧ isTrailEp ep = false ∧ unitOfEp ep ≠ 0x31 ∧ counterOfAddr p.addr = some c
    ∧ t.ctrRefusal (hubOfEp ep) p = none

/-- A queue whose messages a strand may take: it exists and is enabled (R252). -/
def queueUsable (w : Who) (s : State) (q : Nat) : Prop := q < 32 ∧ (atIssue w s).qEnabled w.core q = true

/-- A message is taken from a queue: counted, and traced with its CHID (R255, R461). -/
def received (w : Who) (s t : State) (q : Nat) : State :=
  (t.bump (Reg.CORE_MSG_RECV w.core) Reg.CORE_MSG_RECV.RECV 1).trace w.core w.strand 11 (strandAt w s).pc
    ((atIssue w s).rf (qaReg w.core q) Reg.CLU_RT_QA.CHID)

/-- The state in which a waiting send is tried: time is at its strand's slot. -/
def sendState (w : Who) (s : State) : State := s.modCore w.core (Core.advance (slotOf w s))

/-! ### Vector instructions -/

/-- Element i of a register for an instruction of a type and half (Table 4-1, R98). -/
def laneOf (t : Fmt) (h : Bool) (v : VReg) (i : Nat) : Nat := elt t.width v.toNat (vfirst t h + i)

/-- A vector instruction that PRECISE does not serialise has completed with results of distance d. -/
def vecDone (w : Who) (s t : State) (d : Nat) (vd : BitVec 5) (p : VPut) (fl : FpFlags) : State :=
  passed w 4 s (t.vresult (envOf w s) d vd p fl)

/-- A floating-point vector instruction has completed with results of distance d (R143, R174). -/
def vecFp (w : Who) (s t : State) (d : Nat) (vd : BitVec 5) (p : VPut) (fl : FpFlags) : State :=
  passedFp w s (t.vresult (envOf w s) d vd p fl) d ((strandAt w s).traps fl)

/-- Elements 0 to n - 1 of an instruction's type, with the flags that each raises. -/
def vecFpLanes (w : Who) (s t : State) (d : Nat) (o : OpV) (ty : Fmt) (g : Nat → Nat × FpFlags) : State :=
  let l := (List.range (vcount ty)).map g
  vecFp w s t d o.vd (vput ty.width (vfirst ty o.h) (l.map (·.1))) (orFlags l)

/-! ### Matrix instructions -/

/-- What an MMA takes at issue (R78, R89): its operands, and for each bank the PS slot, the AS offset and the scales of its strand. -/
def mmaTaken (w : Who) (s : State) (g : Bool) (o : OpMma) : MmaRun :=
  let r := atIssue w s
  let x := strandAt w s
  { base := ⟨w.strand, x.pc, x.precise && x.micro.isNone, x.fpctl, w.ecc, []⟩
    o := o, b := (x.rg o.gb).toNat, sb := (x.rg (o.gb + 1)).toNat, step := 0
    banks := (if g then [0, 1, 2, 3] else [w.strand]).map fun j => let y := r.strand w.core j
      ⟨j, (x.rg o.gp).toNat + (if g then 0x2000 * j else 0), (y.ra o.aidx).toNat, y.rv o.vsa⟩ }

/-- What an MDRAIN takes at issue (R78, R119, R129). -/
def drainTaken (w : Who) (s : State) (g : Bool) (o : OpDrain) (rm : Rm) : DrainRun :=
  let r := atIssue w s
  let x := strandAt w s
  { base := ⟨w.strand, x.pc, x.precise && x.micro.isNone, x.fpctl, w.ecc, []⟩
    o := o, rm := rm, act := (r.core w.core).act, worked := false
    banks := (if g then [0, 1, 2, 3] else [w.strand]).map fun j => let y := r.strand w.core j
      ⟨j, (x.rg o.gp).toNat + (if g then 0x2000 * j else 0), (y.ra o.didx).toNat, (y.ra o.fidx).toNat, y.epictl⟩ }

/-- A matrix instruction has joined the unit's queue; in a precise strand the next instruction waits for it (R88, R90, R174). -/
def joined (w : Who) (s : State) (r : MxRun) : State :=
  let t := passed w 8 s ((atIssue w s).pushMx (envOf w s) r)
  if (strandAt w s).precise then t.setRun w.core w.strand (.waiting .serial) none else t

/-- A tile instruction in its first slot (R84): its operands as read, and the state in which its first row issues. -/
def tileRunOf (w : Who) (s : State) (store : Bool) (o : OpTile) : TileRun :=
  let x := strandAt w s
  ⟨store, o, x.ra o.ab, x.rg o.gs, x.delay.isSome⟩
def tileStarted (w : Who) (s : State) (store : Bool) (o : OpTile) : State :=
  (atIssue w s).modStrand w.core w.strand fun y => { (y.addLoad { issuing := true }) with tile := some (tileRunOf w s store o) }

/-! ### Memory banks -/

/-- The banks that have an enable bit (Tables 1-4, 7-1, 7-3, 7-4). -/
def bankThere : BankId → Bool
  | .ls k .ws n => decide (k < 484) && decide (n < 16)
  | .ls k .as n => decide (k < 484) && decide (n < 16)
  | .ls k .ps n => decide (k < 484) && decide (n < 8)
  | .ls _ .qram _ => false
  | .clm u n => decide (u < 12) && decide (n < 48)

/-! ### Trail ports -/

/-- The first packet of a class in a port's receive buffer is t; u is the state without it, its slots to be returned (R343). -/
def trailHead (s : State) (p : Nat) (t : TPkt) (u : State) : Prop :=
  ∃ j, (s.port p).rx.findIdx? (fun x => x.kind.cls == t.kind.cls) = some j ∧ (s.port p).rx[j]? = some t
    ∧ u = s.modPort p fun x => { x with
        rx := x.rx.eraseIdx j, freed := vset x.freed t.kind.cls (vget x.freed t.kind.cls + t.slots) }

/-- The header of a flit as a number (Table 11-2), and whether the flit arrived whole: 256 bytes, its CRC right, its type h. -/
def flitHeader (f : Flit) : Nat := ofBytes (f.bytes.take 16)
def flitGood (f : Flit) (h : Nat) : Prop := f.bytes.length = 256 ∧ flitHeader f / 2 ^ 96 = flitCrc f.bytes ∧ flitHeader f % 16 = h

/-! ### Commands of the host -/

/-- The meaning c of a Kilper command in its turn (R386, R390, R393, R418, R431, R435): u is the state in which it is taken up. -/
structure TakenUp (i : Instr) (c : Cmd) (t : Turn) (s u : State) : Prop where
  means : kilperCmd i = some (t.h, c)
  serving : s.serving = true
  notHanding : s.handing = false ∨ c.always = true
  turn : s.itsTurn t.h c.row.op = true
  asker : s.asker? t.h = some t.who
  going : s.stopped t.who.part? = false ∧ s.stopped (c.acts s) = false
  op : t.op = c.row.op
  flags : t.flags = u.lockFlag
  state : u = s.takeUp t.h c.row.op

/-- What the checks of R392 find for it. -/
def checksOf (c : Cmd) (t : Turn) (u : State) : Checks :=
  { c.chk t u with denied := (c.chk t u).denied || !c.row.allows t.who, busy := (c.chk t u).busy || u.full t }

/-- A command in its turn starts: it carries no execute-at time, no check refuses it, and all of its data has come. -/
def Starts (i : Instr) (t : Turn) (s u : State) : Prop :=
  ∃ c, TakenUp i c t s u ∧ t.h.exec = none ∧ (checksOf c t u).first = none ∧ c.ready = true

/-- The outcome of a command that has brought about v: packets that spell no command and stand first now are answered (R392). -/
def ended (t : Turn) (v : State) : Out := .next (v.settleHeads t.num)

/-- A last reply with status OK, or REDUCED_SERVICE for work in a cluster in reduced service (R395). -/
def okFor (t : Turn) (us : List Nat) (data : List Byte) (v : State) : State :=
  v.answer t (if us.any v.cluReduced then 0x202 else 0) 0 data

/-- ACCEPTED, and one more reply with FINAL = 1 when what is named has come about (R394). -/
def accepted (t : Turn) (what : KAwait) (v : State) : State :=
  (if t.flags.testBit 3 then v else v.answer t 1 0 []).hold t.h t.op (t.flags ||| 8) what

/-- A command is measured into MS3 (R446, R447). -/
def measured (t : Turn) (params : List Byte) (digest : Option (BitVec 256)) (v : State) : State := v.measure t.op 3 t.num params digest

/-! ### The host port -/

/-- The bytes of a Kilper packet (Table 12-2). -/
def kilperBytes (p : KPkt) : List Byte :=
  toBytesBE 1 1 ++ toBytesBE 1 p.type ++ toBytesBE 2 p.flags ++ toBytesBE 4 p.session ++ toBytesBE 4 p.seq ++ toBytesBE 4 p.ack
    ++ toBytesBE 2 p.opcode ++ toBytesBE 2 p.tag ++ toBytesBE 4 p.payload.length ++ toBytesBE 8 p.exec ++ p.payload

/-- A frame reaches a link that is UP, whole, protected as the port asks, and with the tags that it accepts (R378, R380); v is the state
after these checks. -/
def frameGood (s : State) (f : Frame) (v : State) : Prop :=
  s.hostLink = 2 ∧ f.fcsOk = true ∧ 64 ≤ f.length ∧ f.length ≤ 9216 ∧ f.body ≠ .macControl
    ∧ (s.bump Reg.HST_RXF Reg.HST_RXF.FRAMES 1).macsecIn f = some v ∧ v.tagsOk f.tags = true

/-- Such a frame carries a datagram for the Kilper port (R379, R383): the sender and the datagram's bytes. -/
def datagram (f : Frame) (v : State) (src : Peer) (b : List Byte) : Prop :=
  ∃ dp, f.body = .udp src.v6 src.ip src.port dp b ∧ src.mac = f.src ∧ f.dst = .own ∧ f.toOurIp = true ∧ f.fragmentOrOptions = false
    ∧ v.ipUsed src.v6 = true ∧ dp.toNat = v.rf Reg.HST_CFG Reg.HST_CFG.UDPPORT

end Sys2Proof.Machine
end

