-- ==== Sys2Proof/Certificates/Slice0/Obligations.lean ====
section
/-! DEFINITION. The statements about the model. -/

open Sys2Proof Sys2Proof.Machine Host

/-! ### Steps and the queue of commands -/

/-- For every command and state: a step with the command at the front of the queue is exec of it on the state with the queue's rest. -/
def Obligations.StepRunsTheFrontCommand : Prop :=
  ∀ (c : Instr) (s : State) (rest : List Instr), step { s with pending := c :: rest } = exec c { s with pending := rest }

/-- An empty queue: one cycle of the time clock passes (R408; the model's choice, log entry 2). -/
def Obligations.EmptyQueueTicksTheTimeClock : Prop :=
  ∀ s : State, s.pending = [] → step s = .next s.tick ∧ (s.tick).pending = []

/-! ### Scalar instructions (spec/05) -/

/-- The results of the OP instructions (R139, R140, R141, Tables 5-8 and 5-10), with every flag. Each equation gives the whole next state:
nothing else changes. -/
def Obligations.ScalarResults : Prop :=
  ∀ (w : Who) (o : OpR) (s : State), Issues w (aluInfo o) s →
    let a := (strandAt w s).rg o.ra
    let b := (strandAt w s).rg o.rb
    let n := b.toNat % 32
    let fl (r : W32) (c v : Bool) : Flags := ⟨r == 0, r.msb, c, v⟩
    let sum := a.toInt + b.toInt
    let diff := a.toInt - b.toInt
    let out (i : Int) : Bool := decide (i < -2147483648) || decide (2147483648 ≤ i)
    let ov : Bool := isSteward w.core && tb (strandAt w s).sxen 1
    let dz : Bool := isSteward w.core && tb (strandAt w s).sxen 0
    ((ov && out sum) = false →
      exec (.add w o) s = .next (aluDone w o s 0 (a + b) (fl (a + b) (decide (4294967296 ≤ a.toNat + b.toNat)) (out sum))))
    ∧ ((ov && out diff) = false →
      exec (.sub w o) s = .next (aluDone w o s 0 (a - b) (fl (a - b) (decide (b.toNat ≤ a.toNat)) (out diff))))
    ∧ exec (.and w o) s = .next (aluDone w o s 0 (a &&& b) (fl (a &&& b) false false))
    ∧ exec (.or w o) s = .next (aluDone w o s 0 (a ||| b) (fl (a ||| b) false false))
    ∧ exec (.xor w o) s = .next (aluDone w o s 0 (a ^^^ b) (fl (a ^^^ b) false false))
    ∧ exec (.shl w o) s = .next (aluDone w o s 0 (a <<< n) (fl (a <<< n) (decide (n ≠ 0) && a.getLsbD (32 - n)) false))
    ∧ exec (.shr w o) s = .next (aluDone w o s 0 (a >>> n) (fl (a >>> n) (decide (n ≠ 0) && a.getLsbD (n - 1)) false))
    ∧ exec (.sra w o) s =
        .next (aluDone w o s 0 (a.sshiftRight n) (fl (a.sshiftRight n) (decide (n ≠ 0) && a.getLsbD (n - 1)) false))
    ∧ (o.f = false →
      exec (.slt w o) s = .next (aluDone w o s 0 (if a.toInt < b.toInt then 1 else 0) {})
      ∧ exec (.sltu w o) s = .next (aluDone w o s 0 (if a.toNat < b.toNat then 1 else 0) {})
      ∧ exec (.min w o) s = .next (aluDone w o s 0 (if a.toInt ≤ b.toInt then a else b) {})
      ∧ exec (.max w o) s = .next (aluDone w o s 0 (if a.toInt ≤ b.toInt then b else a) {})
      ∧ exec (.minu w o) s = .next (aluDone w o s 0 (if a.toNat ≤ b.toNat then a else b) {})
      ∧ exec (.maxu w o) s = .next (aluDone w o s 0 (if a.toNat ≤ b.toNat then b else a) {})
      ∧ ((ov && out (a.toInt * b.toInt)) = false → exec (.mul w o) s = .next (aluDone w o s 1 (a * b) {}))
      ∧ exec (.mulh w o) s = .next (aluDone w o s 1 (BitVec.ofInt 32 (a.toInt * b.toInt / 4294967296)) {})
      ∧ exec (.mulhu w o) s = .next (aluDone w o s 1 (BitVec.ofNat 32 (a.toNat * b.toNat / 4294967296)) {})
      ∧ ((dz && b == 0) = false → (ov && a == 0x80000000#32 && b == 0xFFFFFFFF#32) = false →
          exec (.div w o) s =
            .next (aluDone w o s 7 (if b = 0 then 0xFFFFFFFF#32 else BitVec.ofInt 32 (a.toInt.tdiv b.toInt)) {})
          ∧ exec (.rem w o) s = .next (aluDone w o s 7 (if b = 0 then a else BitVec.ofInt 32 (a.toInt.tmod b.toInt)) {}))
      ∧ ((dz && b == 0) = false →
          exec (.divu w o) s =
            .next (aluDone w o s 7 (if b = 0 then 0xFFFFFFFF#32 else BitVec.ofNat 32 (a.toNat / b.toNat)) {})
          ∧ exec (.remu w o) s = .next (aluDone w o s 7 (if b = 0 then a else BitVec.ofNat 32 (a.toNat % b.toNat)) {})))

/-- The immediate forms (Table 5-6) and CMPI (R140), each the whole next state. -/
def Obligations.ImmediateResults : Prop :=
  ∀ (w : Who) (o : OpI) (s : State),
    let a := (strandAt w s).rg o.ra
    let sx : W32 := o.imm.signExtend 32
    let zx : W32 := o.imm.setWidth 32
    let n := o.imm.toNat % 32
    let put (v : W32) : State := changed w s fun x => x.putG (slotOf w s) o.rd v
    (Issues w { writes := [o.rd] } s →
      ((isSteward w.core && tb (strandAt w s).sxen 1
          && (decide (a.toInt + sx.toInt < -2147483648) || decide (2147483648 ≤ a.toInt + sx.toInt))) = false →
        exec (.addi w o) s = .next (put (a + sx)))
      ∧ exec (.andi w o) s = .next (put (a &&& zx))
      ∧ exec (.ori w o) s = .next (put (a ||| zx))
      ∧ exec (.xori w o) s = .next (put (a ^^^ zx))
      ∧ (fld o.imm 15 14 = 0 → fld o.imm 13 5 = 0 → exec (.shi w o) s = .next (put (a <<< n)))
      ∧ (fld o.imm 15 14 = 1 → fld o.imm 13 5 = 0 → exec (.shi w o) s = .next (put (a >>> n)))
      ∧ (fld o.imm 15 14 = 2 → fld o.imm 13 5 = 0 → exec (.shi w o) s = .next (put (a.sshiftRight n)))
      ∧ (o.ra = 0 → exec (.lui w o) s = .next (put (BitVec.ofNat 32 (o.imm.toNat * 65536)))))
    ∧ (Issues w { setsFlags := true } s → o.rd = 0 →
      exec (.cmpi w o) s = .next (changed w s fun x => { x with flags :=
        ⟨a - sx == 0, (a - sx).msb, decide (sx.toNat ≤ a.toNat),
          decide (a.toInt - sx.toInt < -2147483648) || decide (2147483648 ≤ a.toInt - sx.toInt)⟩ }))

/-- Branches (R138, R151, Table 5-11): the delay slot comes next, then the target when the branch is taken; JAL and JALR write the link at
once; the delay slot must not write the link register nor the target register (R152). A branch in a delay slot or at the end of an active loop is an illegal instruction
(R152, R155). -/
def Obligations.BranchesGoOnInTheDelaySlot : Prop :=
  (∀ (w : Who) (o : OpR) (s : State),
    let a := (strandAt w s).rg o.ra
    o.f = false → a.toNat % 4 = 0 →
      (Issues w { branch := true } s →
        exec (.jr w o) s = .next (branched w s (atIssue w s) (some (a.setWidth 48)) none ([o.ra].filter (· ≠ 0))))
      ∧ (Issues w { branch := true, writes := [o.rd] } s →
        exec (.jalr w o) s = .next (branched w s
          ((atIssue w s).modStrand w.core w.strand fun x => x.putG (slotOf w s) o.rd ((x.pc + 8).setWidth 32))
          (some (a.setWidth 48)) (some o.rd) ([o.ra, o.rd].filter (· ≠ 0)))))
  ∧ (∀ (w : Who) (rd : BitVec 5) (disp : BitVec 21) (s : State), Issues w { branch := true, writes := [rd] } s →
      exec (.jal w rd disp) s = .next (branched w s
        ((atIssue w s).modStrand w.core w.strand fun x => x.putG (slotOf w s) rd ((x.pc + 8).setWidth 32))
        (some ((strandAt w s).pc + BitVec.ofInt 48 (4 * disp.toInt))) (some rd) ([rd].filter (· ≠ 0))))
  ∧ (∀ (w : Who) (cond : BitVec 4) (disp : BitVec 22) (s : State), Issues w { branch := true } s → cond ≠ 15#4 →
      let f := (strandAt w s).flags
      let holds : Bool := match cond.toNat with
        | 0 => f.z | 1 => !f.z | 2 => f.n != f.v | 3 => f.n == f.v | 4 => f.z || f.n != f.v | 5 => !f.z && f.n == f.v
        | 6 => !f.c | 7 => f.c | 8 => !f.c || f.z | 9 => f.c && !f.z | 10 => f.n | 11 => !f.n | 12 => f.v | 13 => !f.v | _ => true
      exec (.bc w cond disp) s = .next (branched w s (atIssue w s)
        (if holds then some ((strandAt w s).pc + BitVec.ofInt 48 (4 * disp.toInt)) else none) none []))
  ∧ (∀ (w : Who) (o : OpR) (rd : BitVec 5) (link : BitVec 21) (cond : BitVec 4) (disp : BitVec 22) (s : State),
      ∀ p ∈ [(Instr.jr w o, ({ branch := true } : Info)), (.jalr w o, { branch := true, writes := [o.rd] }),
        (.jal w rd link, { branch := true, writes := [rd] }), (.bc w cond disp, { branch := true })],
        Barred w p.2 s → exec p.1 s = .next (raises w s { code := 0x01, xtval := w.word.toNat }))

/-- LOOP (R153) sets up loop n, or skips its body for a count of zero; WAITL and WAITM (R150) go on at once when their counter is low enough
and hold the strand Waiting otherwise. -/
def Obligations.LoopsAndCountedWaits : Prop :=
  (∀ (w : Who) (o : OpL) (s : State), Issues w { noDelay := true } s → o.last ≠ 0 → (o.i = false → o.count.toNat < 32) →
    let pc := (strandAt w s).pc
    let count : W32 := if o.i then o.count.setWidth 32 else (strandAt w s).rg (o.count.setWidth 5)
    let last := pc + BitVec.ofNat 48 (4 * o.last.toNat)
    let t := (atIssue w s).modStrand w.core w.strand fun x =>
      if o.n then { x with l1 := ⟨pc + 4, last, count⟩ } else { x with l0 := ⟨pc + 4, last, count⟩ }
    exec (.loop w o) s = .next (if count = 0
      then (t.modStrand w.core w.strand fun x => x.goOn (last + (if o.wide then 8 else 4))).issued w.core w.strand (slotOf w s)
      else passed w 4 s t))
  ∧ (∀ (w : Who) (n : BitVec 4) (s : State), Issues w {} s →
      (n.toNat ≤ 8 → exec (.waitl w n) s = .next (if (strandAt w s).loads.length ≤ n.toNat then passed w 4 s (atIssue w s)
        else waits w s (atIssue w s) (.waiting (.loads n.toNat)) (some .loads)))
      ∧ (n.toNat ≤ 2 → exec (.waitm w n) s = .next (if (strandAt w s).matrix ≤ n.toNat then passed w 4 s (atIssue w s)
        else waits w s (atIssue w s) (.waiting (.matrix n.toNat)) (some .matrix))))

/-- The strand control registers by number (Tables 5-5 and 6-4): what a read gives. CSRR, CSRRA, CSRW and CSRWA (R134, R135, R166): a register that the strand may touch is read or written; CYCLE_LO latches CYCLE_HI. -/
def Obligations.ControlRegisters : Prop :=
  (∀ (k i t : Nat) (x : Strand),
    let val (n : BitVec 12) : Option W48 := (csrOf k n).map fun c => c.value k i t x
    val 0x000 = some (x.status.setWidth 48)
    ∧ val 0x001 = some (BitVec.ofNat 48 (t % 4294967296))
    ∧ val 0x002 = some (x.cycleHi.setWidth 48)
    ∧ (k < 480 → val 0x003 = some (BitVec.ofNat 48 (i + 4 * k)))
    ∧ val 0x010 = some x.l0.first ∧ val 0x011 = some x.l0.last ∧ val 0x012 = some (x.l0.count.setWidth 48)
    ∧ val 0x013 = some x.l1.first ∧ val 0x014 = some x.l1.last ∧ val 0x015 = some (x.l1.count.setWidth 48)
    ∧ (∀ n : Fin 8, val (BitVec.ofNat 12 (0x020 + n)) = some ((vget x.abase n).setWidth 48)
        ∧ val (BitVec.ofNat 12 (0x028 + n)) = some ((vget x.actl n).setWidth 48))
    ∧ val 0x030 = some (BitVec.ofNat 48 x.loads.length) ∧ val 0x031 = some (BitVec.ofNat 48 x.matrix)
    ∧ val 0x040 = some (x.tstart.setWidth 48)
    ∧ val 0x100 = some x.xpc ∧ val 0x101 = some (x.xstatus.setWidth 48) ∧ val 0x102 = some (x.xcause.setWidth 48)
    ∧ val 0x103 = some x.xtval ∧ val 0x104 = some x.xvec ∧ val 0x105 = some (x.rucksack.setWidth 48)
    ∧ val 0x106 = some (x.xscratch.setWidth 48) ∧ val 0x107 = some (x.xtstart.setWidth 48)
    ∧ val 0x108 = some x.xl0.first ∧ val 0x10A = some (x.xl0.count.setWidth 48) ∧ val 0x10C = some x.xl1.last
    ∧ val 0x110 = some (x.ienable.setWidth 48)
    ∧ val 0x111 = some (BitVec.ofNat 48 (bit (decide (x.timecmp.toNat ≤ t % 2 ^ 64)) + 2 * bit x.mbox + 4 * bit x.fpt))
    ∧ val 0x112 = some ((x.timecmp.setWidth 32).setWidth 48) ∧ val 0x113 = some (BitVec.ofNat 48 (x.timecmp.toNat / 4294967296))
    ∧ (k < 480 → val 0x120 = none) ∧ (480 ≤ k → val 0x120 = some (x.sxen.setWidth 48)))
  ∧ (∀ (w : Who) (r : BitVec 5) (num : BitVec 12) (c : Csr) (s : State), csrOf w.core num = some c → mayTouch w s c →
    let v := c.value w.core w.strand (slotOf w s) (strandAt w s)
    let latched (x : Strand) : Strand := if c = .cycleLo then { x with cycleHi := BitVec.ofNat 32 (slotOf w s / 4294967296) } else x
    let g : W48 := ((strandAt w s).rg r).setWidth 48
    let a : W48 := (strandAt w s).ra (r.setWidth 3)
    let open_ (x : W48) : Prop := c.readOnly = false ∧
      ¬ (c = .status ∧ (strandAt w s).priv = 0 ∧ x.getLsbD 0 ≠ (strandAt w s).mask)
    (Issues w { writes := [r] } s →
      exec (.csrr w r num) s = .next (changed w s fun x => (latched x).putG (slotOf w s) r (v.setWidth 32)))
    ∧ (Issues w {} s →
      (r.toNat < 8 → exec (.csrra w r num) s = .next (changed w s fun x => (latched x).wa (r.setWidth 3) v))
      ∧ (open_ g → exec (.csrw w r num) s = .next (changed w s fun x => c.store w.core false g x))
      ∧ (r.toNat < 8 → open_ a → exec (.csrwa w r num) s = .next (changed w s fun x => c.store w.core true a x))))

/-- XRET (R179) restores the pc, the loops, the start time, the flags and the status from the X registers; a rounding mode code of 6 or 7 in
XSTATUS leaves 0 (R55; log entry 94). RSTOP (R182, R185), SEXIT (R183), RKST and RKLD (R182). -/
def Obligations.SystemInstructions : Prop :=
  (∀ (x : Strand) (k : Nat), let y := x.xret k
    y.pc = x.xpc ∧ y.l0 = x.xl0 ∧ y.l1 = x.xl1 ∧ y.tstart = x.xtstart ∧ y.shadow = []
      ∧ y.flags = ⟨tb x.xstatus 8, tb x.xstatus 9, tb x.xstatus 10, tb x.xstatus 11⟩
      ∧ tb y.status 0 = tb x.xstatus 0 ∧ tb y.status 3 = tb x.xstatus 3
      ∧ fld y.status 6 4 = if fld x.xstatus 6 4 < 6 then fld x.xstatus 6 4 else 0) ∧
  (∀ (w : Who) (s : State), Issues w { noDelay := true, noLast := true } s →
    ((strandAt w s).handler w.core = true →
      exec (.xret w) s = .next (((atIssue w s).modStrand w.core w.strand fun x =>
        { (x.xret w.core) with nextSlot := slotOf w s + 8 }).bump (Reg.CORE_ISSUE w.core w.strand) Reg.CORE_ISSUE.ISSUED 1))
    ∧ exec (.sexit w) s = .next ((((atIssue w s).modStrand w.core w.strand fun x => { x with exiting := true }).exitIfDone
        w.core w.strand).issued w.core w.strand (slotOf w s)))
  ∧ (∀ (w : Who) (s : State), Issues w { noDelay := true } s →
      exec (.rstop w) s = .next ((((atIssue w s).modStrand w.core w.strand fun x => { x with nextSlot := slotOf w s + 4 }).bump
        (Reg.CORE_ISSUE w.core w.strand) Reg.CORE_ISSUE.ISSUED 1).enterRest w.core w.strand 3 0 0 ((strandAt w s).pc + 4)))
  ∧ (∀ (w : Who) (o : OpK) (s : State), rkBad o = false → (strandAt w s).handler w.core = true →
      (atIssue w s).storeFault w.core .as (rkOff w s o) (rkSize o.cls) = none →
      (Issues w {} s →
        exec (.rkst w o) s = .next (passed w 4 s ((atIssue w s).setBytes (storeBase w.core .as + rkOff w s o)
          (if o.cls = 0 then toBytes 4 ((strandAt w s).rg o.r).toNat
           else if o.cls = 1 then toBytes 8 ((strandAt w s).ra (o.r.setWidth 3)).toNat
           else toBytes 128 ((strandAt w s).rv o.r).toNat))))
      ∧ (Issues w { writes := if o.cls = 0 then [o.r] else [] } s → w.ecc ≠ some true →
        let d := (atIssue w s).num (storeBase w.core .as + rkOff w s o) (rkSize o.cls)
        exec (.rkld w o) s = .next (passed w 4 s
          (((atIssue w s).storeEcc w.core .as (rkOff w s o) w.ecc).modStrand w.core w.strand fun x =>
            if o.cls = 0 then x.putG (slotOf w s) o.r (BitVec.ofNat 32 d)
            else if o.cls = 1 then x.wa (o.r.setWidth 3) (BitVec.ofNat 48 d)
            else x.putV (slotOf w s) o.r (BitVec.ofNat 1024 d)))))

/-- LDL and STL (R158, R160): an aligned access within a store whose banks are On, by its size (Table 5-14). -/
def Obligations.LocalStoreAccess : Prop :=
  ∀ (w : Who) (o : OpM) (s : State),
    let n := accessSize o.sz
    let ea := (eaOf w s o n).1
    let up (x : Strand) : Strand := x.postModify o.an (eaOf w s o n).2
    let st := storeOf o.st
    let at_ := storeBase w.core st + ea.toNat
    sizeBad o = false → noStore w.core o.st = false → ea.toNat % n = 0 →
    (atIssue w s).storeFault w.core st ea.toNat n = none →
      (Issues w {} s → exec (.stl w o) s = .next (passed w 4 s (((atIssue w s).setBytes at_ (storeBytes (strandAt w s) o)).modStrand
        w.core w.strand up)))
      ∧ (Issues w { writes := loadWrites o } s → w.ecc ≠ some true →
        let d := (atIssue w s).num at_ n
        exec (.ldl w o) s = .next (passed w 4 s (((atIssue w s).storeEcc w.core st ea.toNat w.ecc).modStrand w.core w.strand fun x =>
          if o.sz.toNat < 5 then (up x).putG (slotOf w s) o.rt (loadExtend o.sz d)
          else if o.sz = 5#3 then (up x).wa (o.rt.setWidth 3) (BitVec.ofNat 48 d)
          else (up x).putV (slotOf w s) o.rt (BitVec.ofNat 1024 d))))

/-- LD, ST and DPICK (R29, R147, R161, R163): what an access does that is permitted and aligned: a load joins the load counter, a store the
store queue, a DPICK asks the dispatch list of its cluster's CLM. -/
def Obligations.MemoryAccess : Prop :=
  ∀ (w : Who) (o : OpM) (s : State),
    let n := accessSize o.sz
    let ea := (eaOf w s o n).1
    let up (x : Strand) : Strand := x.postModify o.an (eaOf w s o n).2
    let x := strandAt w s
    sizeBad o = false → o.st = 0 → ea.toNat % n = 0 →
      (Issues w { writes := loadWrites o } s → x.loads.length < 8 →
        (inWindow ea = true → 1 ≤ x.priv → n = 8 → (atIssue w s).windowAllows w.core false (windowOffset ea) = true →
          exec (.ld w o) s = .next (counted w s (atIssue w s) o ⟨windowOffset ea, 8, loadDst o, none, .register (windowOffset ea)⟩))
        ∧ (∀ (pa : Nat) (nc : Bool) (key : Option Nat) (t : State), inWindow ea = false →
          (atIssue w s).xlateFor w.core w.strand .load ea.toNat = (.ok pa nc key, t) →
          exec (.ld w o) s = .next (counted w s (t.loadPart w.core pa n nc (loadDst o) key).2 o (t.loadPart w.core pa n nc (loadDst o) key).1)))
      ∧ (Issues w {} s →
        (inWindow ea = true → 1 ≤ x.priv → n = 8 → (atIssue w s).windowAllows w.core true (windowOffset ea) = true →
          ((atIssue w s).core w.core).storeq.length < 16 →
          exec (.st w o) s = .next (passed w 4 s (((atIssue w s).newTag.2.modCore w.core fun c => { c with storeq := c.storeq ++
            [⟨w.strand, .reg (windowOffset ea), storeBytes x o, (atIssue w s).newTag.1⟩] }).modStrand w.core w.strand up)))
        ∧ (∀ (pa : Nat) (nc : Bool) (key : Option Nat) (t : State), inWindow ea = false →
          (atIssue w s).xlateFor w.core w.strand .store ea.toNat = (.ok pa nc key, t) → (t.core w.core).storeq.length < 16 →
          exec (.st w o) s = .next (passed w 4 s ((t.pushStore w.core w.strand pa nc key (storeBytes x o)).modStrand w.core w.strand up))))
      ∧ (Issues w { writes := [o.rt] } s → o.am = 0 → o.sz = 5#3 → inWindow ea = false → x.loads.length < 8 →
        ∀ (pa : Nat) (nc : Bool) (key : Option Nat) (off : Nat) (t : State),
          (atIssue w s).xlateFor w.core w.strand .pick ea.toNat = (.ok pa nc key, t) →
          t.site pa = .clm (clusterOf w.core) off → w.core < 480 →
          exec (.dpick w o) s = .next (passed w 4 s (((t.newTag.2.dropLine w.core (pa / lineBytes)).modStrand w.core w.strand fun y =>
            y.addLoad { parts := [⟨pa, 4, .g o.rt false, key, .wantPick t.newTag.1⟩] }).pump w.core)))

/-- PREF, PREF.S, CINV and CINV.ALL (R162, R216, R217): a prefetch, a stride hint, a line or every line dropped. -/
def Obligations.CacheInstructions : Prop :=
  ∀ (w : Who) (o : OpM) (s : State), Issues w {} s → o.sz = 0 → o.st = 0 →
    let ea := (eaOf w s o 128).1
    let up (x : Strand) : Strand := x.postModify o.an (eaOf w s o 128).2
    (o.rt = 0 → formBad o.am o.d = false →
      exec (.pref w o) s = .next (passed w 4 s (((atIssue w s).prefetch w.core w.strand ea).modStrand w.core w.strand up)))
    ∧ (o.rt = 1 → formBad o.am o.d = false → o.am = 1#2 →
      exec (.prefS w o) s = .next (changed w s fun x => { x with hint := vset x.hint o.an.toNat (x.rg (o.d.setWidth 5)) }))
    ∧ (o.rt = 2 → formBad o.am o.d = false → (strandAt w s).invDrop = false → inWindow ea = false →
      ∀ (pa : Nat) (nc : Bool) (key : Option Nat) (t : State),
        (atIssue w s).xlateFor w.core w.strand .inv ea.toNat = (.ok pa nc key, t) →
        exec (.cinv w o) s = .next (passed w 4 s ((t.dropLine w.core (pa / 128)).modStrand w.core w.strand fun x =>
          { (up x) with invDrop := false })))
    ∧ (o.rt = 3 → exec (.cinvAll w o) s = .next (passed w 4 s ((atIssue w s).dropAllLines w.core)))

/-- Address-register arithmetic (R157, R158). An update of an address register (R157): linear, and modulo a buffer of LEN bytes, where the sum is corrected once. -/
def Obligations.AddressArithmetic : Prop :=
  (∀ (w : Who) (ad as : BitVec 3) (imm : BitVec 18) (g h : BitVec 5) (s : State), Issues w {} s →
    exec (.aaddi w ad as imm) s = .next (changed w s fun x => x.wa ad (x.ra as + imm.signExtend 48))
    ∧ exec (.amod w ad as imm) s = .next (changed w s fun x =>
        x.wa ad (updateAddr (x.ra as) (vget x.abase as.toNat) (vget x.actl as.toNat) imm.toInt))
    ∧ exec (.amov w ad g h) s = .next (changed w s fun x => x.wa ad (BitVec.ofNat 48 ((x.rg h).toNat % 65536 * 4294967296 + (x.rg g).toNat)))
    ∧ exec (.aadd w ad as g) s = .next (changed w s fun x => x.wa ad (x.ra as + (x.rg g).signExtend 48)))
  ∧ (∀ (a : W48) (base ctl : W32) (d : Int),
    (actlMode ctl = 0 → updateAddr a base ctl d = a + BitVec.ofInt 48 d)
    ∧ (actlMode ctl = 1 → actlLen ctl ≠ 0 →
      let lo := (bufferBase a base).toNat
      let len := actlLen ctl
      len ≤ lo → lo + 2 * len < 281474976710656 → lo ≤ a.toNat → a.toNat < lo + len → -(len : Int) < d → d < len →
        (updateAddr a base ctl d).toNat = (if (a.toNat : Int) + d < lo then (a.toNat : Int) + d + len
          else if (lo : Int) + len ≤ a.toNat + d then (a.toNat : Int) + d - len else (a.toNat : Int) + d).toNat))

/-! ### Sync counters (spec/09) -/

/-- SADD, SSET, SADD.P, STAKE, SWATCH, SREAD and ROLL (R273, R274, R281, R284): what each does with a counter of its own core, and with any
other counter. SIGNAL_FENCE_RELEASE (R281): once no store that the signal waits for is still to be accepted, it is applied, or leaves for its hub. -/
def Obligations.CounterInstructions : Prop :=
  (∀ (w : Who) (o : OpS) (c : CounterId) (s : State),
    let r := atIssue w s
    let k := w.core
    let x := strandAt w s
    let v : W32 := x.rg o.ra + o.imm.setWidth 32
    let own : Bool := ownCounter k c
    counterOfNum (x.rg o.rc).toNat = some c →
      (Issues w {} s → o.inv = false →
        (own = true → r.fenceTags k = [] →
          ((r.ctrAdd c v.toInt).1 = (false, false) → exec (.sadd w o) s = .next (passed w 4 s (r.ctrAdd c v.toInt).2))
          ∧ ((r.ctrAssign c v.toNat).1.1 = false → exec (.sset w o) s = .next (passed w 4 s (r.ctrAssign c v.toNat).2)))
        ∧ (own = false → r.fenceTags k = [] →
          exec (.sadd w o) s = .next (waits w s (r.askCounter k w.strand (syncAsk w s o c .add [])) (.waiting .answer) none)
          ∧ exec (.sset w o) s = .next (waits w s (r.askCounter k w.strand (syncAsk w s o c .set [])) (.waiting .answer) none))
        ∧ (r.fenceTags k ≠ [] →
          exec (.sadd w o) s = .next (waits w s (r.modStrand k w.strand fun y =>
            { y with syncOp := some (syncAsk w s o c .add (r.fenceTags k)) }) (.waiting .fence) none)
          ∧ exec (.sset w o) s = .next (waits w s (r.modStrand k w.strand fun y =>
            { y with syncOp := some (syncAsk w s o c .set (r.fenceTags k)) }) (.waiting .fence) none))
        ∧ ((r.core k).storeq.length < 16 → exec (.saddP w o) s = .next (passed w 4 s (r.newTag.2.modCore k fun q =>
            { q with storeq := q.storeq ++ [⟨w.strand, .sig c v, [], r.newTag.1⟩] }))))
      ∧ (Issues w {} s → ∀ take : Bool,
        let i : Instr := if take then .stake w o else .swatch w o
        let ask : SyncOp := syncAsk w s o c (if take then .take else .watch) []
        let asked := r.ctrWait ⟨c, take, v, some w.strand, epCore k, 0, 0⟩
        (own = true → asked.1 = true → exec i s = .next (passed w 4 s (if o.inv then asked.2.dropAllLines k else asked.2)))
        ∧ (own = true → asked.1 = false →
          exec i s = .next (sleepsOn w s (asked.2.modStrand k w.strand fun y => { y with syncOp := some ask }) c))
        ∧ (own = false → exec i s = .next (sleepsOn w s (r.askCounter k w.strand ask) c)))
      ∧ (Issues w { writes := [o.ra] } s → o.inv = false → o.imm = 0 →
        (own = true → exec (.sread w o) s = .next (passed w 4 s ((r.countOp c).modStrand k w.strand fun y =>
          y.later (slotOf w s + 7) (.g o.ra (BitVec.ofNat 32 (r.ctrValue c))))))
        ∧ (own = false → exec (.sread w o) s = .next (waits w s (r.askCounter k w.strand { syncAsk w s o c .read [] with x := 0 })
          (.waiting .answer) none)))
      ∧ (Issues w {} s → o.inv = false → o.imm = 0 → o.ra = 0 →
        exec (.roll w o) s = .next (passed w 4 s (if own then (r.ctrAdd c 1).2
          else r.inject { kind := .tok, part := r.partOfCore k, dst := r.ctrDst k c, src := epCore k, addr := c.addr }))))
  ∧ (∀ (k i : Nat) (o : SyncOp) (s : State), (s.strand k i).run = .waiting .fence → (s.strand k i).syncOp = some o →
    (∀ t, t ∈ o.fence → t ∉ s.fenceTags k) →
      (ownCounter k o.ctr = false → exec (.signalFenceRelease k i) s = .next ((s.askCounter k i o).setRun k i (.waiting .answer) none))
      ∧ (ownCounter k o.ctr = true → (s.applySignal o).1 = none →
        exec (.signalFenceRelease k i) s = .next ((s.applySignal o).2.finishSync k i)))

/-- What an addition and a set make of a counter's value (R271): modulo 2^32 in ticket mode; otherwise limited to 0 and LIMIT, and OVF or UNF
is set. AMO and SIG packets and tokens at the counter block of the serving hub (R278, R280, R284, R285). -/
def Obligations.CounterValuesAndPackets : Prop :=
  (∀ (limit v x : Nat) (d : Int), v ≤ limit → limit < 4294967296 →
    ctrSum true limit v d = (((v : Int) + d).emod 4294967296 |>.toNat, false, false)
    ∧ ctrSet true limit x = (x, false)
    ∧ ((limit : Int) < v + d → ctrSum false limit v d = (limit, true, false))
    ∧ ((v : Int) + d < 0 → ctrSum false limit v d = (0, false, true))
    ∧ (0 ≤ (v : Int) + d → (v : Int) + d ≤ limit → ctrSum false limit v d = (((v : Int) + d).toNat, false, false))
    ∧ (limit < x → ctrSet false limit x = (limit, true))
    ∧ (x ≤ limit → ctrSet false limit x = (x, false)))
  ∧ (∀ (ep : BitVec 12) (p : Packet) (c : CounterId) (s t : State),
    let e := ep.toNat
    (counterPacket s e .amo 0 p c t → exec (.amoAdd ep) s = .next
      ((t.ctrAdd c p.ctrX.toInt).2.amoReply p e ((t.ctrAdd c p.ctrX.toInt).2.ctrValue c) (t.ctrAdd c p.ctrX.toInt).1.1
        (t.ctrAdd c p.ctrX.toInt).1.2 false))
    ∧ (counterPacket s e .amo 1 p c t → exec (.amoSet ep) s = .next
      ((t.ctrAssign c p.ctrX.toNat).2.amoReply p e ((t.ctrAssign c p.ctrX.toNat).2.ctrValue c) (t.ctrAssign c p.ctrX.toNat).1.1
        (t.ctrAssign c p.ctrX.toNat).1.2 false))
    ∧ (∀ take : Bool, counterPacket s e .amo (if take then 2 else 3) p c t →
        let r := t.ctrWait ⟨c, take, p.ctrX, none, p.src, p.tag, p.part⟩
        exec (if take then .amoTake ep else .amoWatch ep) s =
          .next (if r.1 then r.2.amoReply p e (r.2.ctrValue c) false false false else r.2))
    ∧ (counterPacket s e .amo 4 p c t →
      exec (.amoRead ep) s = .next ((t.countOp c).amoReply p e (t.ctrValue c) false false false))
    ∧ (counterPacket s e .amo 5 p c t →
        let mine (x : Waiter) : Bool := x.ctr == c && x.own.isNone && x.src == p.src && x.tag == p.chid
        let u := ({ t with waiters := t.waiters.filter fun x => !mine x }.countOp c).serveWaiters c
        exec (.amoCancel ep) s = .next (u.amoReply p e (u.ctrValue c) false false (!t.waiters.any mine)))
    ∧ (counterPacket s e .sig 0 p c t → exec (.sigAdd ep) s = .next (t.ctrAdd c p.ctrX.toInt).2)
    ∧ (counterPacket s e .sig 1 p c t → exec (.sigSet ep) s = .next (t.ctrAssign c p.ctrX.toNat).2)
    ∧ (arrives s e p t → p.kind = .tok → counterOfAddr p.addr = some c → t.ctrRefusal (hubOfEp e) p = none →
      exec (.tok ep) s = .next (t.ctrAdd c 1).2)
    ∧ (arrives s e p t → p.kind = .amo → unitOfEp e = 0x31 → ∀ (b : List Byte) (u : State), t.physRead p.addr 8 none = (.inr b, u) →
        let h := ofBytes b
        let counted := u.bump (Reg.CLU_CLM_PICKS (siteOfEp e)) Reg.CLU_CLM_PICKS.PICKS 1
        let next := h % 4294967296
        exec (.amoDpick ep) s = .next (if next < h / 4294967296
          then (counted.setNum p.addr 4 (next + 1)).inject { (p.answer .rdr (toBytes 8 next)) with src := e }
          else counted.inject { (p.answer .rdr (toBytes 8 0xFFFFFFFF)) with src := e })))

/-! ### Messages (spec/08) -/

/-- SENDV, SENDF and SENDF.G (R251): a send whose channels take every message completes at once and is counted; otherwise it waits, and is
tried again. SEND_ACCEPT and SEND_STALLED (R255, R259): a waiting send is accepted in a slot before its timeout in which its channels take every
message; in a slot at or after the timeout it raises cause 0x08 and is counted as a stall. -/
def Obligations.SendsLeaveWaitOrEnd : Prop :=
  (∀ (w : Who) (o : OpG) (s : State), Issues w {} s → ∀ fn : Fin 3,
    let i : Instr := if fn.val = 0 then .sendv w o else if fn.val = 1 then .sendf w o else .sendfG w o
    let r := atIssue w s
    let x : SendRun := ⟨fn.val, o.r, o.ch.toNat, w.word.toNat, slotOf w s⟩
    r.sendBad w.core w.strand x = false →
      (∀ t : State, trySends w.core (r.sendMsgs w.core w.strand x) r = .inr t →
        exec i s = .next (passed w 4 s ((t.bump (Reg.CORE_MSG_SENT w.core) Reg.CORE_MSG_SENT.SENT 1).traceSend w.core w.strand x)))
      ∧ (∀ n : Nat, trySends w.core (r.sendMsgs w.core w.strand x) r = .inl n →
        exec i s = .next ((r.modStrand w.core w.strand fun y => { y with send := some x }).setRun w.core w.strand (.waiting .send)
          (some (slotOf w s, .send)))))
  ∧ (∀ (w : Who) (x : SendRun) (s : State), whoOk w = true → (s.strand w.core w.strand).run = .waiting .send →
    (s.strand w.core w.strand).send = some x → s.heldByPause w.core w.strand = false →
      (∀ t : State, slotOf w s < x.first + s.sendTimeout w.core → (sendState w s).sendBad w.core w.strand x = false →
        trySends w.core ((sendState w s).sendMsgs w.core w.strand x) (sendState w s) = .inr t →
        exec (.sendAccept w) s = .next ((((((t.countLost w.core w.strand (slotOf w s)).bump (Reg.CORE_MSG_SENT w.core)
          Reg.CORE_MSG_SENT.SENT 1).traceSend w.core w.strand x).modStrand w.core w.strand fun y =>
            { (y.stepPast 4) with run := .running, send := none }).issued w.core w.strand (slotOf w s))))
      ∧ (let late : Who := { w with cycle := max w.cycle (x.first + s.sendTimeout w.core) }
        ∀ n : Nat, trySends w.core ((sendState late s).sendMsgs w.core w.strand x) (sendState late s) = .inl n →
        exec (.sendStalled w) s = .next ((((sendState late s).countLost w.core w.strand (slotOf late s)).bump (Reg.CORE_MSG_STALL w.core)
          Reg.CORE_MSG_STALL.STALLS 1).syncCause w.core w.strand (slotOf late s)
            { code := 0x08, xtval := (sendState late s).rf (sendReg w.core n) Reg.CLU_RT_SEND.CHID })))

/-- RECVV, RECVF, QREL and QPOLL (R252, R263): the oldest message is taken, the strand sleeps when there is none, a place is released, the
ready messages are counted. -/
def Obligations.ReceivesTakeTheOldestMessage : Prop :=
  ∀ (w : Who) (o : OpG) (s : State),
    let r := atIssue w s
    let k := w.core
    let q := o.ch.toNat
    let frag : Bool := r.rbit (qaReg k q) Reg.CLU_RT_QA.MSZ
    let asleep : State := waits w s (r.modQueue k q fun x => { x with sleepers := x.sleepers ++ [w.strand] }) (.sleeping (.queue q)) none
    queueUsable w s q →
      (Issues w {} s → frag = false →
        ((r.queue k q).pickFor w.strand = none → exec (.recvv w o) s = .next asleep)
        ∧ (∀ p : Nat, (r.queue k q).pickFor w.strand = some p → r.qReduces k q = false →
          exec (.recvv w o) s = .next (passed w 4 s ((received w s ((r.modQueue k q fun x => x.take w.strand p).modStrand k w.strand fun y =>
            y.putV (slotOf w s) o.r (BitVec.ofNat 1024 (ofBytes (r.qramRead k (r.qOffset k q p) 128)))) q).release k q))))
      ∧ (Issues w { writes := [o.r] } s → frag = true → r.qReduces k q = false →
        ((r.queue k q).pickFor w.strand = none → exec (.recvf w o) s = .next asleep)
        ∧ (∀ p : Nat, (r.queue k q).pickFor w.strand = some p →
          exec (.recvf w o) s = .next (passed w 4 s (received w s
            ((r.modQueue k q fun x => { x.take w.strand p with claimed := (x.take w.strand p).claimed ++ [p] }).modStrand k w.strand fun y =>
              y.putG (slotOf w s) o.r (BitVec.ofNat 32 (r.qOffset k q p))) q))))
      ∧ (Issues w {} s → frag = true → o.r = 0 → ∀ (p : Nat) (l : List Nat), (r.queue k q).claimed = p :: l →
        exec (.qrel w o) s = .next (passed w 4 s ((r.modQueue k q fun x => { x with claimed := l }).release k q)))
      ∧ (Issues w { writes := [o.r] } s →
        exec (.qpoll w o) s = .next (changed w s fun y => y.putG (slotOf w s) o.r (BitVec.ofNat 32 (r.queue k q).free.length)))

/-- HAMPER_FETCH and QUEUE_TABLE_WRITE (R249, R258): a queue with a hamper that holds a message, and a free place, asks for its bytes; a queue
entry is written while the queue is disabled; clearing EN drops what the queue holds and lets its sleepers go on. -/
def Obligations.QueueTables : Prop :=
  ∀ (k q : Nat) (s : State), k < 480 → q < 32 →
    (∀ v : BitVec 64, s.rbit (qaReg k q) Reg.CLU_RT_QA.EN = false →
      exec (.queueTableWrite k q false v) s = .next (s.setReg (qaReg k q) (v &&& 0x3FFFFFFFFFFFFFFF#64))
      ∧ exec (.queueTableWrite k q true v) s = .next (s.setReg (qbReg k q) (v &&& 0x7FFFFFFFFFFFFFFF#64)))
    ∧ (∀ v : BitVec 64, s.rbit (qaReg k q) Reg.CLU_RT_QA.EN = true → v.getLsbD 0 = false →
      let off := s.setRf (qaReg k q) Reg.CLU_RT_QA.EN 0
      exec (.queueTableWrite k q false v) s =
        .next (((s.queue k q).sleepers.foldl (fun s i => s.modStrand k i fun y => { y with run := .running }) off).modQueue k q fun x =>
          { cursor := x.cursor, ready := [], claimed := [], sleepers := [], held := [], rounds := [], mc := false, fetch := none }))
    ∧ (∀ (f : Nat) (l : List Nat), s.qEnabled k q = true → s.qReduces k q = false → s.rbit (qaReg k q) Reg.CLU_RT_QA.HEN = true →
      (s.queue k q).fetch = none → s.freePlaces k q = f :: l →
      (s.rf (Reg.CORE_MSG_QSB k q) Reg.CORE_MSG_QSB.HPOS ≠ s.rf (Reg.CORE_MSG_QSB k q) Reg.CORE_MSG_QSB.TPOS) →
      ∃ t h, exec (.hamperFetch k q) s = .next t ∧ (t.queue k q).fetch = some h ∧ h.place = f ∧ h.got = [] ∧ h.failed = false
        ∧ h.asked.map (·.2) = (List.range ((s.qSize k q + 511) / 512)).map (· * 512))

/-- MSG, HTL, CRD, RLS and RED at the TAP of a core, at a trail port and at the Cheter controller (R246, R254, R255, R258, R262, R263, R369,
R371, R406). A message at its queue takes the next free place: its bytes stand there, and it is ready (R246, R255). -/
def Obligations.MessagesAndCredits : Prop :=
  (∀ (ep : BitVec 12) (p : Packet) (s t : State), arrives s ep.toNat p t →
    let e := ep.toNat
    (∀ k : Nat, e ≠ epCheter → isTrailEp e = false → coreOfEp e = some k →
      (p.kind = .msg → exec (.msg ep) s = .next (t.msgAtTap k p))
      ∧ (p.kind = .htl → exec (.htl ep) s = .next (t.htlAtTap k p))
      ∧ (p.kind = .crd → exec (.crd ep) s = .next (t.crdAtTap k p))
      ∧ (p.kind = .rls → exec (.rls ep) s = .next (t.rlsAtTap k p))
      ∧ (p.kind = .red → exec (.red ep) s = .next (t.redAtTap k p)))
    ∧ (e ≠ epCheter → isTrailEp e = true →
      (p.kind = .msg → exec (.msg ep) s = .next (t.egress (portOfEp e) p))
      ∧ (p.kind = .crd → exec (.crd ep) s = .next (t.creditOut (portOfEp e) p))
      ∧ (p.kind = .rls → exec (.rls ep) s = .next (t.creditOut (portOfEp e) p))
      ∧ (p.kind = .red → exec (.red ep) s = .next (t.egress (portOfEp e) p)))
    ∧ (e = epCheter → p.kind = .msg → exec (.msg ep) s = .next (t.mailbox p)))
  ∧ (∀ (k q f : Nat) (l : List Nat) (p : Packet) (s : State), s.queueOf k p.chid = some q → s.qReduces k q = false →
    s.qSize k q = p.payload.length → s.freePlaces k q = f :: l →
      let t := s.qramWrite k (s.qOffset k q f) p.payload
      s.msgAtTap k p = (t.modQueue k q fun x => { x with cursor := (f + 1) % s.qPlaces k q, mc := p.mc }).becomeReady k q f
      ∧ (s.wf = true → k < 480 → s.qOffset k q f + p.payload.length ≤ 0x20000 →
          t.bytes (storeBase k .qram + s.qOffset k q f) p.payload.length = p.payload))

/-! ### Packets (spec/08) -/

/-- ROUTER_ARRIVAL (R241): the channel and the packet that the arbiter chooses pass the output. RD and WR at a memory (R27, R244): the bytes, or the response, or the error that the access meets. RDR, WRR and ERR at their requester: a core, a trail port, the DMA engine of a hub, the Cheter controller (R27, R244). -/
def Obligations.PacketsPassAndAreServed : Prop :=
  (∀ (n : Node) (out : Port) (vc j : Nat) (x : NetPkt) (s : State),
    [3, 1, 2, 0].findSome? (fun v => (s.arbitrate n out v).map fun y => (v, y)) = some (vc, j, x) →
      let left := x.outs.filter (· != out)
      exec (.routerArrival n out) s = .next (({ s with net := { s.net with
        flight := if left.isEmpty then s.net.flight.eraseIdx j else s.net.flight.set j { x with outs := left }
        ptrs := ((n, out, vc), portIndex n x.inp) :: s.net.ptrs.filter fun e => e.1 != (n, out, vc) } }).passOutput n out x.p))
  ∧ (∀ (ep : BitVec 12) (ecc : Ecc) (p : Packet) (s t : State), arrives s ep.toNat p t → isTrailEp ep.toNat = false →
    servesNone ep.toNat = false →
      (p.kind = .rd →
        (∀ (b : List Byte) (u : State), t.memRead p.addr p.size p.key ecc = (.inr b, u) →
          exec (.rd ep ecc) s = .next (u.inject (p.answer .rdr b)))
        ∧ (∀ (code : Nat) (u : State), t.memRead p.addr p.size p.key ecc = (.inl code, u) →
          exec (.rd ep ecc) s = .next (u.inject (p.answer .err [] code))))
      ∧ (p.kind = .wr →
        (∀ u : State, t.memWrite p.addr p.payload p.key ecc = some (none, u) →
          exec (.wr ep ecc) s = .next (u.inject (p.answer .wrr [])))
        ∧ (∀ (code : Nat) (u : State), t.memWrite p.addr p.payload p.key ecc = some (some code, u) →
          exec (.wr ep ecc) s = .next (u.inject (p.answer .err [] code)))))
  ∧ (∀ (ep : BitVec 12) (p : Packet) (s t : State), arrives s ep.toNat p t →
    let e := ep.toNat
    ∀ i : Instr, (p.kind = .rdr ∧ i = .rdr ep) ∨ (p.kind = .wrr ∧ i = .wrr ep) ∨ (p.kind = .err ∧ i = .err ep) →
      (e = epCheter → exec i s = .next (t.cheterAnswer p))
      ∧ (e ≠ epCheter → isTrailEp e = true → exec i s = .next (t.trailAnswer (portOfEp e) p))
      ∧ (∀ k : Nat, e ≠ epCheter → isTrailEp e = false → coreOfEp e = some k → exec i s = .next (t.coreAnswer k p))
      ∧ (e ≠ epCheter → isTrailEp e = false → coreOfEp e = none → siteOfEp e < 12 → unitOfEp e = 0x30 →
        exec i s = .next (t.dmaAnswer (siteOfEp e) p)))

/-! ### Vector instructions (spec/04) -/

/-- VADD, VSUB, VMUL, VFMA, VFMS (R100): each element is the exact result of its operands as the mode reads them, rounded once with the
status word's mode and output mode INF; a draw under SR advances the counter (R115, R116). -/
def Obligations.VectorFloatArithmetic : Prop :=
  ∀ (w : Who) (o : OpV) (s : State) (t : Fmt) (f : FFmt), Issues w (vTyped3 o) s → Fmt.ofCode o.t = some t → t.float? = some f →
    let x := strandAt w s
    let a (i : Nat) : Val × FpFlags := f.read x.conf (laneOf t o.h (x.rv o.va) i)
    let b (i : Nat) : Val × FpFlags := f.read x.conf (laneOf t o.h (x.rv o.vb) i)
    let d (i : Nat) : Val × FpFlags := f.read x.conf (laneOf t o.h (x.rv o.vd) i)
    let draw := (atIssue w s).drawIf w.core (x.rm == .sr)
    let rounded (fl : FpFlags) (r : Val × FpFlags) (i : Nat) : Nat × FpFlags :=
      let q := f.round (f.keep x.conf) x.rm false (draw.1 (vfirst t o.h + i)) r.1
      (q.1, fl ||| r.2 ||| q.2)
    let down : Bool := x.rm == .rdn
    exec (.vadd w o) s = .next (vecFpLanes w s draw.2 2 o t fun i =>
      rounded ((a i).2 ||| (b i).2) (Val.add down (a i).1 (b i).1) i)
    ∧ exec (.vsub w o) s = .next (vecFpLanes w s draw.2 2 o t fun i =>
      rounded ((a i).2 ||| (b i).2) (Val.add down (a i).1 (b i).1.negate) i)
    ∧ exec (.vmul w o) s = .next (vecFpLanes w s draw.2 2 o t fun i => rounded ((a i).2 ||| (b i).2) (Val.mul (a i).1 (b i).1) i)
    ∧ exec (.vfma w o) s = .next (vecFpLanes w s draw.2 2 o t fun i =>
      rounded ((a i).2 ||| (b i).2 ||| (d i).2) (Val.fma down (a i).1 (b i).1 (d i).1) i)
    ∧ exec (.vfms w o) s = .next (vecFpLanes w s draw.2 2 o t fun i =>
      rounded ((a i).2 ||| (b i).2 ||| (d i).2) (Val.fma down (a i).1 (b i).1 (d i).1.negate) i)

/-- VNEG, VABS, VMIN, VMAX, VRCPE, VRSQE (R100, R101, Table 4-3): by element, with the flags of the special operands. -/
def Obligations.VectorSignsPicksAndEstimates : Prop :=
  ∀ (w : Who) (o : OpV) (s : State) (t : Fmt) (f : FFmt), Fmt.ofCode o.t = some t → t.float? = some f →
    let x := strandAt w s
    let a (i : Nat) : Val × FpFlags := f.read x.conf (laneOf t o.h (x.rv o.va) i)
    let b (i : Nat) : Val × FpFlags := f.read x.conf (laneOf t o.h (x.rv o.vb) i)
    let asIs (v : Val) : Nat := (f.round (f.keep x.conf) .rne false 0 v).1
    let done (g : Nat → Nat × FpFlags) : State := vecFpLanes w s (atIssue w s) 2 o t g
    (Issues w (vTyped3 o) s →
      exec (.vmin w o) s = .next (done fun i => (asIs (Val.pick false (a i).1 (b i).1), (a i).2 ||| (b i).2 ||| sigFlag [(a i).1, (b i).1]))
      ∧ exec (.vmax w o) s = .next (done fun i => (asIs (Val.pick true (a i).1 (b i).1), (a i).2 ||| (b i).2 ||| sigFlag [(a i).1, (b i).1])))
    ∧ (Issues w (vTyped2 o) s →
    exec (.vneg w o) s = .next (done fun i => if (a i).1.isNan then (f.canonNan, (a i).2) else (asIs (a i).1.negate, (a i).2))
    ∧ exec (.vabs w o) s = .next (done fun i => if (a i).1.isNan then (f.canonNan, (a i).2) else (asIs (a i).1.abs, (a i).2))
    ∧ (∃ g : Nat → Nat × FpFlags, exec (.vrcpe w o) s = .next (done g) ∧ ∀ i,
        ((a i).1.isNan = true → g i = (f.canonNan, (a i).2 ||| sigFlag [(a i).1]))
        ∧ ((a i).1.isZero = true → g i = (f.infBits (a i).1.neg?, (a i).2 ||| FpFlags.dz))
        ∧ (∀ n, (a i).1 = .inf n → g i = (f.zeroBits n, (a i).2))
        ∧ (∀ n m e, (a i).1 = .fin n m e → m ≠ 0 →
            let q := estimateRound f x.conf (Val.div (.fin false 1 0) (a i).1).1
            g i = (q.1, (a i).2 ||| q.2)))
    ∧ (∃ g : Nat → Nat × FpFlags, exec (.vrsqe w o) s = .next (done g) ∧ ∀ i,
        ((a i).1.isNan = true → g i = (f.canonNan, (a i).2 ||| sigFlag [(a i).1]))
        ∧ ((a i).1.isZero = true → g i = (f.infBits (a i).1.neg?, (a i).2 ||| FpFlags.dz))
        ∧ ((a i).1 = .inf false → g i = (f.zeroBits false, (a i).2))
        ∧ ((a i).1 = .inf true → g i = (f.canonNan, (a i).2 ||| FpFlags.nv))
        ∧ (∀ m e, (a i).1 = .fin true m e → m ≠ 0 → g i = (f.canonNan, (a i).2 ||| FpFlags.nv))
        ∧ (∀ m e, (a i).1 = .fin false m e → m ≠ 0 →
            let q := estimateRound f x.conf (rsqrtFin m e)
            g i = (q.1, (a i).2 ||| q.2))))

/-- VCMP (R102), VSEL, and the integer and logic instructions (Table 4-2, R489): by element, with wrap or saturation; a shift takes its
amount modulo the width. -/
def Obligations.VectorComparesAndIntegers : Prop :=
  (∀ (w : Who) (o : OpV) (s : State) (t : Fmt), Issues w (vTyped3 o) s → Fmt.ofCode o.t = some t →
    let x := strandAt w s
    let la (i : Nat) : Nat := laneOf t o.h (x.rv o.va) i
    let lb (i : Nat) : Nat := laneOf t o.h (x.rv o.vb) i
    let mask (c : Bool) : Nat := if c then 2 ^ t.width - 1 else 0
    let ints (g : Nat → Nat) : State :=
      vecDone w s (atIssue w s) 1 o.vd (vput t.width 0 ((List.range (vcount t)).map g)) 0#6
    (∀ f : FFmt, t.float? = some f →
      let a (i : Nat) : Val × FpFlags := f.read x.conf (la i)
      let b (i : Nat) : Val × FpFlags := f.read x.conf (lb i)
      let fl (i : Nat) : FpFlags := (a i).2 ||| (b i).2 ||| sigFlag [(a i).1, (b i).1]
      let un (i : Nat) : Bool := (a i).1.isNan || (b i).1.isNan
      let eq (i : Nat) : Bool := (a i).1.eqv (b i).1
      let lt (i : Nat) : Bool := !eq i && (a i).1.lt (b i).1
      let done (g : Nat → Bool) : State :=
        let l := (List.range (vcount t)).map fun i => (mask (g i), fl i)
        vecDone w s (atIssue w s) 1 o.vd (vput t.width (vfirst t o.h) (l.map (·.1))) (orFlags l)
      exec (.vcmpEq w o) s = .next (done eq)
      ∧ exec (.vcmpNe w o) s = .next (done fun i => un i || !eq i)
      ∧ exec (.vcmpLt w o) s = .next (done lt)
      ∧ exec (.vcmpLe w o) s = .next (done fun i => eq i || lt i)
      ∧ exec (.vcmpUn w o) s = .next (done un))
    ∧ (∀ (sg : Bool) (n : Nat), t.int? = some (sg, n) → vcount t ≠ 0 →
      let a (i : Nat) : Int := if sg then signed n (la i) else la i
      let b (i : Nat) : Int := if sg then signed n (lb i) else lb i
      let sat (v : Int) : Nat :=
        wrap n (max (if sg then -((2 ^ (n - 1) : Nat) : Int) else 0) (min (if sg then (2 ^ (n - 1) : Nat) - 1 else (2 ^ n : Nat) - 1) v))
      exec (.vcmpEq w o) s = .next (ints fun i => mask (a i == b i))
      ∧ exec (.vcmpNe w o) s = .next (ints fun i => mask (a i != b i))
      ∧ exec (.vcmpLt w o) s = .next (ints fun i => mask (decide (a i < b i)))
      ∧ exec (.vcmpLe w o) s = .next (ints fun i => mask (decide (a i ≤ b i)))
      ∧ exec (.vcmpUn w o) s = .next (ints fun _ => 0)
      ∧ exec (.viadd w o) s = .next (ints fun i => wrap n (a i + b i))
      ∧ exec (.visub w o) s = .next (ints fun i => wrap n (a i - b i))
      ∧ exec (.viadds w o) s = .next (ints fun i => sat (a i + b i))
      ∧ exec (.visubs w o) s = .next (ints fun i => sat (a i - b i))
      ∧ exec (.vimul w o) s = .next (ints fun i => wrap n (a i * b i))
      ∧ exec (.vimin w o) s = .next (ints fun i => wrap n (min (a i) (b i)))
      ∧ exec (.vimax w o) s = .next (ints fun i => wrap n (max (a i) (b i)))
      ∧ exec (.vand w o) s = .next (ints fun i => (la i).land (lb i))
      ∧ exec (.vor w o) s = .next (ints fun i => (la i).lor (lb i))
      ∧ exec (.vxor w o) s = .next (ints fun i => (la i).xor (lb i))
      ∧ exec (.vshl w o) s = .next (ints fun i => la i * 2 ^ (lb i % n) % 2 ^ n)
      ∧ exec (.vshrl w o) s = .next (ints fun i => la i / 2 ^ (lb i % n))
      ∧ exec (.vshra w o) s = .next (ints fun i => wrap n (a i / ((2 ^ (lb i % n) : Nat) : Int)))))
  ∧ (∀ (w : Who) (o : OpV) (s : State), Issues w (vBare3 o) s →
    let x := strandAt w s
    exec (.vsel w o) s = .next (vecDone w s (atIssue w s) 1 o.vd
      (vwhole ((x.rv o.vd &&& x.rv o.va) ||| (~~~ x.rv o.vd &&& x.rv o.vb))) 0#6))

/-- VMOV, VBCAST, VDUP, VPERM, VSLIDE, VMOVG (R490, Table 4-2); an element, byte or distance beyond the register is an illegal instruction. -/
def Obligations.VectorMovement : Prop :=
  ∀ (w : Who) (o : OpV) (s : State),
    let x := strandAt w s
    let b := (x.rg o.vb).toNat
    let done (p : VPut) : State := vecDone w s (atIssue w s) 1 o.vd p 0#6
    let bad : State := raises w s { code := 0x01, xtval := w.word.toNat }
    (Issues w (vBare2 o) s → exec (.vmov w o) s = .next (done (vwhole (x.rv o.va))))
    ∧ (∀ t, Fmt.ofCode o.t = some t → vcount t ≠ 0 →
      let v := laneOf t o.h (x.rv o.va) b
      (Issues w (vTyped2 o) s →
        exec (.vbcast w o) s = .next (done (vput t.width (vfirst t o.h) (List.replicate (vcount t) (x.rg o.va).toNat))))
      ∧ (Issues w (vTyped3 o) s →
        (b < vcount t → exec (.vdup w o) s = .next (done (vput t.width (vfirst t o.h) (List.replicate (vcount t) v))))
        ∧ (vcount t ≤ b → exec (.vdup w o) s = .next bad))
      ∧ (Issues w (vMovG o) s →
        (b < vcount t →
          exec (.vmovg w o) s = .next (passed w 4 s (((atIssue w s).vecInsn w.core).modStrand w.core w.strand fun y =>
            y.later (slotOf w s + 7) (.g o.vd (if t = .s8 then (BitVec.ofNat 8 v).signExtend 32 else BitVec.ofNat 32 v)))))
        ∧ (vcount t ≤ b → exec (.vmovg w o) s = .next bad)))
    ∧ (Issues w (vBare3 o) s →
      ((∀ i, i < 128 → elt 8 (x.rv o.vb).toNat i < 128) →
        exec (.vperm w o) s = .next (done (vput 8 0 ((List.range 128).map fun i => elt 8 (x.rv o.va).toNat (elt 8 (x.rv o.vb).toNat i)))))
      ∧ ((∃ i, i < 128 ∧ 128 ≤ elt 8 (x.rv o.vb).toNat i) → exec (.vperm w o) s = .next bad)
      ∧ (b < 128 → exec (.vslide w o) s = .next (done (vwhole (x.rv o.va >>> (8 * b)))))
      ∧ (128 ≤ b → exec (.vslide w o) s = .next bad))

/-- Reductions (R104, R105): a pairwise tree by stages, its result in element 0 and every other bit zero. Moment records (R106 to R110): VMOM and VMOM.A write one slot, VMMRG merges slot by slot, VMRED all slots into slot 0, VMVAR writes
word 3 of every slot. -/
def Obligations.VectorReductionsAndMoments : Prop :=
  (∀ (w : Who) (o : OpV) (s : State) (t : Fmt), Issues w (vTyped2 o) s → Fmt.ofCode o.t = some t →
    let x := strandAt w s
    let lanes := (List.range (vcount t)).map (laneOf t o.h (x.rv o.va))
    let done (q : Nat) (fl : FpFlags) : State := vecFp w s (atIssue w s) 3 o.vd (vwhole (BitVec.ofNat 1024 q)) fl
    (∀ f : FFmt, t.float? = some f →
      let g : FFmt := if t = .fp64 then .fp64 else .fp32
      let sum := tree (sumStep g x.conf) (.fin false 0 0, 0#6) 7 (lanes.map (f.read x.conf))
      let step (big : Bool) (p q : Nat × FpFlags) : Nat × FpFlags :=
        ((pickElt big f x.conf p.1 q.1).1, (pickElt big f x.conf p.1 q.1).2 ||| p.2 ||| q.2)
      let top := tree (step true) (0, 0#6) 7 (lanes.map (·, 0#6))
      let low := tree (step false) (0, 0#6) 7 (lanes.map (·, 0#6))
      exec (.vrsum w o) s = .next (done (g.round (g.keep x.conf) .rne false 0 sum.1).1 sum.2)
      ∧ exec (.vrmax w o) s = .next (done top.1 top.2)
      ∧ exec (.vrmin w o) s = .next (done low.1 low.2)
      ∧ (t ≠ .fp64 →
        let sq := tree add64 (0, 0#6) 7 (lanes.map fun n =>
          ((ps64 (Val.mul (f.read x.conf n).1 (f.read x.conf n).1)).1,
            (f.read x.conf n).2 ||| (ps64 (Val.mul (f.read x.conf n).1 (f.read x.conf n).1)).2))
        let acc := add64 (elt 64 (x.rv o.vd).toNat 0, 0#6) sq
        exec (.vrssq w o) s = .next (done sq.1 sq.2)
        ∧ exec (.vrssqA w o) s = .next (vecFp w s (atIssue w s) 3 o.vd (vput 64 0 [acc.1]) acc.2)))
    ∧ (∀ (sg : Bool) (n : Nat), t.int? = some (sg, n) → vcount t ≠ 0 →
      let a (m : Nat) : Int := if sg then signed n m else m
      exec (.vrsum w o) s = .next (done (wrap 32 (lanes.map a).sum) 0#6)
      ∧ (∃ q ∈ lanes, (∀ m ∈ lanes, a m ≤ a q) ∧ exec (.vrmax w o) s = .next (done q 0#6))
      ∧ (∃ q ∈ lanes, (∀ m ∈ lanes, a q ≤ a m) ∧ exec (.vrmin w o) s = .next (done q 0#6))))
  ∧ ((∀ (w : Who) (o : OpVM) (s : State) (t : Fmt) (f : FFmt), Issues w {} s → Fmt.ofCode o.t = some t → t.float? = some f → t ≠ .fp64 →
    let x := strandAt w s
    let n := (x.rg o.gn).toNat
    let r := recordOf f x.conf ((List.range n).map (laneOf t false (x.rv o.va)))
    let m := Rec.merge ⟨x.conf, false⟩ (Rec.get (x.rv o.vd) o.q.toNat) r.1
    let slot (r : Rec) : VPut := vput 128 o.q.toNat [r.n % 2 ^ 32 + 2 ^ 32 * (r.mean % 2 ^ 32) + 2 ^ 64 * (r.m2 % 2 ^ 32)]
    (n ≤ vcount t →
      exec (.vmom w o) s = .next (vecFp w s (atIssue w s) 5 o.vd (slot r.1) r.2)
      ∧ exec (.vmomA w o) s = .next (vecFp w s (atIssue w s) 5 o.vd (slot m.1) (r.2 ||| m.2)))
    ∧ (vcount t < n →
      exec (.vmom w o) s = .next (raises w s { code := 0x01, xtval := w.word.toNat })
      ∧ exec (.vmomA w o) s = .next (raises w s { code := 0x01, xtval := w.word.toNat })))
  ∧ (∀ (w : Who) (o : OpV) (s : State),
    let x := strandAt w s
    let mode : F32Mode := ⟨x.conf, false⟩
    let a (q : Nat) : Rec := Rec.get (x.rv o.va) q
    let merged := (List.range 8).map fun q => Rec.merge mode (a q) (Rec.get (x.rv o.vb) q)
    let join (p q : RecF) : RecF := ((Rec.merge mode p.1 q.1).1, (Rec.merge mode p.1 q.1).2 ||| p.2 ||| q.2)
    let one (q : Nat) : RecF := (a q, 0#6)
    let all := join (join (join (one 0) (one 1)) (join (one 2) (one 3))) (join (join (one 4) (one 5)) (join (one 6) (one 7)))
    (Issues w (vBare3 o) s → exec (.vmmrg w o) s = .next (vecFp w s (atIssue w s) 4 o.vd (vwhole (recPack merged)) (recFlags merged)))
    ∧ (Issues w (vBare2 o) s → exec (.vmred w o) s = .next (vecFp w s (atIssue w s) 4 o.vd (vwhole (recPack [(all.1, 0#6)])) all.2)
    ∧ (∃ v : VReg, exec (.vmvar w o) s = .next (vecFp w s (atIssue w s) 4 o.vd (vwhole v)
          (orFlags ((List.range 8).map fun q => varianceOf x.conf (a q))))
        ∧ ∀ i, i < 32 → elt 32 v.toNat i =
          if i % 4 = 3 then (varianceOf x.conf (a (i / 4))).1 % 2 ^ 32 else elt 32 (x.rv o.va).toNat i))))

/-- VCVT, VACT and VEPX (R103, R124): by element, each rounded once. -/
def Obligations.VectorConversions : Prop :=
  (∀ (w : Who) (o : OpVC) (s : State) (ts td : Fmt) (rm : Rm), Issues w {} s → Fmt.ofCode o.ts = some ts → Fmt.ofCode o.td = some td →
    Rm.ofField o.rm (strandAt w s).rm = some rm →
    let x := strandAt w s
    let n := min (vcount ts) (vcount td)
    let p := o.p.toNat
    let span (t : Fmt) : Nat := if t = .fp64 then 8 else vcount t
    let first (t u : Fmt) : Nat := if t = .fp64 then 8 * bit o.h else if vcount t = n ∧ vcount u ≠ n then 0 else p * n
    let draw := (atIssue w s).drawIf w.core (rm == .sr)
    let value (a : Nat) : Val × FpFlags := match ts.float?, ts.int? with
      | some f, _ => f.read x.conf a
      | none, some (sg, m) => (Val.ofInt (if sg then signed m a else a), 0#6)
      | none, none => (.fin false 0 0, 0#6)
    let l := (List.range n).map fun i =>
      let v := value (elt ts.width (x.rv o.va).toNat (first ts td + i))
      let q := convertElt td x.conf rm o.om (draw.1 (first td ts + i)) v.1
      (q.1, v.2 ||| q.2)
    (n ≠ 0 → (p + 1) * n ≤ max (span ts) (span td) →
      exec (.vcvt w o) s = .next (vecFp w s draw.2 2 o.vd (vput td.width (first td ts) (l.map (·.1))) (orFlags l)))
    ∧ (n = 0 ∨ max (span ts) (span td) < (p + 1) * n →
      exec (.vcvt w o) s = .next (raises w s { code := 0x01, xtval := w.word.toNat })))
  ∧ (∀ (w : Who) (o : OpV) (s : State), Issues w (vTyped3 o) s → Fmt.ofCode o.t = some .fp32 → o.vb.toNat < 8 →
    let x := strandAt w s
    let draw := (atIssue w s).drawIf w.core (x.rm == .sr)
    exec (.vact w o) s = .next (vecFpLanes w s draw.2 4 { o with h := false } .fp32 fun i =>
      let r := actEval (vget ((atIssue w s).core w.core).act o.vb.toNat) o.vb.toNat x.conf ⟨x.rm, draw.1 i⟩
        (FFmt.fp32.read x.conf (laneOf .fp32 false (x.rv o.va) i))
      ((FFmt.fp32.round x.conf .rne false 0 r.1).1, r.2)))
  ∧ (∀ (w : Who) (o : OpVE) (s : State) (td : Fmt) (rm : Rm), Issues w {} s → Fmt.ofCode o.td = some td →
    td ∈ [Fmt.bf16, .fp16, .fp32, .s8, .u8] → (o.p.toNat + 1) * 32 ≤ vcount td → Rm.ofField o.rm (strandAt w s).rm = some rm →
    let x := strandAt w s
    let draw := (atIssue w s).drawIf w.core (rm == .sr)
    let act := vget ((atIssue w s).core w.core).act (epiSlot x.epictl)
    let l := (List.range 32).map fun i =>
      let r := epiChain x.conf x.epictl (fun r => vget x.v r) act (if td = .fp32 then ⟨rm, draw.1 i⟩ else .rto) (32 * bit o.cb + i)
        (FFmt.fp32.read x.conf (laneOf .fp32 false (x.rv o.va) i))
      let q := if td = .fp32 then FFmt.fp32.round x.conf .rne false 0 r.1 else convertElt td x.conf rm o.om (draw.1 i) r.1
      (q.1, r.2 ||| q.2)
    exec (.vepx w o) s = .next (vecFp w s draw.2 4 o.vd (vput td.width (32 * o.p.toNat) (l.map (·.1))) (orFlags l)))

/-- VTLOAD, VEPC, VFCTL.R, VFCTL.W, VFFLAG, VFFLAG.C, VRSEED, VRCTR and VRGET (R111, R113, R118, R119, R129, R189): the registers of the
unit, each read or written whole. A VOP instruction with T, H or a register field set that it does not use (R142), or one that R152 or R155
does not allow where it stands, is an illegal instruction. -/
def Obligations.VectorControl : Prop :=
  ∀ (w : Who) (o : OpV) (s : State),
    let x := strandAt w s
    let counted := (atIssue w s).vecInsn w.core
    let mine (f : Strand → Strand) : State := passed w 4 s (counted.modStrand w.core w.strand f)
    let pair : W64 := (x.rg o.vb) ++ (x.rg o.va)
    let halves (v : W64) (y : Strand) : Strand :=
      (y.later (slotOf w s + 7) (.g o.vd (v.setWidth 32))).later (slotOf w s + 7) (.g o.vb ((v >>> 32).setWidth 32))
    (Issues w (vBare2 o) s → ∀ (d : Nat) (t : State), o.vd.toNat < 8 → o.va.toNat < 8 →
      let off := (x.ra (o.va.setWidth 3)).toNat
      off % 32 = 0 → (atIssue w s).storeFault w.core .as off 1056 = none → (atIssue w s).readStore w.core .as off 1056 w.ecc = (d, t) →
      exec (.vtload w o) s = .next (passed w 4 s ((t.vecInsn w.core).modCore w.core fun c =>
        { c with act := vset c.act o.vd.toNat ⟨some (BitVec.ofNat 8448 d)⟩ })))
    ∧ (Issues w (vFromG o) s →
      exec (.vepc w o) s = .next (mine fun y => y.later (slotOf w s + 3) (.epi ((y.rg o.va).setWidth 18)))
      ∧ exec (.vfctlW w o) s = .next (mine fun y => { y with shadow := y.shadow ++ [⟨4, .fp ((y.rg o.va).setWidth 3)⟩] }))
    ∧ (Issues w (vFromPair o) s →
      exec (.vrseed w o) s = .next (passed w 4 s (counted.modCore w.core (Core.genLater (slotOf w s) true pair)))
      ∧ exec (.vrctr w o) s = .next (passed w 4 s (counted.modCore w.core (Core.genLater (slotOf w s) false pair))))
    ∧ (Issues w (vToG o) s →
      exec (.vfctlR w o) s = .next (mine fun y => y.putG (slotOf w s) o.vd ((y.fpctl &&& 0x37#6).setWidth 32))
      ∧ exec (.vfflag w o) s = .next (mine fun y => y.putG (slotOf w s) o.vd (y.fpflags.setWidth 32)))
    ∧ (Issues w (vClearG o) s →
      exec (.vfflagC w o) s = .next (mine fun y =>
        let z := y.putG (slotOf w s) o.vd (y.fpflags.setWidth 32)
        { z with fpflags := z.fpflags &&& ~~~ ((y.rg o.vb).setWidth 6) }))
    ∧ (Issues w (vToPair o) s →
      exec (.vrgetS w o) s = .next (mine (halves (counted.core w.core).seed))
      ∧ exec (.vrgetC w o) s = .next (mine (halves (counted.core w.core).ctr)))
    ∧ (∀ p ∈ [(Instr.vadd w o, vTyped3 o), (.vsub w o, vTyped3 o), (.vmul w o, vTyped3 o), (.vfma w o, vTyped3 o), (.vfms w o, vTyped3 o),
        (.vneg w o, vTyped2 o), (.vabs w o, vTyped2 o), (.vmin w o, vTyped3 o), (.vmax w o, vTyped3 o), (.vrcpe w o, vTyped2 o),
        (.vrsqe w o, vTyped2 o), (.vcmpEq w o, vTyped3 o), (.vcmpNe w o, vTyped3 o), (.vcmpLt w o, vTyped3 o), (.vcmpLe w o, vTyped3 o),
        (.vcmpUn w o, vTyped3 o), (.vsel w o, vBare3 o), (.viadd w o, vTyped3 o), (.visub w o, vTyped3 o), (.viadds w o, vTyped3 o),
        (.visubs w o, vTyped3 o), (.vimul w o, vTyped3 o), (.vimin w o, vTyped3 o), (.vimax w o, vTyped3 o), (.vand w o, vTyped3 o),
        (.vor w o, vTyped3 o), (.vxor w o, vTyped3 o), (.vshl w o, vTyped3 o), (.vshrl w o, vTyped3 o), (.vshra w o, vTyped3 o),
        (.vmov w o, vBare2 o), (.vbcast w o, vTyped2 o), (.vdup w o, vTyped3 o), (.vperm w o, vBare3 o), (.vslide w o, vBare3 o),
        (.vmovg w o, vMovG o), (.vrsum w o, vTyped2 o), (.vrmax w o, vTyped2 o), (.vrmin w o, vTyped2 o), (.vrssq w o, vTyped2 o),
        (.vrssqA w o, vTyped2 o), (.vmmrg w o, vBare3 o), (.vmred w o, vBare2 o), (.vmvar w o, vBare2 o), (.vact w o, vTyped3 o),
        (.vtload w o, vBare2 o), (.vepc w o, vFromG o), (.vfctlR w o, vToG o), (.vfctlW w o, vFromG o), (.vfflag w o, vToG o),
        (.vfflagC w o, vClearG o), (.vrseed w o, vFromPair o), (.vrctr w o, vFromPair o), (.vrgetS w o, vToPair o), (.vrgetC w o, vToPair o)],
      Barred w p.2 s → exec p.1 s = .next (raises w s { code := 0x01, xtval := w.word.toNat }))

/-! ### Matrix unit (spec/03) -/

/-- MMA, MMA.G, MDRAIN and MDRAIN.G (R67, R75, R78, R80, R87 to R90): a legal shape whose memory is there joins the unit's queue; an illegal
one is recorded and raises cause 0x03; a third instruction of a strand waits. -/
def Obligations.MatrixInstructionsJoinTheQueue : Prop :=
  ∀ (w : Who) (g : Bool) (s : State), Issues w { len := 8 } s → isSteward w.core = false → (g = true → w.strand = 0) →
    let r := atIssue w s
    let x := strandAt w s
    let full : State := r.setRun w.core w.strand (.waiting .matrixLimit) (some (slotOf w s, .matrix))
    let shape (op reason : Nat) : State :=
      ((r.setRf (Reg.CORE_MX_SHAPE w.core w.strand) Reg.CORE_MX_SHAPE.REASON reason).setRf (Reg.CORE_MX_SHAPE w.core w.strand)
        Reg.CORE_MX_SHAPE.OP op).syncCause w.core w.strand (slotOf w s) { code := 0x03, xtval := w.word.toNat, sub := reason }
    (∀ o : OpMma,
      let i : Instr := if g then .mmaG w o else .mma w o
      (2 ≤ x.matrix → exec i s = .next full)
      ∧ (x.matrix < 2 → ∀ reason, mmaShape (r.core w.core) g w.strand o = some reason → exec i s = .next (shape 0 reason))
      ∧ (x.matrix < 2 → mmaShape (r.core w.core) g w.strand o = none → r.mxRefused w.core (mmaTaken w s g o).ranges = none →
        exec i s = .next (joined w s (.mma (mmaTaken w s g o)))))
    ∧ (∀ (o : OpDrain) (rm : Rm), Rm.ofField o.rm x.rm = some rm →
      let i : Instr := if g then .mdrainG w o else .mdrain w o
      (2 ≤ x.matrix → exec i s = .next full)
      ∧ (x.matrix < 2 → ∀ reason, drainShape (r.core w.core) g w.strand o = some reason → exec i s = .next (shape 1 reason))
      ∧ (x.matrix < 2 → drainShape (r.core w.core) g w.strand o = none → r.mxRefused w.core (drainTaken w s g o rm).ranges = none →
        exec i s = .next (joined w s (.drain (drainTaken w s g o rm)))))

/-- RUN_TRANSFER and MATRIX_COMPLETE (R73, R75, R90, R113, R149): the run at the head of the queue ends; a finished instruction at the head
leaves the queue, its flags join its strands' and its strand's matrix counter falls. -/
def Obligations.MatrixQueueAdvances : Prop :=
  ∀ (k : Nat) (s : State),
    (∀ (r : MmaRun) (l : List MxRun), (s.core k).mx = .mma r :: l → r.step < mmaSteps r.o →
      let n := min (8 * 2 ^ r.o.run.toNat) (mmaSteps r.o - r.step)
      ∃ r' t, s.mmaRun k r = (r', t) ∧ r'.step = r.step + n ∧ r'.o = r.o
        ∧ exec (.runTransfer k) s = .next (t.modCore k fun c => { c with mx := c.mx.set 0 (.mma r') }))
    ∧ (∀ (r : MxRun) (l : List MxRun), (s.core k).mx = r :: l → r.worked = true →
      let t := r.base.flags.foldl (fun s e => s.mxFlags k r.base e) (s.modCore k fun c => { c with mx := l })
      exec (.matrixComplete k) s =
        .next ((t.modStrand k r.base.strand fun x => { x with matrix := x.matrix - 1 }).releaseMatrix k r.base.strand))

/-- An integer run adds exactly (R48), and its promotion into a PS total is modulo 2^64 (R51); INIT starts from zero (R75). -/
def Obligations.IntegerRunsAreExact : Prop :=
  ∀ (a b : Fmt), a.int?.isSome = true → b.int?.isSome = true →
    (∀ xs ys : List Int, cellRun a b (xs.map Val.ofInt) (ys.map Val.ofInt) = (Val.ofInt (List.zipWith (· * ·) xs ys).sum, 0#6))
    ∧ (∀ (old : Nat) (init : Bool) (vs : List Int) (j : Nat) (v : Int), vs[j]? = some v →
      let p := promoteRow true init old (vs.map Val.ofInt)
      p.2 = 0#6 ∧ elt 64 p.1 j = ((v + if init then 0 else (elt 64 old j : Int)) % 18446744073709551616).toNat)

/-- TLOAD, TSTORE and TILE_ROW (R84 to R86): rows issue one a slot from TSTART; the last one ends the instruction. -/
def Obligations.TileRowsIssueOneByOne : Prop :=
  (∀ (w : Who) (store : Bool) (o : OpTile) (s : State), Issues w { len := 8 } s → isSteward w.core = false → (o.g = true → w.strand = 0) →
    tileBad o = false → (strandAt w s).lcnt < 8 →
      let x := strandAt w s
      let i : Instr := if store then .tstore w o else .tload w o
      (o.rows.toNat < x.tstart.toNat → exec i s = .next (passed w 8 s ((atIssue w s).modStrand w.core w.strand fun y => { y with tstart := 0 })))
      ∧ (∀ t : State, x.tstart.toNat ≤ o.rows.toNat → rowIssue (tileRunOf w s store o) (envOf w s) (tileStarted w s store o) = .issued t →
        exec i s = .next (if x.tstart.toNat = o.rows.toNat then passed w 8 s (t.afterRow w.core w.strand true)
          else (t.afterRow w.core w.strand false).issued w.core w.strand (slotOf w s))))
  ∧ (∀ (w : Who) (r : TileRun) (s t : State), whoOk w = true → (s.strand w.core w.strand).run = .running →
    (s.strand w.core w.strand).tile = some r → ((strandAt w s).haltReq && (strandAt w s).boundary) = false →
    (atIssue w s).tryDeferrable w.core w.strand (slotOf w s) = none → rowIssue r (envOf w s) (atIssue w s) = .issued t →
      let last := (strandAt w s).tstart.toNat == r.o.rows.toNat
      exec (.tileRow w) s = .next ((t.afterRow w.core w.strand last).modStrand w.core w.strand fun y =>
        { (if last then y.stepPast 8 else y) with nextSlot := slotOf w s + 4 }))

/-- CUSTOM and MICRO_OP (R191, R193, R194): the entry is read, and each micro-op issues in a slot of its own as the instruction that its
word spells; an unprogrammed entry is illegal, and one without UMODE is privileged in user mode. -/
def Obligations.CustomRunsItsMicroOps : Prop :=
  (∀ (w : Who) (o : OpCustom) (s : State), Issues w { noDelay := true } s → isSteward w.core = false →
    let r := atIssue w s
    let u := clusterOf w.core
    let a := Reg.CLU_UC_DEC u o.sel.toNat
    let m : MicroRun := ⟨o.sel.toNat, r.rbit a Reg.CLU_UC_DEC.EPOCH, r.rf a Reg.CLU_UC_DEC.START, 0, r.rf a Reg.CLU_UC_DEC.LEN, o⟩
    (r.rbit a Reg.CLU_UC_DEC.VALID = false → exec (.custom w o) s = .next (raises w s { code := 0x01, xtval := w.word.toNat }))
    ∧ (r.rbit a Reg.CLU_UC_DEC.VALID = true → r.rbit a Reg.CLU_UC_DEC.UMODE = false → (strandAt w s).priv = 0 →
      exec (.custom w o) s = .next (raises w s { code := 0x02, xtval := w.word.toNat }))
    ∧ (r.rbit a Reg.CLU_UC_DEC.VALID = true → (r.rbit a Reg.CLU_UC_DEC.UMODE = true ∨ (strandAt w s).priv ≠ 0) →
      exec (.custom w o) s = .next ((r.modStrand w.core w.strand fun x => { x with micro := some m }).microIssue w.core w.strand
        (slotOf w s) w)))
  ∧ (∀ (w : Who) (m : MicroRun) (s : State), whoOk w = true → (s.strand w.core w.strand).run = .running →
    (s.strand w.core w.strand).micro = some m → (strandAt w s).micro = some m →
      let r := atIssue w s
      let u := clusterOf w.core
      let pa := r.reg (Reg.CLU_UC_OPA u (m.start + m.next))
      let pb := r.reg (Reg.CLU_UC_OPB u (m.start + m.next))
      let word := substitute (pa.setWidth 32) (pb.setWidth 32) m.o
      let e : Env := ⟨w.core, w.strand, slotOf w s, word.toNat, w.ecc⟩
      m.start + m.len ≤ 255 → fld pb 63 7 = 0 → ∀ (i : Instr) (info : Info) (body : Env → State → Res),
        decodeMicro word (BitVec.ofNat 32 (fld pa 63 32)) { w with word := word, rsvd := false } = some i → bodyOf i = some (info, body) →
        (strandAt w s).forbids { info with noLast := false } { w with rsvd := false } = false →
        exec (.microOp w) s = .next (r.settle e 4 (body e r)))

/-! ### Completion and events in a core (spec/05 to spec/07) -/

/-- LOAD_COMPLETE, LINE_FILL, STORE_QUEUE_SEND (R146 to R148, R213 to R215, R281): data that is here is written and the counts fall in issue
order; a line goes to the loads that wait for it and into the cache; the oldest store leaves as its destination says. -/
def Obligations.MemoryDataArrives : Prop :=
  (∀ (k i n d : Nat) (p : Part) (l : Load) (s : State), (s.strand k i).loads[n]? = some l → l.parts = [p] → p.st = .ready d →
    exec (.loadComplete k i n) s = .next (((s.writeDst k i p.size p.dst d).modStrand k i fun x =>
      Strand.dropLoads { x with loads := x.loads.set n { l with parts := [{ p with st := .written }] } }).releaseLoads k i))
  ∧ (∀ (k n : Nat) (f : Fetch) (d : VReg) (s : State),
    ((s.core k).fetches.find? fun g => g.line == n && (g.data.isSome || g.failed)) = some f → f.data = some d → f.failed = false →
    f.demand = true → f.keep = true →
      let with_ (m : Nat) : VReg := (f.merges.take m).foldl lineMerge d
      exec (.lineFill k n) s = .next ((((s.modCore k fun c =>
        Core.mapParts { c with fetches := c.fetches.filter (·.tag != f.tag) } fun p => match p.st with
          | .fetching t m => if t = f.tag then { p with st := .ready (lineBits (with_ m) (p.pa % 128) p.size) } else p
          | _ => p).modCore k fun c =>
            { c with l1 := cacheAlloc 3 c.l1 ⟨n, with_ f.merges.length⟩, side := c.side.filter (·.line != n) }).pump k)))
  ∧ (∀ (k : Nat) (x : StoreEnt) (l : List StoreEnt) (s : State), (s.core k).storeq = x :: l → (s.core k).mayLeave x = true →
    let t := s.modCore k fun c => { c with storeq := l }
    (∀ pa key, x.dst = .mem pa key → exec (.storeQueueSend k) s =
      .next (((t.modCore k fun c => { c with unacked := c.unacked ++ [x] }).coreRequest k .wr pa x.tag 0 key x.bytes).releaseStores k))
    ∧ (∀ a, x.dst = .reg a → exec (.storeQueueSend k) s =
      .next ((t.regStore (agentOf k) a (BitVec.ofNat 64 (ofBytes x.bytes))).releaseStores k))
    ∧ (∀ c v, x.dst = .sig c v → ownCounter k c = true → exec (.storeQueueSend k) s = .next ((t.ctrAdd c v.toInt).2.releaseStores k)))

/-- INSTRUCTION_FILL and PAGE_WALK_END (R219, R220, R225 to R234): a fetched line joins the instruction cache; a walk installs its leaf for
the accesses that it allows and fails the others, or goes to the firmware's queue. -/
def Obligations.WalksAndFetchesEnd : Prop :=
  (∀ (w : Who) (va : W48) (s t u : State) (pa : Nat) (nc : Bool) (key : Option Nat) (b : List Byte), whoOk w = true →
    (s.strand w.core w.strand).run = .running → va = (s.strand w.core w.strand).pc → inWindow va = false →
    (s.modCore w.core (Core.advance (slotOf w s))).xlateFor w.core w.strand .fetch va.toNat = (.ok pa nc key, t) →
    cacheFind 2 (t.core w.core).icache (pa / 128) = none →
    (t.bump (Reg.CORE_IC_MISSES w.core) Reg.CORE_IC_MISSES.MISSES 1).physRead (pa / 128 * 128) 128 key = (.inr b, u) →
      exec (.instructionFill w va) s = .next ((u.modCore w.core fun c =>
        { c with icache := cacheAlloc 2 c.icache ⟨pa / 128, BitVec.ofNat 1024 (ofBytes b)⟩ }).modStrand w.core w.strand fun y =>
          { y with run := .running }))
  ∧ (∀ (u n : Nat) (x : Walk) (s t : State), n < 16 → (s.cluster u).walks[n]? = some x → (s.cluster u).walks.length ≤ 16 →
    let gone (s : State) : State := s.modCluster u fun c => { c with walks := c.walks.eraseIdx n }
    (x.stale = true → exec (.pageWalkEnd u n) s = .next (x.who.foldl (fun s y => s.walkAgain u y) (gone s)))
    ∧ (x.stale = false → s.walk u (x.page * 65536) = (.fault, t) → (t.cluster u).walks = (s.cluster u).walks →
      exec (.pageWalkEnd u n) s = .next (x.who.foldl (fun s y => s.walkFails u y) (gone t)))
    ∧ (x.stale = false → s.walk u (x.page * 65536) = (.firmware, t) → (t.cluster u).walks = (s.cluster u).walks →
      (s.cluster u).fq.all (·.page != x.page) = true → (s.cluster u).fq.length < 64 →
      exec (.pageWalkEnd u n) s =
        .next (((gone t).modCluster u fun c => { c with fq := c.fq ++ [⟨x.page, x.who⟩] }).note (.translation u))))

/-- EXCEPTION_ENTRY, REST_STOP_ENTRY, TIMER_INTERRUPT, XIRQ_SET, RESUME_GO and VFP_CTL_WRITE (R111, R168, R170, R171, R185, R187, R189). -/
def Obligations.CausesHaltsAndResumes : Prop :=
  (∀ (w : Who) (s t : State), whoOk w = true → s.heldByPause w.core w.strand = false → (strandAt w s).run = .running →
    ((atIssue w s).tryDeferrable w.core w.strand (slotOf w s) = some t → exec (.exceptionEntry w) s = .next t)
    ∧ ((strandAt w s).haltReq = true → (strandAt w s).boundary = true →
      exec (.restStopEntry w) s = .next ((atIssue w s).enterRest w.core w.strand 2 0 0 (strandAt w s).pc)))
  ∧ (∀ (k i c : Nat) (s : State),
    ((s.strand k i).timecmp.toNat ≤ c → exec (.timerInterrupt k i c) s = .next (s.modCore k (Core.advance c)))
    ∧ exec (.xirqSet k i) s = .next (s.modStrand k i fun x => { x with mbox := true })
    ∧ (∀ (usepc : Bool) (pc : W48), (s.strand k i).run = .restStop → i < 4 → s.wf = true →
      ∃ t, exec (.resumeGo k i usepc pc) s = .next t ∧ (t.strand k i).run = .running
        ∧ (t.strand k i).pc = (if usepc then pc else BitVec.ofNat 48 (s.rf (Reg.CORE_RSTOP k i) Reg.CORE_RSTOP.PC))
        ∧ t.rf (Reg.CORE_RSTOP k i) Reg.CORE_RSTOP.REASON = 0)
    ∧ (∀ v : W64,
      ((s.strand k i).run = .off → exec (.vfpCtlWrite k i v) s = .next (s.modStrand k i fun x => x.applyMode (.fp (v.setWidth 3))))
      ∧ ((s.strand k i).run ≠ .off →
        exec (.vfpCtlWrite k i v) s = .next (s.modStrand k i fun x => { x with shadow := x.shadow ++ [⟨3, .fp (v.setWidth 3)⟩] }))))

/-- What taking a cause leaves in the strand (Table 6-3, R165, R176, R177): the saved registers, the handler's level and address. -/
def Obligations.TakingACause : Prop :=
  ∀ (x : Strand) (k t : Nat) (xpc : W48) (ds p : Bool) (c : Cause), x.shadow = [] → x.tile = none → x.loads = [] → c.code < 32 → c.xtval < 2 ^ 48 →
    let y := x.enter k t xpc ds p c
    y.xpc = xpc &&& ~~~ 3#48
    ∧ fld y.xstatus 6 0 = fld x.status 6 0 ∧ tb y.xstatus 8 = x.flags.z ∧ tb y.xstatus 9 = x.flags.n ∧ tb y.xstatus 10 = x.flags.c
    ∧ tb y.xstatus 11 = x.flags.v
    ∧ fld y.xcause 4 0 = c.code ∧ tb y.xcause 5 = ds ∧ tb y.xcause 6 = p ∧ y.xtval.toNat = c.xtval
    ∧ y.mask = true ∧ y.priv = (if isSteward k then 3 else 1) ∧ y.precise = x.precise ∧ y.rm = x.rm
    ∧ y.xl0 = x.l0 ∧ y.xl1 = x.l1 ∧ y.l0.count = 0 ∧ y.l1.count = 0 ∧ y.xtstart = x.tstart ∧ y.tstart = 0
    ∧ y.pc = x.xvec ∧ y.run = .running ∧ y.delay = none ∧ y.nextSlot = t + 8
    ∧ y.g = x.g ∧ y.a = x.a ∧ y.v = x.v ∧ y.f = x.f ∧ y.flags = x.flags

/-- Banks (R205 to R207, R286): an enable starts a bank that is Off, a disable of a bank that is On or Starting is carried out once it is On and
nothing holds it, PENDING_ON turns Stopping into Starting again, and Starting ends with the bank full of zeros and On. -/
def Obligations.BankPower : Prop :=
  ∀ (b : BankId) (s : State), bankThere b = true →
    (s.bankState b = .off → exec (.bankEnable b) s = .next ((s.setBankEnable b true).setBankState b .starting))
    ∧ (s.bankState b = .stopping → exec (.bankEnable b) s = .next ((s.setBankEnable b true).setBankPending b true))
    ∧ (s.bankState b = .on ∨ s.bankState b = .starting → exec (.bankDisable b) s =
      .next { s.setBankEnable b false with stops := s.stops.filter (· != b) ++ [b] })
    ∧ (s.bankState b = .stopping → exec (.bankDisable b) s = .next ((s.setBankEnable b false).setBankPending b false))
    ∧ (s.bankState b = .on → b ∈ s.stops → s.bankHeld b = false →
      exec (.bankStopping b) s = .next { s.setBankState b .stopping with stops := s.stops.filter (· != b) })
    ∧ (s.bankState b = .stopping → s.bankPending b = true →
      exec (.bankOff b) s = .next ((s.setBankPending b false).setBankState b .starting))
    ∧ (s.bankState b = .stopping → s.bankPending b = false → exec (.bankOff b) s = .next (s.setBankState b .off))
    ∧ (s.bankState b = .starting → s.wf = true →
      ∃ t, exec (.bankOn b) s = .next t ∧ t.bankState b = .on ∧ t.stops = s.stops ∧ t.regs = (s.setBankState b .on).regs
        ∧ ∀ a, t.byte a = if (bankRange b).1 ≤ a ∧ a < (bankRange b).1 + (bankRange b).2 then 0 else s.byte a)

/-- Caches, microcode entries, the MMU and counter registers (R196, R218, R221, R233, R234, R298, R300). -/
def Obligations.InvalidationsAndFaultQueue : Prop :=
  (∀ (k : Nat) (s : State), s.wf = true → ∃ t, exec (.dinv k) s = .next t ∧ (t.core k).l1 = [] ∧ (t.core k).side = [] ∧ t.mem = s.mem)
  ∧ (∀ (k : Nat) (s : State), exec (.iinv k) s = .next (s.modCore k fun c => { c with icache := [] }))
  ∧ (∀ (u e : Nat) (v : W64) (s : State), u < 12 → e < 16 → s.wf = true →
    let r := Reg.CLU_UC_DEC u e
    ∃ t, exec (.ucDecWrite u e v) s = .next t ∧ t.rf r Reg.CLU_UC_DEC.VALID = fld v 0 0 ∧ t.rf r Reg.CLU_UC_DEC.UMODE = fld v 1 1
      ∧ t.rf r Reg.CLU_UC_DEC.START = fld v 9 2 ∧ t.rf r Reg.CLU_UC_DEC.LEN = fld v 14 10
      ∧ t.rf r Reg.CLU_UC_DEC.EPOCH = 1 - s.rf r Reg.CLU_UC_DEC.EPOCH)
  ∧ (∀ (u : Nat) (x : Option W48) (s : State), u < 12 → s.wf = true → (s.cluster u).inv = none →
    let i : Instr := match x with | none => .mmuInvAll u | some va => .mmuInvVa u va
    let sc : InvScope := x.map (·.toNat)
    ∃ t, exec i s = .next t ∧ (t.cluster u).inv.isSome = true
      ∧ (t.cluster u).stlb = (s.cluster u).stlb.filter (fun e => !e.named sc)
      ∧ (t.cluster u).nonleaf = (s.cluster u).nonleaf.filter (fun e => !e.named sc)
      ∧ (∀ y ∈ (t.cluster u).walks, y.stale = true)
      ∧ ∀ k, k / 40 = u → (t.core k).dtlb = (s.core k).dtlb.filter (fun e => !e.named sc)
        ∧ (t.core k).itlb = (s.core k).itlb.filter (fun e => !e.named sc))
  ∧ (∀ (u b : Nat) (l : List (Nat × Nat)) (s : State), (s.cluster u).inv = some (b, l) → (s.cluster u).walks.any (·.stale) = false →
    (s.cluster u).bursts.any (·.accessOpen b l) = false → (clusterCores u).any (fun k => (s.core k).accessOpen b l) = false →
      exec (.invalidationDone u) s = .next (s.modCluster u fun c => { c with inv := none }))
  ∧ (∀ (u : Nat) (q : FqEnt) (l : List FqEnt) (s : State), (s.cluster u).fq = q :: l →
    let t := s.modCluster u fun c => { c with fq := l }
    exec (.fqRetry u) s = .next (q.who.foldl (fun s w => s.walkAgain u w) t)
    ∧ exec (.fqReject u) s = .next (q.who.foldl (fun s w => s.walkFails u w) t))
  ∧ (∀ (n : Nat) (v : W32) (c : CounterId) (s : State), counterOfNum n = some c → (∀ k i, c = .core k i → s.coreLive k = true) →
    exec (.synValWrite n v) s = .next (s.ctrAssign c v.toNat).2)
  ∧ (∀ (g : Nat) (h : BitVec 4) (s : State), g < 12 →
    exec (.shomeWrite g h) s = .next (s.setRf (Reg.SYN_SHOME g) Reg.SYN_SHOME.HUB h.toNat))

/-! ### DMA engine (spec/09) -/

/-- Channels and descriptors (R286, R288 to R290, R294): the power states of a channel, GO, and the reading of a descriptor: one that is not
VALID ends the chain, a malformed one fails with code 0x08, a legal one starts. -/
def Obligations.DmaChannelsAndDescriptors : Prop :=
  ∀ (u n : Nat) (s : State), u < 12 → n < 64 →
    let cfg (v : Nat) : State := s.setRf (Reg.DMA_CH_CFG u n) Reg.DMA_CH_CFG.EN v
    (s.chanState u n = .off → exec (.channelEnable u n) s = .next ((cfg 1).setChanState u n .starting))
    ∧ (s.chanState u n = .stopping → exec (.channelEnable u n) s = .next ((cfg 1).setChanPending u n true))
    ∧ (s.chanState u n = .on → exec (.channelDisable u n) s = .next ((cfg 0).setChanState u n .stopping))
    ∧ (s.chanState u n = .stopping → exec (.channelDisable u n) s = .next ((cfg 0).setChanPending u n false))
    ∧ (s.chanState u n = .starting → ((s.cluster u).chan n).stop = false →
      exec (.channelOn u n) s = .next ((s.modChan u n fun _ => {}).setChanState u n .on))
    ∧ (s.chanState u n = .stopping → (s.cluster u).bursts.any (·.chan == n) = false → ((s.cluster u).chan n).runs = [] →
      let idle := (s.modChan u n fun _ => {}).settleBusy u n
      (idle.rbit (Reg.DMA_CH_STAT u n) Reg.DMA_CH_STAT.PENDING_ON = true →
        exec (.channelOff u n) s = .next ((idle.setChanPending u n false).setChanState u n .starting))
      ∧ (idle.rbit (Reg.DMA_CH_STAT u n) Reg.DMA_CH_STAT.PENDING_ON = false → exec (.channelOff u n) s = .next (idle.setChanState u n .off)))
    ∧ (∀ head : BitVec 20,
      let h := s.setRf (Reg.DMA_CH_HEAD u n) Reg.DMA_CH_HEAD.HEAD head.toNat
      (h.chanState u n = .on → h.rbit (Reg.DMA_CH_STAT u n) Reg.DMA_CH_STAT.BUSY = false →
        exec (.dmaGo u n head) s = .next ((h.modChan u n fun c => { c with next := some (head.toNat * 64) }).settleBusy u n))
      ∧ ((h.chanState u n ≠ .on ∨ h.rbit (Reg.DMA_CH_STAT u n) Reg.DMA_CH_STAT.BUSY = true) → exec (.dmaGo u n head) s = .next h))
    ∧ (∀ (off : Nat) (b : List Byte) (t : State), s.chanState u n = .on → ((s.cluster u).chan n).next = some off →
      (∀ r, ((s.cluster u).chan n).runs.getLast? = some r → r.bad = none ∧ r.d.total ≤ r.issued) → off < 0x3000000 →
      t = (s.physRead (clmAddr u off) 64 none).2 → (s.physRead (clmAddr u off) 64 none).1 = .inr b →
        let d := Desc.ofBytes b
        let next := if d.isEnd then none else some d.next
        (d.valid = false → exec (.descriptorRead u n) s = .next ((t.modChan u n fun c => { c with next := none }).settleBusy u n))
        ∧ (d.valid = true → d.malformed = true →
          exec (.descriptorRead u n) s = .next (t.newTag.2.modChan u n fun c =>
            { c with next := next, runs := c.runs ++ [{ id := t.newTag.1, off := off, d := d, bad := some 0x08 }] }))
        ∧ (d.valid = true → d.malformed = false → (d.fence = true → ((s.cluster u).chan n).runs = []) →
          exec (.descriptorRead u n) s = .next ((t.newTag.2.modChan u n fun c =>
            { c with next := next, runs := c.runs ++ [{ id := t.newTag.1, off := off, d := d }] }).setRf (Reg.DMA_CH_STAT u n)
              Reg.DMA_CH_STAT.CUR (off / 64))))

/-- A descriptor's bursts (R288, R291): no burst crosses the end of a source line, of a destination line or a 512-byte block of either address,
and every burst moves at least one byte; the lines are placed by their strides. -/
def Obligations.DmaBurstsStayInTheirLines : Prop :=
  ∀ (d : Desc) (pos : Nat), d.malformed = false → pos < d.total →
    let n := d.burstLen pos
    1 ≤ n ∧ n ≤ 512 ∧ pos % d.sline + n ≤ d.sline ∧ pos % d.dline + n ≤ d.dline ∧ d.srcAt pos % 512 + n ≤ 512 ∧ d.dstAt pos % 512 + n ≤ 512
    ∧ pos + n ≤ d.total ∧ d.total = d.dline * d.dcount
    ∧ (d.srcAt pos : Int) =
        ((fld d.src 47 0 : Int) + (pos / d.sline : Nat) * signed 32 (fld d.sl 63 32) + (pos % d.sline : Nat)) % (2 ^ 48 : Nat)
    ∧ (d.dstAt pos : Int) =
        ((fld d.dst 47 0 : Int) + (pos / d.dline : Nat) * signed 32 (fld d.dl 63 32) + (pos % d.dline : Nat)) % (2 ^ 48 : Nat)

/-- BURST_START, BURST_COMPLETE, DESCRIPTOR_BAD and CHK_INIT (R290 to R293, R296, R297): at most eight bursts start in a cycle, by priority;
an answered burst is counted and its bytes are absorbed, or fails its descriptor; a failed descriptor is written back; a check unit takes
its algorithm's initial state. -/
def Obligations.DmaBurstsAndCheckUnits : Prop :=
  ∀ (u : Nat) (s : State), u < 12 →
    (s.net.paused.contains u = false →
      exec (.burstStart u) s = .next ([7, 6, 5, 4, 3, 2, 1, 0].foldl (fun (a : Nat × State) p => startPrio u p (a.2.prioOrder u p) a.1 a.2) (8, s)).2
      ∧ (∀ t, s.wf = true → exec (.burstStart u) s = .next t → (t.cluster u).bursts.length ≤ (s.cluster u).bursts.length + 8))
    ∧ (∀ (j code : Nat) (x : Burst), (s.cluster u).bursts[j]? = some x → x.st = .answered (some code) →
      exec (.burstComplete u j) s = .next ((s.modCluster u fun c => { c with bursts := c.bursts.eraseIdx j }).modChan u x.chan fun c =>
        c.mapRun x.run fun r => { r with bad := some (r.bad.getD code) }))
    ∧ (∀ (j : Nat) (x : Burst), (s.cluster u).bursts[j]? = some x → x.st = .answered none →
      let t := (s.modCluster u fun c => { c with bursts := c.bursts.eraseIdx j }).bump (Reg.DMA_BYTES u) Reg.DMA_BYTES.BYTES x.len
      exec (.burstComplete u j) s = .next ((t.modChan u x.chan fun c => c.mapRun x.run fun r =>
        { r with done := r.done ++ [(x.pos, x.len)], held := r.held ++ [(x.pos, x.bytes)] }).settleChan u x.chan))
    ∧ (∀ (n code : Nat) (r : DescRun) (l : List DescRun), ((s.cluster u).chan n).runs = r :: l → r.bad = some code →
      (s.cluster u).bursts.any (fun b => b.chan == n && b.run == r.id) = false →
      exec (.descriptorBad u n) s = .next (s.writeBack u n r code))
    ∧ (∀ k : Nat, k < 4 →
      exec (.chkInit u k) s = .next (s.setRf (Reg.CHK_STATE u k) Reg.CHK_STATE.STATE (match s.rf (Reg.CHK_CFG u k) Reg.CHK_CFG.ALG with
        | 0 => 0xFFFFFFFF | 1 => 0xFFFFFFFF | 2 => 0 | _ => 0xFFFF)))

/-! ### External memory (spec/10) -/

/-- Patrol, scrub and mover (R311, R323, R326, R328, R329). -/
def Obligations.ScrubsMovesAndPatrol : Prop :=
  (∀ (m : ExtMem) (ecc : Ecc) (s : State), s.extLive m = true →
    let t := s.extEcc m ecc 0 ((s.pagesOf m).2 * pageBytes) true
    exec (.patrolPass m ecc) s = .next (match m with
      | .hbm n => t.bump (Reg.HBM_PATROL n) Reg.HBM_PATROL.PASSES 1
      | .ddr n => t.bump (Reg.DDR_PATROL n) Reg.DDR_PATROL.PASSES 1))
  ∧ (∀ (n first count : Nat) (s : State),
    let job (m : ExtMem) : ExtState := { s.ext with scrubs := s.ext.scrubs ++ [⟨s.net.tags, m, first, count⟩] }
    let given (m : ExtMem) : State := { s with net := { s.net with tags := s.net.tags + 1 }, ext := job m }
    (n < 24 → s.scrubBusy (.hbm n) = false →
      exec (.hbmScrubGo n first count) s = .next (((given (.hbm n)).setScrub (.hbm n) first count true).setScrubDone (.hbm n) 0))
    ∧ (n < 12 → s.scrubBusy (.ddr n) = false → first + count ≤ 8388608 →
      exec (.ddrScrubGo n first count) s = .next (((given (.ddr n)).setScrub (.ddr n) first count true).setScrubDone (.ddr n) 0))
    ∧ (n < 12 → s.scrubBusy (.ddr n) = false → 8388608 < first + count →
      exec (.ddrScrubGo n first count) s = .next ((s.setScrub (.ddr n) first count false).setRf (Reg.DDR_SCR_A n) Reg.DDR_SCR_A.ERR 1)))
  ∧ (∀ (m : ExtMem) (s : State),
    (s.scrubEnd m = none → exec (.scrubComplete m) s = .next s)
    ∧ (∀ (id : Nat) (t : State), s.scrubEnd m = some (id, t) → (∀ e ∈ t.ext.owned, e.2 ≠ 65536 + id) → t.parts = [] → t.host.pending = [] →
      exec (.scrubComplete m) s = .next t.settleDestroy))
  ∧ (∀ (pg : Nat) (s : State), s.wf = true → pg < 8589934592 →
    (∀ i, i < 65536 → (s.zeroPage pg).byte (pg * 65536 + i) = 0)
    ∧ (∀ a, a / 65536 ≠ pg → (s.zeroPage pg).byte a = s.byte a)
    ∧ ∀ v ∈ (s.zeroPage pg).ext.poison, v / 1024 ≠ pg ∧ v ∈ s.ext.poison)
  ∧ (∀ (n hpage dpage : Nat) (toHbm : Bool) (s : State), n < 12 →
    let a := Reg.DDR_MOVE n
    let t := ((s.setRf a Reg.DDR_MOVE.HPAGE hpage).setRf a Reg.DDR_MOVE.DPAGE dpage).setRf a Reg.DDR_MOVE.DIR (bit toHbm)
    t.rbit a Reg.DDR_MOVE.BUSY = false →
      (dpage < 8388608 → hpage < 33554432 → exec (.ddrMoveGo n hpage dpage toHbm) s =
        .next { t.setRf a Reg.DDR_MOVE.BUSY 1 with ext := { s.ext with moves := s.ext.moves ++ [⟨n, hpage, dpage, toHbm⟩] } })
      ∧ ((8388608 ≤ dpage ∨ 33554432 ≤ hpage) → exec (.ddrMoveGo n hpage dpage toHbm) s = .next (t.setRf a Reg.DDR_MOVE.ERR 1)))
  ∧ (∀ (j : MoveJob) (s t : State), s.ext.moves.find? (·.n == j.n) = some j →
    let d := 4294967296 + j.n * 8388608 + j.dpage
    let src := if j.toHbm then d else j.hpage
    let dst := if j.toHbm then j.hpage else d
    (s.pageSlot d).isSome = true → s.pageThere d = true → s.pageThere j.hpage = true → s.asidesOfPages [dst] = some t →
      let u := t.copyPage src dst
      exec (.moveComplete j.n) s =
        .next { u.setRf (Reg.DDR_MOVE j.n) Reg.DDR_MOVE.BUSY 0 with ext := { u.ext with moves := u.ext.moves.erase j } })

/-- Key tags, re-keying and key slots (R315 to R321). -/
def Obligations.TagsAndKeys : Prop :=
  (∀ (n first count : Nat) (slot : Option Nat) (s : State), n < 12 →
    let a := Reg.DDR_TAG_CMD n
    let i : Instr := match slot with | some k => .tagAssign n first count k | none => .tagRelease n first count
    let t := s.setTagCmd n first count slot
    t.rbit a Reg.DDR_TAG_CMD.BUSY = false →
      (first + count ≤ 8388608 → (∀ k, slot = some k → t.keyValid k = true ∧ t.rekeyFrom k = false) →
        exec i s = .next ((t.writeTags n first count slot).setRf a Reg.DDR_TAG_CMD.BUSY 1))
      ∧ (8388608 < first + count ∨ (∃ k, slot = some k ∧ (t.keyValid k = false ∨ t.rekeyFrom k = true)) →
        exec i s = .next (t.setRf a Reg.DDR_TAG_CMD.ERR 1)))
  ∧ (∀ (n : Nat) (s : State), n < 12 → exec (.tagCommandDone n) s = .next (s.setRf (Reg.DDR_TAG_CMD n) Reg.DDR_TAG_CMD.BUSY 0))
  ∧ (∀ (src dst rate : Nat) (s : State), src < 64 → dst < 64 →
    let a := Reg.DDR_RK_CTL
    let t := ((s.setRf a Reg.DDR_RK_CTL.FROM src).setRf a Reg.DDR_RK_CTL.TO dst).setRf a Reg.DDR_RK_CTL.RATE rate
    s.rbit a Reg.DDR_RK_CTL.BUSY = false →
      (src ≠ dst → t.keyValid dst = true → exec (.rekeyGo src dst rate) s =
        .next ({ (t.setRf a Reg.DDR_RK_CTL.DONE 0).setRf a Reg.DDR_RK_CTL.BUSY 1 with
          ext := { s.ext with rekey := ((List.range 12).filter fun n => t.extLive (.ddr n)).map fun n => (n, 0) } }.settleRekey))
      ∧ (src = dst ∨ t.keyValid dst = false → exec (.rekeyGo src dst rate) s = .next (t.setRf a Reg.DDR_RK_CTL.ERR 1)))
  ∧ (∀ (n start pg : Nat) (s : State), s.ext.rekey.find? (·.1 == n) = some (n, start) →
    let src := s.rf Reg.DDR_RK_CTL Reg.DDR_RK_CTL.FROM
    let dst := s.rf Reg.DDR_RK_CTL Reg.DDR_RK_CTL.TO
    s.nextTagged n start src = some pg →
      let u := (4294967296 + n * 8388608 + pg) * 1024
      let t := (((List.range 1024).foldl (fun s i => s.copyUnit (u + i) (u + i) (some src) (some dst)) s).writeTag n pg (some dst)).bump
        Reg.DDR_RK_CTL Reg.DDR_RK_CTL.DONE 1
      exec (.rekeyPage n) s = .next ({ t with ext := { t.ext with
        rekey := t.ext.rekey.map fun (x : Nat × Nat) => if x.1 = n then (n, pg + 1) else x } }.settleRekey))
  ∧ (∀ (k : Nat) (s : State), k < 64 →
    (s.keyHeld k = true → exec (.keySlotRetire k) s = .next (s.setRf (Reg.KEY_CTL k) Reg.KEY_CTL.REFUSED 1))
    ∧ (s.keyHeld k = false → exec (.keySlotRetire k) s =
      .next { s.setRf (Reg.KEY_CTL k) Reg.KEY_CTL.VALID 0 with ext := { s.ext with keys := vset s.ext.keys k none } }))

/-- Tiering and retirement (R313, R324, R325): a page moves out to DDR5 under its tag with its leaf invalid and marked, comes back to HBM for
the oldest entry of the fault queue, and a worn page is retired. -/
def Obligations.PagesMoveAndRetire : Prop :=
  (∀ (p ddr dpage key a : Nat) (va : W48) (e : W64) (l : Leaf) (s t : State), ddr < 12 → dpage < 8388608 →
    let d := 4294967296 + ddr * 8388608 + dpage
    s.pageThere d = true → s.pageFree d = true → s.keyValid key = true → s.rekeyFrom key = false →
    s.rbit Reg.DDR_TAG_BASE Reg.DDR_TAG_BASE.EN = true → s.smallLeaf p va.toNat = some (l, t) → l.out = false → l.tier ≠ 3 →
    ddrPage (l.pa / 65536) = none → t.pageOpen p l.pa = false → t.partEntry p l.va = some (a, 3, e) →
      let old := l.pa / 65536
      let leaf := setFld (setFld (setBit (setBit e 0 false) 9 true) 17 12 key) 55 20 d
      let u := (t.setNum a 8 leaf.toNat).invalidatePart p (some l.va)
      let v : State := { u with ext := { u.ext with owned := u.ext.owned ++ [(d, p)] } }
      exec (.tieringMoveOut p va ddr dpage key) s =
        .next (((((v.tagPage d (some key)).copyPage old d).renamePage old d).freePage old).modPart p fun x => { x with
          leaves := x.leaves.map fun y => if y = l then { y with pa := d * 65536, out := true } else y }))
  ∧ (∀ (u hpage a : Nat) (e : W64) (q : FqEnt) (r : List FqEnt) (l : Leaf) (s t : State), (s.cluster u).fq = q :: r →
    let p := s.partOf u
    let va := q.page * 65536
    s.partEntry p va = some (a, 3, e) → ((s.part? p).bind fun x => x.leaves.find? fun l => l.out && l.covers va) = some l →
    hpage < 4294967296 → s.pageThere hpage = true → s.bringBack p l a e (some hpage) = some t →
      exec (.pageBringBack u hpage) s = .next (t.fqAnswer u true))
  ∧ (∀ (pa : Nat) (s : State),
    let pg := pa / 65536
    pg ∉ s.ext.retired → s.pageThere pg = true → s.pageWorn pg = true → s.parts = [] →
      let t : State := { s with ext := { s.ext with retired := s.ext.retired ++ [pg] } }
      exec (.pageRetirement pa) s = .next (t.measure 0xFF03 2 0 [] (some (Config.sha256 t.retiredList))))

/-! ### Trail links (spec/11) -/

/-- Trail ports (R334 to R338, R286): the power states, training, lanes, and the fall of a link with nothing under way. -/
def Obligations.TrailPortsAndTraining : Prop :=
  ∀ (p : Nat) (s : State), p < 18 →
    let en (v : Nat) : State := s.setRf (Reg.TRL_CFG p) Reg.TRL_CFG.EN v
    let stat (f : Fld) (v : Nat) (s : State) : State := s.setRf (Reg.TRL_STAT p) f v
    let down : State := (stat Reg.TRL_STAT.PEERV 0 (stat Reg.TRL_STAT.WIDTH 3 (s.modPort p fun x => { x with
      replay := [], tx := [], partly := [], resend := [], reqs := [], asm := [], owed := false, gap := false, retries := 0,
      retrain := false }))).setLink p 0
    (s.portState p = .off → exec (.trailPortEnable p) s = .next ((en 1).setPortState p .starting))
    ∧ (s.portState p = .stopping → exec (.trailPortEnable p) s = .next (stat Reg.TRL_STAT.PENDING_ON 1 (en 1)))
    ∧ (s.portState p = .on → exec (.trailPortDisable p) s = .next ((en 0).setPortState p .stopping))
    ∧ (s.portState p = .stopping → exec (.trailPortDisable p) s = .next (stat Reg.TRL_STAT.PENDING_ON 0 (en 0)))
    ∧ (s.portState p = .starting → (s.port p).stop = false →
      exec (.trailPortStarted p) s = .next ((s.modPort p fun x => { x with stop := false }).setPortState p .on))
    ∧ (s.portState p = .stopping → s.link p = 0 → s.rbit (Reg.TRL_STAT p) Reg.TRL_STAT.PENDING_ON = false →
      exec (.trailPortStopped p) s = .next (s.setPortState p .off))
    ∧ (s.portState p = .stopping → s.link p = 0 → s.rbit (Reg.TRL_STAT p) Reg.TRL_STAT.PENDING_ON = true →
      exec (.trailPortStopped p) s = .next ((stat Reg.TRL_STAT.PENDING_ON 0 s).setPortState p .starting))
    ∧ (s.portState p = .on → s.link p = 0 → exec (.trainingAttempt p) s = .next (s.setLink p 1))
    ∧ (∀ (lanes : BitVec 4) (peer : BitVec 16), s.portState p = .on → s.link p = 1 →
      let w := widthFor lanes (s.maxWidth p)
      let wide := stat Reg.TRL_STAT.WIDTH w (stat Reg.TRL_STAT.LANES_OK lanes.toNat s)
      (w = 3 → exec (.trainingDone p lanes peer) s = .next s)
      ∧ (w ≠ 3 → wide.rbit Reg.TRL_DEVID Reg.TRL_DEVID.VALID = false → exec (.trainingDone p lanes peer) s = .next wide)
      ∧ (w ≠ 3 → wide.rbit Reg.TRL_DEVID Reg.TRL_DEVID.VALID = true → exec (.trainingDone p lanes peer) s =
        .next (((stat Reg.TRL_STAT.PEERV 1 (stat Reg.TRL_STAT.PEER peer.toNat wide)).modPort p fun x => { x with
          replay := [], resend := [], seq := 0, lastRx := 65535, gap := false, retries := 0, owed := false, asm := [], partly := []
          credit := #v[2048, 1024, 512, 64], freed := Vector.replicate 4 0 }).setLink p 2)))
    ∧ ((s.port p).reqs = [] → (s.port p).tx = [] →
      (s.link p ≠ 0 → exec (.linkDown p) s = .next down)
      ∧ (s.portFlits p = true → exec (.linkSilence p) s = .next down ∧ exec (.endOfLink p) s = .next down))
    ∧ (∀ lane : Nat, lane < 4 →
      let ok := s.lanesOk p
      let t := stat Reg.TRL_STAT.LANES_OK (ok.toNat - ok.toNat / 2 ^ lane % 2 * 2 ^ lane) s
      (t.link p = 2 → lane ∈ lanesUsed ok (s.rf (Reg.TRL_STAT p) Reg.TRL_STAT.WIDTH) → (t.port p).retrain = false →
        exec (.laneFailure p lane) s = .next ((t.bump (Reg.TRL_ERR p) Reg.TRL_ERR.RETRAINS 1).modPort p fun x =>
          { x with retrain := true, retries := 0 }))
      ∧ (lane ∉ lanesUsed ok (s.rf (Reg.TRL_STAT p) Reg.TRL_STAT.WIDTH) → exec (.laneFailure p lane) s = .next t))
    ∧ (∀ peer : BitVec 4, (s.port p).retrain = true →
      let w := widthFor (s.lanesOk p &&& peer) (s.maxWidth p)
      w ≠ 3 → exec (.retrainDone p peer) s = .next ((stat Reg.TRL_STAT.WIDTH w s).modPort p fun x =>
        { x with retrain := false, resend := x.replay.map (·.1) }))

/-- Flits (R339 to R344): what a port sends first, and what each arriving flit does: a damaged one asks for a retry, data in sequence is
taken and out of sequence dropped, a retry request replays the buffer. -/
def Obligations.TrailFlits : Prop :=
  ∀ (p : Nat) (s : State), s.portFlits p = true →
    let x := s.port p
    (x.owed = true → exec (.flitSend p) s = .next ((s.modPort p fun x => { x with owed := false }).emitFlit p 2 0 0 0 []))
    ∧ (∀ (q : Nat) (l : List Nat) (b : List Byte), x.owed = false → x.resend = q :: l → x.replay.find? (·.1 == q) = some (q, b) →
      let h := ofBytes (b.take 2)
      exec (.flitSend p) s = .next ((s.modPort p fun x => { x with resend := l }).emitFlit p 1 (h / 16 % 4) (h / 64 % 16) q (b.drop 16)))
    ∧ (x.owed = false → x.resend = [] → 512 ≤ x.replay.length → exec (.flitSend p) s = .next (s.emitFlit p 0 0 0 0 []))
    ∧ (∀ c : Nat, x.owed = false → x.resend = [] → x.replay.length < 512 →
      [3, 1, 2, 0].find? (fun c => !(x.rest c).isEmpty || (s.portState p == .on && (x.ready c).isSome)) = some c →
        let g := gather p c (s.portState p == .on) 32 [] s
        exec (.flitSend p) s = .next ((g.2.emitFlit p 1 c ((g.1.length + 15) / 16) x.seq g.1).modPort p fun x =>
          { x with seq := (x.seq + 1) % 65536, replay := x.replay ++ [(x.seq, x.sent)] }))
    ∧ (∀ f : Flit,
      let h := flitHeader f
      (f.bytes.length ≠ 256 ∨ h / 2 ^ 96 ≠ flitCrc f.bytes ∨ 3 < h % 16 →
        exec (.dataFlit p f) s = .next ((s.bump (Reg.TRL_ERR p) Reg.TRL_ERR.CRCERR 1).modPort p fun x => { x with owed := true, gap := true }))
      ∧ (flitGood f 0 → exec (.idleFlit p f) s = .next (s.flitReturns p h))
      ∧ (flitGood f 1 →
        let t := s.flitReturns p h
        let c := h / 16 % 4
        (h / 65536 % 65536 = ((t.port p).lastRx + 1) % 65536 → exec (.dataFlit p f) s =
          .next (reassemble p c 16 (t.modPort p fun x =>
            { x with lastRx := h / 65536 % 65536, gap := false
                     asm := x.asm.filter (·.1 != c) ++ [(c, ((x.asm.find? (·.1 == c)).map (·.2)).getD []
                       ++ (f.bytes.drop 16).take (16 * (h / 64 % 16)))] })))
        ∧ (h / 65536 % 65536 ≠ ((t.port p).lastRx + 1) % 65536 → exec (.dataFlit p f) s = .next t))
      ∧ (flitGood f 2 →
        let t := ((s.flitReturns p h).bump (Reg.TRL_ERR p) Reg.TRL_ERR.REPLAYS 1).modPort p fun x =>
          { x with resend := x.replay.map (·.1), retries := x.retries + 1 }
        exec (.retryRequest p f) s = .next (if 8 ≤ (t.port p).retries then t.retrain p else t)))

/-- The formats of a link (R339, R340, Tables 11-2, 11-4, 11-5): a flit that a port builds passes its neighbour's check with its header and
slots whole; a packet's header is read back as it was written, for every kind. -/
def Obligations.TrailFormatsRoundTrip : Prop :=
  (∀ (head : Nat) (body : List Byte), head < 2 ^ 96 → body.length ≤ 240 →
    let b := flitBytes head body
    b.length = 256 ∧ ofBytes (b.take 16) / 2 ^ 96 = flitCrc b ∧ ofBytes (b.take 16) % 2 ^ 96 = head ∧ (b.drop 16).take body.length = body)
  ∧ (∀ t : TPkt, t.ddev < 65536 → t.sdev < 65536 → t.hops < 256 → t.sep < 4096 → t.win < 256 → t.epoch < 256 → t.tag < 1024 →
    t.off < 2 ^ 38 → t.idx < 65536 → t.gwin < 256 → t.gepoch < 256 → t.code < 256 → t.chid < 65536 → t.round < 256 → t.cnt < 65536 →
    t.rop < 16 → t.flg < 8 → t.size ∈ [0, 8, 16, 64, 128, 512, 2048] → (t.kind ≠ .rd → t.payload.length = t.size) →
      ∃ u, TPkt.decode t.header = some u
        ∧ u.kind = t.kind ∧ u.size = t.size ∧ u.ddev = t.ddev ∧ u.sdev = t.sdev ∧ u.hops = t.hops ∧ u.sep = t.sep
        ∧ (t.kind ∈ [TKind.wr, .rd, .sig, .tok] → u.win = t.win ∧ u.epoch = t.epoch)
        ∧ (t.kind ∈ [TKind.wr, .rd] → u.off = t.off)
        ∧ (t.kind ∈ [TKind.wr, .rd, .sig, .rdr, .wack, .nak] → u.tag = t.tag)
        ∧ (t.kind ∈ [TKind.sig, .tok] → u.idx = t.idx ∧ u.gwin = t.gwin ∧ u.gepoch = t.gepoch ∧ u.gv = t.gv)
        ∧ (t.kind = .nak → u.code = t.code)
        ∧ (t.kind ∈ [TKind.msg, .crd, .rls, .red] → u.chid = t.chid)
        ∧ (t.kind = .red → u.round = t.round ∧ u.cnt = t.cnt ∧ u.rop = t.rop ∧ u.flg = t.flg))

/-- Packets from a link (R347, R348, R353, R357 to R360, R367, R370, R371): a window refuses in the order of its checks; what it admits
enters the mesh; an answer reaches the request that it names; another device's packet goes on with one hop less. -/
def Obligations.TrailPackets : Prop :=
  (∀ (p : Nat) (t : TPkt) (s u : State), trailHead s p t u → t.ddev = u.devId →
    let i : Instr := match t.kind with
      | .wr => .trailWr p | .rd => .trailRd p | .sig => .trailSig p | .tok => .trailTok p | .msg => .trailMsg p | .red => .trailRed p
      | .rdr => .trailRdr p | .wack => .wack p | .nak => .nak p | .crd => .trailCrd p | .rls => .trailRls p
    (∀ code, t.kind.request = true → u.windowRefuses t = some code →
      exec i s = .next (((u.bump (Reg.TRL_WIND t.win) Reg.TRL_WIND.REFUSED 1).spoilWindow t code).respond p t .nak code []))
    ∧ (∀ code, t.kind = .tok → u.windowRefuses t = some code → exec i s = .next (u.bump (Reg.TRL_WIND t.win) Reg.TRL_WIND.REFUSED 1))
    ∧ (t.kind = .wr → u.windowRefuses t = none → exec i s = .next (u.remoteEffect p t))
    ∧ (t.kind = .rd ∨ t.kind = .sig → u.windowRefuses t = none →
      let writes := ((u.port p).serve.filter fun x => x.t.kind == .wr).map (·.tag)
      ((u.port p).held = [] → writes = [] → exec i s = .next (u.remoteEffect p t))
      ∧ (writes ≠ [] → exec i s = .next (u.newTag.2.modPort p fun x => { x with held := x.held ++ [⟨u.newTag.1, writes, t⟩] })))
    ∧ (∀ q, t.kind = .tok → u.windowRefuses t = none → u.counterPacket p t .tok 0 [] = some q → exec i s = .next (u.inject q))
    ∧ (t.kind = .msg ∨ t.kind = .red → exec i s = .next (u.ingress p t))
    ∧ (t.kind = .crd ∨ t.kind = .rls → exec i s = .next (u.creditIn p t))
    ∧ (∀ q r, t.kind = .rdr ∨ t.kind = .wack ∨ t.kind = .nak → u.requestOf p t = some (q, r) →
      let v := u.modPort q fun x => { x with reqs := x.reqs.filter (· != r) }
      exec i s = .next (match t.kind with
        | .wack => v.answerRequest q r .wrr 0 []
        | .rdr => v.answerRequest q r .rdr 0 t.payload
        | _ => v.nakRequest q r t.code)))
  ∧ (∀ (p q : Nat) (t : TPkt) (s u : State), trailHead s p t u → t.ddev ≠ u.devId → u.routePort t.ddev = some q → t.kind = .wr →
    exec (.trailWr p) s = .next (if t.hops ≤ 1 then u.refuseTrail q t none 5 else u.sendTrail q { t with hops := t.hops - 1 } none))
  ∧ (∀ (t : TPkt) (s : State),
    let a (x : Fld) : Nat := s.rf (Reg.TRL_WINA t.win) x
    let size := s.rf (Reg.TRL_WINC t.win) Reg.TRL_WINC.SIZE
    (a Reg.TRL_WINA.OPEN = 0 ∨ a Reg.TRL_WINA.EPOCH ≠ t.epoch → s.windowRefuses t = some 1)
    ∧ (t.kind = .wr → a Reg.TRL_WINA.OPEN ≠ 0 → a Reg.TRL_WINA.EPOCH = t.epoch →
      (a Reg.TRL_WINA.KIND ≠ 0 ∨ a Reg.TRL_WINA.WR ≠ 1 ∨ size * 65536 < t.off + t.size → s.windowRefuses t = some 2)
      ∧ (s.windowRefuses t = none → a Reg.TRL_WINA.KIND = 0 ∧ a Reg.TRL_WINA.WR = 1 ∧ t.off + t.size ≤ size * 65536)))

/-! ### Commands of the host (spec/12) -/

/-- How a command of the host is taken up (R386, R390 to R397): no session, refused by the first check that fails, started, or put on
the schedule; and the sessions that may issue it. -/
def Obligations.HostCommandsAreTakenUp : Prop :=
  (∀ k : Checks,
    (k.denied = true → k.first = some (0x300, 0))
    ∧ (∀ d, k.denied = false → k.bad = some d → k.first = some (0x101, d))
    ∧ (k.denied = false → k.bad = none → k.auth = true → k.first = some (0x301, 0))
    ∧ (k.denied = false → k.bad = none → k.auth = false → k.absent = true → k.first = some (0x201, 0))
    ∧ (k.denied = false → k.bad = none → k.auth = false → k.absent = false → k.taken = true → k.first = some (0x500, 0))
    ∧ (k.denied = false → k.bad = none → k.auth = false → k.absent = false → k.taken = false → k.busy = true → k.first = some (0x200, 0)))
  ∧ (∀ (i : Instr) (c : Cmd) (h : KHdr) (s : State), kilperCmd i = some (h, c) →
    (formOf c.row.op).map (·.row) = some c.row
    ∧ (s.serving = true → s.handing = false ∨ c.always = true → s.itsTurn h c.row.op = true → s.asker? h = none →
      exec i s = .next ((s.reply { h with session := 0 } c.row.op 0 0x201 0 []).settleHeads h.session.toNat)))
  ∧ (∀ (i : Instr) (c : Cmd) (t : Turn) (s u : State), TakenUp i c t s u →
    (∀ st d, t.h.exec = none → (checksOf c t u).first = some (st, d) → exec i s = ended t (u.answer t st d []))
    ∧ (t.h.exec = none → (checksOf c t u).first = none → c.ready = true → exec i s = ended t (c.run t u))
    ∧ (∀ e, t.h.exec = some e → c.ready = true →
      ((c.chk t u).denied = true ∨ c.row.allows t.who = false → exec i s = ended t (u.answer t 0x300 0 []))
      ∧ ((c.chk t u).denied = false → c.row.allows t.who = true →
        (u.execBad e = true → exec i s = ended t (u.fresh.2.answer t 0x101 (u.fresh.1 % 65536) []))
        ∧ (u.execBad e = false → u.time.now < u.execNs e * 2 ^ 32 →
          ({ c.chk t u with busy := (c.chk t u).busy || decide (4096 ≤ u.host.scheduled.length) }).first = none →
          exec i s = ended t (u.schedule i c { t with flags := 0 } e))
        ∧ (u.execBad e = false → u.execNs e * 2 ^ 32 ≤ u.time.now → (checksOf c t u).first = none →
          exec i s = ended t (c.run { t with flags := t.flags ||| 16 } u)))))

/-- What sessions, queries, the schedule and transfers do when they start (R326, R387, R390, R398 to R400, Table 12-6). -/
def Obligations.SessionsQueriesAndTransfers : Prop :=
  ∀ (t : Turn) (s u : State),
    let h := t.h
    let does (i : Instr) (v : State) : Prop := Starts i t s u → exec i s = ended t v
    let moved (read : Bool) (len : Nat) (r : Moved × State) (i : Instr) : Prop := Starts i t s u → r.1.asks = [] →
      (r.1.bad = none → exec i s = ended t ((if read then r.2.sendData h t.op (assemble len r.1.data) else r.2).answer t 0 0 []))
      ∧ (∀ o d, r.1.bad = some (o, d) → exec i s = ended t
        ((if read then r.2.sendData h t.op (assemble o r.1.data) else r.2).answer t 0x400 d (toBytesBE 8 o)))
    does (.hello h) (u.answer t 0 0 (toBytesBE 1 1 ++ toBytesBE 1 1 ++ toBytesBE 1 (u.rf Reg.CHT_BOOT Reg.CHT_BOOT.STAGE - 3)
      ++ toBytesBE 1 u.sec.lifecycle ++ toBytesBE 8 (u.reg Reg.ID_PART).toNat ++ toBytesBE 8 (u.reg Reg.ID_SERIAL).toNat
      ++ toBytesBE 2 (64 - u.host.sessions.length) ++ toBytesBE 2 8064 ++ toBytesBE 4 0))
    ∧ does (.queryInfo h) (u.answer t 0 0 (([Reg.ID_PART, Reg.ID_SERIAL, Reg.ID_CAPS, Reg.ID_MEM_LIVE, Reg.ID_CLU_ASSIGN, Reg.ID_CLU_STATE]
      ++ (List.range 8).map Reg.ID_CORE_LIVE).flatMap (fun a => toBytesBE 8 (u.reg a).toNat)
      ++ toBytesBE 8 ((u.sec.running.map (·.img.version.toNat)).getD 0) ++ toBytesBE 32 ((u.sec.running.map (·.img.digest.toNat)).getD 0)))
    ∧ does (.queryHealth h) (u.answer t 0 0 u.healthData)
    ∧ does (.timeStatus h) (u.answer t 0 0 (toBytesBE 6 u.time.sec ++ toBytesBE 4 u.time.ns ++ toBytesBE 2 u.time.frac
      ++ toBytesBE 1 (u.rf Reg.TIME_STAT Reg.TIME_STAT.LOCK) ++ toBytesBE 1 (u.rf Reg.TIME_STAT Reg.TIME_STAT.SOURCE)
      ++ toBytesBE 4 (u.rf Reg.TIME_STAT Reg.TIME_STAT.OFFSET) ++ toBytesBE 8 (u.reg Reg.TIME_GM).toNat))
    ∧ (∀ o : OpenOp, Starts (.sessionOpen h o) t s u → u.host.opens = [] → (u.openChecks o).first = none →
      ∃ (n isn : Nat) (x : Session) (v : State),
        x.num = n ∧ x.role = o.role.toNat ∧ x.part = o.part.toNat ∧ x.window = o.window.toNat ∧ x.maxdata = o.maxdata.toNat
        ∧ x.keep = o.keep.toNat ∧ x.spdm = o.spdm.toNat ∧ x.next = o.isn.toNat ∧ x.txNext = isn ∧ x.unacked = [] ∧ x.arrived = []
        ∧ v.host.sessions = u.host.sessions ++ [x]
        ∧ exec (.sessionOpen h o) s = ended t (v.answer t 0 0 (toBytesBE 4 n ++ toBytesBE 4 isn ++ toBytesBE 2 o.window.toNat
          ++ toBytesBE 2 o.maxdata.toNat ++ toBytesBE 2 o.keep.toNat)))
    ∧ does (.sessionClose h) (u.closeSession h.session.toNat fun v => v.answer t 0 0 [])
    ∧ (∀ session : BitVec 32,
      let n := if session = 0 then h.session.toNat else session.toNat
      let l := u.host.scheduled.filter (·.session == n)
      does (.scheduleList h session) (u.answer t 0 0 (toBytesBE 2 l.length ++ l.flatMap fun x =>
        toBytesBE 4 x.session ++ toBytesBE 2 x.tag ++ toBytesBE 2 x.opcode ++ toBytesBE 8 x.exec.toNat)))
    ∧ (∀ (tag : BitVec 16) (session : BitVec 32) (x : Sched),
      let n := if session = 0 then h.session.toNat else session.toNat
      u.host.scheduled.find? (fun x => x.session == n && x.tag == tag.toNat) = some x →
        let v := x.alarms.foldl (fun v a => v.setRf (Reg.TIME_ALA a) Reg.TIME_ALA.EN 0) u
        does (.scheduleCancel h tag session) (((v.modHost fun h => { h with scheduled := h.scheduled.erase x }).reply
          ⟨BitVec.ofNat 32 x.session, BitVec.ofNat 16 x.tag, none⟩ x.opcode 8 0x400 5 []).answer t 0 0 []))
    ∧ (∀ (addr len : BitVec 64) (d : List (BitVec 64 × List Byte)), t.op = 0x20 → dataBad len.toNat d = false →
      moved false len.toNat (u.fwWrite t.who.space addr.toNat (assemble len.toNat (d.map fun x => (x.1.toNat, x.2)))) (.memWrite h addr len d))
    ∧ (∀ addr len : BitVec 64, t.op = 0x21 → moved true len.toNat (u.fwRead t.who.space addr.toNat len.toNat) (.memRead h addr len))
    ∧ (∀ addr len pattern : BitVec 64, t.op = 0x22 →
      moved false len.toNat (u.fwWrite t.who.space addr.toNat (List.replicate (len.toNat / 8) (toBytes 8 pattern.toNat)).flatten)
        (.memFill h addr len pattern))
    ∧ (∀ (addr : BitVec 64) (pages : BitVec 32), t.who = .operator → t.flags.testBit 3 = false → pages ≠ 0 →
      let r := (u.answer t 1 0 []).startScrub ((List.range pages.toNat).map (addr.toNat / 65536 + ·)) false
      does (.scrub h addr pages) (r.2.hold h t.op (t.flags ||| 8) (.scrub r.1)))

/-- What commands on partitions, programs, counters, waypoints and clusters do when they start (R20 to R24, R196, R305, R402 to R404,
R424, R427, R434, Table 12-6). -/
def Obligations.PartitionsProgramsAndCounters : Prop :=
  ∀ (t : Turn) (s u : State),
    let h := t.h
    let p := t.who.part?.getD 0xF
    let does (i : Instr) (v : State) : Prop := Starts i t s u → exec i s = ended t v
    let answer (n : BitVec 32) (v : State) : State := okFor t (v.ctrClusters [n.toNat]) (toBytesBE 4 (v.fwValue n.toNat)) v
    (∀ (part : BitVec 8) (clusters : BitVec 16) (interval : BitVec 32),
      let us := (List.range 12).filter fun u => clusters.getLsbD u
      let params := toBytesBE 1 part.toNat ++ toBytesBE 1 0 ++ toBytesBE 2 clusters.toNat ++ toBytesBE 4 interval.toNat
      (∀ v, u.createPart part.toNat us (if interval = 0 then 1000 else interval.toNat) = some v →
        does (.partCreate h part clusters interval) (okFor t us [] (v.measure 0x30 3 t.num params none)))
      ∧ (u.createPart part.toNat us (if interval = 0 then 1000 else interval.toNat) = none →
        does (.partCreate h part clusters interval) (u.answer t 0x400 4 [])))
    ∧ (∀ part : BitVec 8, does (.partDestroy h part) (((accepted t (.destroy part.toNat) u).beginDestroy part.toNat).settleDestroy))
    ∧ (∀ (o : MapOp) (v : State), o.apt = none → State.mapRegion o.part.toNat (u.partClusters o.part.toNat) o (3 - o.size.toNat) o.count.toNat 0 u = some v →
      does (.mapPages h o) (okFor t (u.partClusters o.part.toNat) [] v))
    ∧ (∀ (part : BitVec 8) (va : BitVec 64) (count : BitVec 32) (x : Partition) (ls : List Leaf), u.part? part.toNat = some x →
      x.leafRun count.toNat va.toNat = some ls →
        let v := (ls.foldl (fun v l => v.dropLeaf part.toNat l) u).invalidatePart part.toNat none
        does (.unmapPages h part 0 va count) (okFor t (u.partClusters part.toNat) [] (v.freePages ((ls.filter (·.tier != 3)).flatMap Leaf.pages))))
    ∧ (∀ (prog priv : BitVec 8) (entry code : BitVec 64) (len : BitVec 32) (b : List Byte),
      u.loadBytes (.part p) code.toNat len.toNat = .inr b →
        let v := ((u.partClusters p).foldl (fun v c => (clusterCores c).foldl (fun v k => v.iinv k) v) u).modPart p fun x => { x with
          progs := (prog.toNat, entry.toNat, priv.toNat) :: x.progs.filter (·.1 != prog.toNat) }
        let v : State := { v with sec := { v.sec with resets := v.sec.resets.filter fun c => !(u.partClusters p).contains c } }
        let params := toBytesBE 1 prog.toNat ++ toBytesBE 1 priv.toNat ++ toBytesBE 2 0 ++ toBytesBE 8 entry.toNat ++ toBytesBE 8 code.toNat
          ++ toBytesBE 4 len.toNat
        does (.loadProgram h prog priv entry code len)
          (okFor t (u.partClusters p) [] (v.measure t.op (4 + p) t.num params (some (Config.sha256 b)))))
    ∧ (∀ (image : BitVec 64) (entries : BitVec 32) (b : List Byte), t.who = .partition p →
      u.loadBytes (.part p) image.toNat (16 * entries.toNat) = .inr b → (routeRecords b).all (u.routeOk t) = true →
        let v := (routeRecords b).foldl (State.applyRoute t) u
        let v := v.measure t.op (4 + p) t.num (toBytesBE 8 image.toNat ++ toBytesBE 4 entries.toNat) (some (Config.sha256 b))
        does (.loadRoutes h image entries) (okFor t (v.partClusters p) [] v))
    ∧ (∀ (clusters : BitVec 16) (entry umode start nops : BitVec 8) (ops : List (BitVec 128)),
      let us := (List.range 12).filter fun u => clusters.getLsbD u
      let v := us.foldl (fun v c =>
        (ops.zipIdx.foldl (fun v (x : BitVec 128 × Nat) =>
          (v.setReg (Reg.CLU_UC_OPA c (start.toNat + x.2)) (x.1.setWidth 64)).setReg (Reg.CLU_UC_OPB c (start.toNat + x.2))
            (BitVec.ofNat 64 (fld x.1 95 64))) v).ucDecWrite c entry.toNat
          (BitVec.ofNat 64 (1 + 2 * umode.toNat + 4 * start.toNat + 1024 * (ops.length - 1)))) u
      let b := ops.flatMap fun x => toBytes 16 x.toNat
      let params := toBytesBE 2 clusters.toNat ++ toBytesBE 1 entry.toNat ++ toBytesBE 1 umode.toNat ++ toBytesBE 1 start.toNat
        ++ toBytesBE 1 nops.toNat ++ toBytesBE 2 0 ++ b
      does (.loadMicrocode h clusters entry umode start nops ops)
        (okFor t us [] (v.measure t.op (4 + p) t.num params (some (Config.sha256 b)))))
    ∧ (∀ (prog strands : BitVec 8) (clusters : BitVec 16) (args : List (BitVec 32)) (entry priv n : Nat),
      let us := (List.range 12).filter fun u => clusters.getLsbD u
      let named := us.flatMap fun c => ((clusterCores c).filter u.coreLive).flatMap fun k => ((List.range 4).filter strands.toNat.testBit).map fun i => (k, i)
      ((u.part? p).bind fun x => x.progs.find? (·.1 == prog.toNat)) = some (n, entry, priv) →
        does (.launchStart h prog strands clusters args) (okFor t us []
          (named.foldl (fun v x => v.modStrand x.1 x.2 fun y => y.start (BitVec.ofNat 48 entry) priv args) u)))
    ∧ (∀ (nctr : BitVec 16) (ctrs : List (BitVec 32 × BitVec 32)),
      let v := ctrs.foldl (fun v c => v.fwAdd c.1.toNat c.2.toInt) u
      does (.launchWake h nctr ctrs) (okFor t (u.ctrClusters (ctrs.map (·.1.toNat))) [] v))
    ∧ (∀ n x : BitVec 32, does (.signalAdd h n x) (answer n (u.fwAdd n.toNat x.toInt)) ∧ does (.signalSet h n x) (answer n (u.fwSet n.toNat x.toNat)))
    ∧ (∀ (take : Bool) (n x timeout : BitVec 32) (c : CounterId), counterOfNum n.toNat = some c →
      let i : Instr := if take then .waitCounterTake h n x timeout else .waitCounterWatch h n x timeout
      let w : Waiter := { ctr := c, take := take, x := x, own := none, src := epCheter, tag := u.newTag.1, part := 0xF }
      let r := u.newTag.2.ctrWait w
      (r.1 = true → does i (r.2.answer t (r.2.ctrStatus c) 0 (waitData 1 (r.2.ctrValue c))))
      ∧ (r.1 = false → timeout = 0 →
        let v : State := { r.2 with waiters := r.2.waiters.filter (· != w) }
        does i (v.answer t (v.ctrStatus c) 0 (waitData 0 (v.ctrValue c))))
      ∧ (r.1 = false → timeout ≠ 0 → does i ((r.2.modHost fun y => { y with waits := y.waits ++ [⟨h, t.flags, c, u.newTag.1⟩] }).modSession
        h.session.toNat fun y => { y with running := y.running ++ [h.tag.toNat] })))
    ∧ (∀ part : BitVec 8, does (.waypointTake h part)
      ((accepted t (.waypoint part.toNat ((u.reg (Reg.TIME_WPB part.toNat)).toNat + 1)) u).startStop part.toNat .capture))
    ∧ (∀ (part : BitVec 8) (w : BitVec 64), does (.waypointRestore h part w)
      ((accepted t (.restore part.toNat) u).startStop part.toNat (.restore w.toNat [] [])))
    ∧ (∀ cluster : BitVec 8, does (.clusterReset h cluster) ((accepted t (.cluster cluster.toNat) u).stopForReset cluster.toNat))
    ∧ (∀ core : BitVec 16, does (.coreRetire h core) ((accepted t (.retire core.toNat) u).beginCoreRetire core.toNat))

/-- What commands on firmware, keys, the life cycle, debug, links and windows do when they start (R319, R320, R346, R355, R356, R400,
R431, R444, R455 to R458, R460, R461, Table 12-6). -/
def Obligations.TrustDebugAndLinks : Prop :=
  ∀ (t : Turn) (s u : State),
    let h := t.h
    let does (i : Instr) (v : State) : Prop := Starts i t s u → exec i s = ended t v
    let ok (v : State) : State := v.answer t 0 0 []
    let lc (n : Nat) (confirm : BitVec 32) (v : State) : State :=
      if u.sec.lifecycle = n then ok u else ok (measured t (toBytesBE 1 n ++ toBytesBE 3 0 ++ toBytesBE 4 confirm.toNat) none v)
    (∀ r : SpdmReq, (match r with | .endSession _ => False | _ => True) → does (.attest h r) ((u.spdm r).2.answer t 0 0 (Config.spdmBytes (u.spdm r).1)))
    ∧ (∀ (slot : BitVec 8) (k : KeyRecord),
      let v := u.setRf (Reg.KEY_CTL slot.toNat) Reg.KEY_CTL.VALID 1
      let v : State := { v with ext := { v.ext with keys := vset v.ext.keys slot.toNat (some ⟨k.k1, k.k2⟩) } }
      does (.keyInstallDdr5 h slot k) (ok (measured t (toBytesBE 1 0 ++ toBytesBE 1 slot.toNat ++ (toBytesBE 2 0 ++ keyDigest k)) none v)))
    ∧ (∀ (an : BitVec 8) (k : KeyRecord),
      let v := ok (measured t (toBytesBE 1 1 ++ toBytesBE 1 an.toNat ++ (toBytesBE 2 0 ++ keyDigest k)) none u)
      let v := v.modHost fun h => { h with tx := h.tx ++ [(an.toNat, ⟨k, 0⟩)] }
      let v := ((v.setRf Reg.HST_MSEC Reg.HST_MSEC.TXAN an.toNat).setRf Reg.HST_MSEC Reg.HST_MSEC.TXV 1).setReg Reg.HST_TXPN k.pn
      does (.keyInstallMacsecTx h an k) (v.setRf Reg.HST_STAT Reg.HST_STAT.MSON 1))
    ∧ (∀ (an : BitVec 8) (k : KeyRecord), u.sec.cfgMsreq = false →
      let v := (u.modHost fun h => { h with rx := h.rx ++ [(an.toNat, ⟨k, k.pn.toNat⟩)] }).setRf Reg.HST_MSEC ⟨8 + an.toNat, 8 + an.toNat⟩ 1
      does (.keyInstallMacsecRx h an k) (ok (measured t (toBytesBE 1 2 ++ toBytesBE 1 an.toNat ++ (toBytesBE 2 0 ++ keyDigest k)) none v)))
    ∧ (∀ slot : BitVec 8,
      (u.keyHeld slot.toNat = true → does (.keyRetireDdr5 h slot)
        ((u.setRf (Reg.KEY_CTL slot.toNat) Reg.KEY_CTL.REFUSED 1).answer t 0x500 0 []))
      ∧ (u.keyHeld slot.toNat = false →
        let v := u.setRf (Reg.KEY_CTL slot.toNat) Reg.KEY_CTL.VALID 0
        let v : State := { v with ext := { v.ext with keys := vset v.ext.keys slot.toNat none } }
        does (.keyRetireDdr5 h slot) (ok (measured t (toBytesBE 1 0 ++ toBytesBE 1 slot.toNat ++ []) none v))))
    ∧ (∀ an : BitVec 8,
      does (.keyRetireMacsec h false an) (ok (measured t (toBytesBE 1 1 ++ toBytesBE 1 an.toNat ++ []) none
        (u.modHost fun h => { h with tx := h.tx.filter (·.1 != an.toNat) })))
      ∧ does (.keyRetireMacsec h true an) (ok (measured t (toBytesBE 1 2 ++ toBytesBE 1 an.toNat ++ []) none
        ((u.modHost fun h => { h with rx := h.rx.filter (·.1 != an.toNat) }).setRf Reg.HST_MSEC ⟨8 + an.toNat, 8 + an.toNat⟩ 0))))
    ∧ (∀ (len : BitVec 32) (img : Image), t.flags.testBit 3 = false →
      let v := u.answer t 1 0 []
      let slot := !(v.sec.running.any (·.slot))
      let w : State := { v with sec := if slot then { v.sec with slotB := some img } else { v.sec with slotA := some img } }
      (w.verifies img = true → does (.fwStage h len img)
        (({ w with sec := { w.sec with staged := some ⟨slot, img⟩ } } : State).answer { t with flags := t.flags ||| 8 } 0 0 []))
      ∧ (w.verifies img = false → does (.fwStage h len img)
        (({ w with sec := { w.sec with staged := none } } : State).answer { t with flags := t.flags ||| 8 } 0x400 6 [])))
    ∧ (∀ deadline : BitVec 16,
      let v := accepted t .handOver u
      does (.fwActivate h deadline) { v with sec := { v.sec with hand := .asked } })
    ∧ (∀ confirm : BitVec 32,
      does (.lifecycleProvisioned h confirm) (lc 1 confirm { u with sec := { u.sec with fuseP := true } })
      ∧ does (.lifecycleField h confirm) (lc 2 confirm { u with sec := { u.sec with oproot := u.sec.cfgRoot, fuseF := true } })
      ∧ does (.lifecycleReturn h confirm) (lc 3 confirm u.destroySecrets))
    ∧ (∀ (core : BitVec 16) (strands : BitVec 8),
      let v := (List.range 4).foldl (fun v i => match (v.strand core.toNat i).run with
        | .off | .restStop => v
        | _ => if strands.getLsbD i then v.modStrand core.toNat i fun x => { x with haltReq := true } else v) u
      does (.debugHalt h core strands) ((v.hold h t.op t.flags (.halt core.toNat strands)).settleHalts))
    ∧ (∀ (addr : BitVec 64) (len : BitVec 32) (b : List Byte) (v : State), t.op = 0x91 → addr.toNat < 0xF000000000000 →
      u.fwRead .phys addr.toNat len.toNat = (⟨[], [(0, b)], none⟩, v) →
      does (.debugRead h addr len) (v.answer t 0 0 (assemble len.toNat [(0, b)])))
    ∧ (∀ (addr : BitVec 64) (o : Nat), addr.toNat ≥ 0xF000000000000 → u.debugReg addr.toNat = some o →
      does (.debugRead h addr 8) ((u.regLoad epCheter o).2.answer t 0 0 (toBytes 8 (u.regLoad epCheter o).1.toNat))
      ∧ ∀ v : BitVec 64, t.op = 0x92 → does (.debugWrite h addr 8 (toBytes 8 v.toNat))
        (ok ((u.regStore .debug o v).measureDebug 0x92 t.num (toBytesBE 8 addr.toNat ++ toBytesBE 4 8)
          (some (Config.sha256 (toBytes 8 v.toNat))))))
    ∧ (∀ o : TraceOp, t.op = 0x93 → o.size ≠ 0 →
      let v := u.setRf (Reg.CHT_TRACE o.trc.toNat) Reg.CHT_TRACE.WPOS 0
      let pages := (List.range o.size.toNat).map (o.buf.toNat / 65536 + ·)
      let old := (u.traces.filter (·.trc == o.trc.toNat)).flatMap fun x => (List.range x.size).map (x.buf / 65536 + ·)
      let v : State := { v with
        traces := u.traces.filter (·.trc != o.trc.toNat) ++ [⟨o.trc.toNat, o.events, o.core.toNat, o.strands, o.buf.toNat, o.size.toNat⟩]
        ext := { v.ext with owned := (u.ext.owned.filter fun e => !old.contains e.1) ++ pages.map fun g => (g, 15) } }
      does (.traceConfig h o) (ok (v.measureDebug 0x93 t.num (toBytesBE 1 o.trc.toNat ++ toBytesBE 1 o.events.toNat ++ toBytesBE 2 o.core.toNat
        ++ toBytesBE 1 o.strands.toNat ++ toBytesBE 3 0 ++ toBytesBE 8 o.buf.toNat ++ toBytesBE 4 o.size.toNat ++ toBytesBE 4 0) none)))
    ∧ (∀ (a : BitVec 64) (o : Nat), u.debugReg a.toNat = some o →
      does (.perfRead h 1 [a]) ((u.regLoad epCheter o).2.answer t 0 0 (toBytesBE 8 (u.regLoad epCheter o).1.toNat)))
    ∧ (∀ (devid : BitVec 16) (valid hops : BitVec 8) (en : BitVec 32) (maxw : BitVec 64),
      let v := ((u.setRf Reg.TRL_DEVID Reg.TRL_DEVID.DEVID devid.toNat).setRf Reg.TRL_DEVID Reg.TRL_DEVID.VALID valid.toNat).setRf Reg.TRL_CTL
        Reg.TRL_CTL.HOPS (if hops = 0 then 8 else hops.toNat)
      let v := (List.range 18).foldl (fun v p => v.portConfig en maxw p) v
      does (.linkConfig h devid valid hops en maxw) (ok (measured t (toBytesBE 2 devid.toNat ++ toBytesBE 1 valid.toNat ++ toBytesBE 1 hops.toNat
        ++ toBytesBE 4 en.toNat ++ toBytesBE 8 maxw.toNat) none v)))
    ∧ (∀ o : WinOp,
      let v := measured t (toBytesBE 1 o.win.toNat ++ toBytesBE 1 o.kind.toNat ++ toBytesBE 1 o.perm.toNat ++ toBytesBE 1 o.part.toNat
        ++ toBytesBE 8 o.base.toNat ++ toBytesBE 4 o.size.toNat ++ toBytesBE 2 o.srcdev.toNat ++ toBytesBE 2 o.srcmask.toNat) none (u.windowOpen o)
      does (.windowOpen h o) (v.answer t 0 0 (toBytesBE 1 (v.rf (Reg.TRL_WINA o.win.toNat) Reg.TRL_WINA.EPOCH))))
    ∧ (∀ win : BitVec 8,
      let v := u.setRf (Reg.TRL_WINA win.toNat) Reg.TRL_WINA.OPEN 0
      let w := measured t (toBytesBE 1 win.toNat) none v
      does (.windowClose h win) ((w.hold h t.op t.flags (.window (v.windowOpenWork win.toNat))).settleWindows))

/-- The host port (R378 to R390, R404): its states and its link, what each received frame and Kilper packet does, acknowledgements,
sending again, and the ends of sessions and waits. -/
def Obligations.HostPortAndPackets : Prop :=
  (∀ s : State,
    let en (v : Nat) : State := s.setRf Reg.HST_CFG Reg.HST_CFG.EN v
    let st (v : Nat) (t : State) : State := t.setRf Reg.HST_STAT Reg.HST_STAT.STATE v
    let link (v : Nat) (t : State) : State := t.setRf Reg.HST_STAT Reg.HST_STAT.LINK v
    let pend (v : Nat) (t : State) : State := t.setRf Reg.HST_STAT Reg.HST_STAT.PENDING_ON v
    (s.hostState = .off → exec .hostPortEnable s = .next (st 1 (en 1)))
    ∧ (s.hostState = .stopping → exec .hostPortEnable s = .next (pend 1 (en 1)) ∧ exec .hostPortDisable s = .next (pend 0 (en 0)))
    ∧ (s.hostState = .on → exec .hostPortDisable s = .next (st 3 (en 0)))
    ∧ (s.hostState = .starting → exec .hostPortDisable s = .next ((en 0).modHost fun h => { h with stop := true }))
    ∧ (s.hostState = .starting → s.host.stop = false →
      exec .hostPortStarted s = .next (link 1 (st 2 (s.modHost fun h => { h with stop := false }))))
    ∧ (s.hostState = .stopping → (link 0 s).rbit Reg.HST_STAT Reg.HST_STAT.PENDING_ON = false →
      exec .hostPortStopped s = .next (st 0 (link 0 s)))
    ∧ (s.hostState = .stopping → (link 0 s).rbit Reg.HST_STAT Reg.HST_STAT.PENDING_ON = true →
      exec .hostPortStopped s = .next (st 1 (pend 0 (link 0 s))))
    ∧ (s.hostState = .on → s.hostLink = 0 → exec .hostTrainingRetry s = .next (link 1 s))
    ∧ (s.hostState = .on → s.hostLink = 1 → exec .hostLinkUp s = .next
      (if (link 2 s).rbit Reg.HST_CFG Reg.HST_CFG.V6 then (link 2 s).sendFrame (.neighbourSolicitation (link 2 s).ip6) else link 2 s))
    ∧ (s.hostLink = 2 → exec .hostLinkDown s = .next (link (if s.hostState = .on then 1 else 0) s)
      ∧ exec .hstrefLoss s = .next (link (if s.hostState = .on then 1 else 0) s)))
  ∧ (∀ p : KPkt, p.type ∈ [1, 3, 4] → p.flags < 64 → p.session < 2 ^ 32 → p.seq < 2 ^ 32 → p.ack < 2 ^ 32 → p.opcode < 65536 →
    p.tag < 65536 → p.exec < 2 ^ 64 → p.payload.length ≤ 8072 → parseKilper (kilperBytes p) = some p)
  ∧ (∀ (f : Frame) (s : State),
    let t := s.bump Reg.HST_RXF Reg.HST_RXF.FRAMES 1
    (s.hostLink ≠ 2 → exec (.hostFrame f) s = .next s)
    ∧ (s.hostLink = 2 → f.fcsOk = false ∨ 9216 < f.length ∨ f.length < 64 →
      exec (.hostFrame f) s = .next (t.bump Reg.HST_DROP0 Reg.HST_DROP0.FRAME 1))
    ∧ (s.hostLink = 2 → f.fcsOk = true → 64 ≤ f.length → f.length ≤ 9216 → f.body ≠ .macControl →
      (t.macsecIn f = none → exec (.hostFrame f) s = .next (t.bump Reg.HST_DROP0 Reg.HST_DROP0.MACSEC 1))
      ∧ (∀ v, t.macsecIn f = some v → v.tagsOk f.tags = false → exec (.hostFrame f) s = .next (v.bump Reg.HST_DROP0 Reg.HST_DROP0.FRAME 1)))
    ∧ (f.sec = none → t.macsecIn f = if t.rbit Reg.HST_CFG Reg.HST_CFG.MSREQ then none else some t)
    ∧ (∀ (x : SecTag) (a : Assoc), f.sec = some x → t.host.rx.find? (·.1 == x.an.toNat) = some (x.an.toNat, a) →
      x.valid = false ∨ x.pn.toNat < a.low → t.macsecIn f = none))
  ∧ (∀ (f : Frame) (s v : State), frameGood s f v →
    (∀ a : BitVec 32, f.body = .arpRequest a → f.dst = .own ∨ f.dst = .broadcast → v.ipUsed false = true →
      a.toNat = v.rf Reg.HST_IP4 Reg.HST_IP4.ADDR → exec (.hostFrame f) s = .next (v.sendFrame f.body))
    ∧ (∀ (src : Peer) (b : List Byte), datagram f v src b →
      (parseKilper b = none → exec (.hostFrame f) s = .next (v.bump Reg.HST_DROP1 Reg.HST_DROP1.KILPER 1))
      ∧ (∀ p : KPkt, parseKilper b = some p → p.session = 0 → p.type ≠ 1 →
        exec (.hostFrame f) s = .next (v.bump Reg.HST_DROP1 Reg.HST_DROP1.KILPER 1))
      ∧ (∀ p : KPkt, parseKilper b = some p → p.session = 0 → p.type = 1 →
        let w := v.modHost fun h => { h with zero := (p.tag, src) :: h.zero.filter (·.1 != p.tag) }
        (w.serving = true → w.wireBad .zero p = none → exec (.hostFrame f) s = .next (w.intake 0 p))
        ∧ (w.serving = false → exec (.hostFrame f) s = .next w))
      ∧ (∀ p : KPkt, parseKilper b = some p → p.session ≠ 0 → v.session? p.session = none →
        (p.type = 1 → exec (.hostFrame f) s =
          .next (State.transmit src { type := 2, session := 0, opcode := p.opcode, tag := p.tag, payload := replyBytes 0x201 0 [] } v))
        ∧ (p.type ≠ 1 → exec (.hostFrame f) s = .next (v.bump Reg.HST_DROP1 Reg.HST_DROP1.KILPER 1)))
      ∧ (∀ (p : KPkt) (x : Session), parseKilper b = some p → p.session ≠ 0 → v.session? p.session = some x → p.flags.testBit 0 = false →
        p.type ≠ 4 →
          let n := p.session
          let w := v.modSession n fun x => { x with peer := { x.peer with mac := src.mac } }
          let d := (p.seq + 2 ^ 32 - x.next) % 2 ^ 32
          (d = 0 → x.held = [] →
            let y := (w.modSession n fun x => { x with next := (x.next + 1) % 2 ^ 32, ackOwed := true }).intake n p
            exec (.hostFrame f) s = .next ((if ((y.session? n).map (·.held.isEmpty)).getD true then y else y.sendAck n).settleHeads n))
          ∧ (0 < d → d < x.window → exec (.hostFrame f) s = .next ((w.modSession n fun x => { x with
            held := if x.held.any (·.seq == p.seq) then x.held else x.held ++ [p] }).sendAck n))
          ∧ (2 ^ 31 ≤ d → x.window ≤ d → exec (.hostFrame f) s = .next (w.modSession n fun x => { x with ackOwed := true }))
          ∧ (x.window ≤ d → 0 < d → d < 2 ^ 31 → exec (.hostFrame f) s = .next w))))
  ∧ (∀ (session : BitVec 32) (x : Session) (s : State), s.session? session.toNat = some x →
    (x.ackOwed = true → x.held = [] → exec (.acknowledgement session) s =
      .next (State.transmit x.peer (x.stamp { type := 4, session := session.toNat, seq := x.txNext })
        (s.modSession session.toNat fun x => { x with ackOwed := false })))
    ∧ (∀ (seq : BitVec 32) (q : TxPkt), x.unacked.find? (·.p.seq == seq.toNat) = some q → q.sacked = false →
      exec (.kilperRetransmit session seq) s = .next (State.transmit x.peer (x.stamp q.p)
        ((s.modSession session.toNat fun x => { x with
          unacked := x.unacked.map fun y => if y.p.seq = seq.toNat then { y with tries := y.tries + 1 } else y }).bump
          Reg.HST_KSTAT Reg.HST_KSTAT.RETX 1)))
    ∧ exec (.keepExpiry session) s = .next ((s.bump Reg.HST_KSTAT Reg.HST_KSTAT.LOST 1).closeSession session.toNat id))
  ∧ (∀ (k : Nat) (w : KWait) (s : State), s.host.waits[k]? = some w → s.answerComes w.wtag = false →
    let t := s.withdrawWait w
    exec (.waitCounterTimeout k) s = .next ((t.reply w.h 0x45 w.flags (t.ctrStatus w.ctr) 0 (waitData 0 (t.ctrValue w.ctr))).endCommand w.h))

/-! ### Time, waypoints, recovery and firmware (spec/13, spec/14) -/

/-- Network time (R397, R408 to R415, R437): samples and lock, PPS, reads of TIME_NOW, alarms and scheduled commands. -/
def Obligations.NetworkTime : Prop :=
  (∀ s : State, s.alive = true → s.rf Reg.TIME_CFG Reg.TIME_CFG.SRC = 1 →
    let ns := s.time.edge * 1000000000
    let off : Int := ((s.time.now : Int) - (ns * 2 ^ 32 : Nat)) / 2 ^ 32
    let t : State := { s with time := { s.time with edge := (s.time.edge + 1) % 2 ^ 48 } }
    let lock := s.rf Reg.TIME_STAT Reg.TIME_STAT.LOCK
    let v := (t.setRf Reg.TIME_STAT Reg.TIME_STAT.OFFSET (satOffset off)).setRf Reg.TIME_STAT Reg.TIME_STAT.SOURCE 2
    let runs (a b : Nat) (v : State) : State := { v with time := { v.time with good := a, bad := b } }
    (lock = 0 → exec .ppsInEdge s = .next (((runs (if off.natAbs ≤ 100 then 1 else 0) 0 (v.setRf Reg.TIME_STAT Reg.TIME_STAT.HOLD 0)).setLock 1).stepTime ns))
    ∧ (lock = 1 → 1000000 < off.natAbs → exec .ppsInEdge s = .next ((runs 0 0 v).stepTime ns))
    ∧ (lock = 1 → off.natAbs ≤ 100 → 15 ≤ s.time.good → exec .ppsInEdge s = .next ((runs 0 0 v.slew).setLock 2))
    ∧ (lock = 1 → off.natAbs ≤ 100 → s.time.good < 15 → exec .ppsInEdge s = .next (runs (s.time.good + 1) 0 v.slew))
    ∧ (lock = 1 → 100 < off.natAbs → off.natAbs ≤ 1000000 → exec .ppsInEdge s = .next (runs 0 0 v.slew))
    ∧ (lock = 2 → off.natAbs ≤ 1000 → exec .ppsInEdge s = .next (runs 0 0 v.slew))
    ∧ (lock = 2 → 1000 < off.natAbs → s.time.bad < 3 → exec .ppsInEdge s = .next (runs 0 (s.time.bad + 1) v.slew))
    ∧ (lock = 2 → 1000 < off.natAbs → 3 ≤ s.time.bad → exec .ppsInEdge s = .next ((runs 0 0 v.slew).setLock 1)))
  ∧ (∀ s : State,
    (s.alive = true → s.tick = { s with time := { s.time with now := s.time.now + s.time.inc } })
    ∧ (s.rf Reg.TIME_STAT Reg.TIME_STAT.LOCK = 0 → exec .sampleTimeout s = .next s)
    ∧ (s.rf Reg.TIME_STAT Reg.TIME_STAT.LOCK ≠ 0 →
      let t := (s.setRf Reg.TIME_STAT Reg.TIME_STAT.SOURCE 0).setRf Reg.TIME_STAT Reg.TIME_STAT.HOLD 1
      exec .sampleTimeout s = .next (({ t with time := { t.time with good := 0, bad := 0 } } : State).setLock 0))
    ∧ (s.alive = true → s.serving = true → exec .ppsOutRise s = .next { s with time := { s.time with ppsOut := true } })
    ∧ exec .ppsOutFall s = .next { s with time := { s.time with ppsOut := false } }
    ∧ (∀ ep : BitVec 12, exec (.timeNowRead ep) s =
      .next { s with time := { s.time with latch := (ep.toNat, s.time.wordX) :: s.time.latch.filter fun e => e.1 != ep.toNat } })
    ∧ (∀ e : W64, fld e 31 0 < 1000000000 → 2 ^ 31 ≤ s.time.sec →
      let sec := s.execNs e / 1000000000
      s.execNs e % 1000000000 = fld e 31 0 ∧ sec % 2 ^ 32 = fld e 63 32 ∧ sec ≤ s.time.sec + 2 ^ 31 ∧ s.time.sec ≤ sec + 2 ^ 31))
  ∧ (∀ (n : Nat) (s : State), s.alarmDue n = true → s.host.scheduled.filter (fun x => x.alarms.contains n) = [] →
    let a := Reg.TIME_ALA n
    let t := s.setRf a Reg.TIME_ALA.EN 0
    (t.rbit a Reg.TIME_ALA.ACT = false → exec (.alarmFire n) s = .next { t with time := { t.time with steward := true } })
    ∧ (t.rbit a Reg.TIME_ALA.ACT = true → t.ctrAbsent (s.rf a Reg.TIME_ALA.N) = false →
      exec (.alarmFire n) s = .next (t.fwAdd (s.rf a Reg.TIME_ALA.N) (signed 32 (t.rf a Reg.TIME_ALA.AMT)))))
  ∧ (∀ (k : Nat) (x : Sched) (h : KHdr) (c : Cmd) (w : Asker) (s : State), s.host.scheduled[k]? = some x → s.schedReady x = some (h, c, w) →
    s.schedBehind k x = false →
      let u := s.modHost fun y => { y with scheduled := y.scheduled.eraseIdx k }
      let t : Turn := ⟨h, x.opcode, 8 ||| s.lockFlag ||| (if s.execNs x.exec + 1000 < s.time.inNs then 16 else 0), w⟩
      (∀ st d, (checksOf c t u).first = some (st, d) → exec (.scheduledStart k) s = .next (u.answer t st d []))
      ∧ ((checksOf c t u).first = none → c.ready = true → exec (.scheduledStart k) s = .next (c.run t u)))

/-- Waypoints, recovery from failures, cluster resets, and the hand-over of firmware (R416, R417, R422, R425 to R434, R445, R454). -/
def Obligations.WaypointsRecoveryAndHandOver : Prop :=
  (∀ (p us : Nat) (x : Partition) (s : State), s.part? p = some x →
    let a := Reg.TIME_WPA p
    let t := s.modPart p fun y => { y with nextDue := s.nextMs (s.rf a Reg.TIME_WPA.INTERVAL) }
    (s.captureDue x = true → x.stop ≠ .capture → t.defers x = false →
      exec (.waypointCapture p) s = .next ((t.setRf a Reg.TIME_WPA.DEFER 0).startStop p .capture))
    ∧ (s.captureDue x = true → x.stop ≠ .capture → t.defers x = true → exec (.waypointCapture p) s = .next (t.setRf a Reg.TIME_WPA.DEFER 1))
    ∧ (x.stop = .capture → exec (.captureAbandon p) s = .next ((s.resumePart p).bump a Reg.TIME_WPA.ABANDONED 1))
    ∧ (s.partAtRest x = true → x.stop = .capture → exec (.captureDrained p us) s = .next (s.capture x us))
    ∧ (∀ n, s.partAtRest x = true → x.stop = .restore n [] [] → s.partClusters p ≠ [] →
      exec (.captureDrained p us) s = .next ((((s.relocate p).restore p n)).endAwait (.restore p) (s.partClusters p)))
    ∧ (∀ (c : WpConfig) (w : Waypoint) (new : List (Nat × Nat)) (v : State), x.cfg = some c → x.captured = some w → c.ddr = true →
      x.unstreamed = true → s.keyValid c.key = true →
      streamPages p c.key ((s.homeChannels x.clusters).map .ddr) (w.pages.filter x.pages.contains) [] s = some (new, v) → x.local_ = none →
        let w' := { w with store := new }
        exec (.waypointLocal p) s = .next ((((v.modPart p fun x => { x with captured := some w', local_ := some w' }).freePages []).setRf a
          Reg.TIME_WPA.STATE 2).settleTakes p w'))
    ∧ (∀ c : WpConfig, x.cfg = some c → c.mir = true → (s.routePort c.ddev).isSome = true →
      (s.rf a Reg.TIME_WPA.STATE = 2 → exec (.waypointMirrored p) s = .next (s.setRf a Reg.TIME_WPA.STATE 3))
      ∧ (s.rf a Reg.TIME_WPA.STATE ≠ 2 → exec (.waypointMirrored p) s = .next s)))
  ∧ (∀ (k pa : Nat) (s : State),
    let p := s.partOfCore k
    (s.coreLive k = true → (s.part? p).isSome = true →
      exec (.failureRecovery (.coreInternal k)) s = .next (s.startStop p (.restore 0 [k] []))
      ∧ exec (.failureRecovery (.coreStore k true)) s = .next (s.startStop p (.restore 0 [k] []))
      ∧ exec (.failureRecovery (.coreStore k false)) s = .next (s.startStop p (.restore 0 [] [])))
    ∧ (s.coreLive k = true → s.part? p = none →
      exec (.failureRecovery (.coreInternal k)) s = .next ((s.retireCore k).endAwait (.retire k) [])
      ∧ exec (.failureRecovery (.coreStore k false)) s = .next s)
    ∧ (∀ u b : Nat, u < 12 → s.cluRetired u = false → (s.part? (s.partOf u)).isSome = true →
      exec (.failureRecovery (.clusterInternal u)) s = .next (s.startStop (s.partOf u) (.restore 0 [] [u]))
      ∧ exec (.failureRecovery (.clm u b true)) s = .next (s.startStop (s.partOf u) (.restore 0 [] [u]))
      ∧ exec (.failureRecovery (.clm u b false)) s = .next (s.startStop (s.partOf u) (.restore 0 [] [])))
    ∧ ((s.part? p).any (fun x => s.cleanCopy x (pa / 65536)) = false →
      exec (.failureRecovery (.poison k pa)) s = .next (s.retirePage (pa / 65536))))
  ∧ (∀ (n : Nat) (s : State), n < 24 → s.extLive (.hbm n) = true → s.parts = [] →
    let t := ((s.setRf (Reg.HBM_STAT n) Reg.HBM_STAT.FAILED 1).setRf (Reg.HBM_STAT n) Reg.HBM_STAT.LIVE 0).setRf Reg.ID_MEM_LIVE ⟨n, n⟩ 0
    (t.recoverTags n).parts = [] → exec (.stackFailure n) s = .next (t.recoverTags n))
  ∧ (∀ (u : Nat) (s : State), u < 12 →
    (s.cluField u % 8 = 3 → u ∈ s.sec.resets → s.part? (s.partOf u) = none →
      exec (.clusterStopTimeout u) s = .next ((s.resetCluster u).setClu u 1))
    ∧ (s.cluField u % 8 = 1 → s.host.pending = [] → exec (.clusterOn u) s = .next (s.setClu u 2)))
  ∧ (∀ (x prev : Loaded) (s : State),
    let runs (y : Loaded) (s : State) : State :=
      let t := [480, 481, 482, 483].foldl (fun s k => s.setCore k {}) s
      ({ t with sec := { t.sec with running := some y } } : State).measure 0xFF01 1 0 [] (some y.img.digest)
    (s.sec.hand = .asked → s.sec.staged = some x → s.sec.running = some prev → s.host.pending.any (·.what != .handOver) = false →
      let t := runs x s
      exec .handOver s = .next { t with sec := { t.sec with staged := none, hand := .trial prev } })
    ∧ (s.sec.hand = .trial prev → s.sec.running = some x →
      let t := s.writeBoot x.slot
      exec .imageCommit s = .next (({ t with sec := { t.sec with
        svn := max t.sec.svn x.img.svn, keyrev := t.sec.keyrev ||| x.img.revoke, hand := .none } } : State).endAwait .handOver []))
    ∧ (s.sec.hand = .trial prev → s.host.pending = [] →
      let t := runs prev s
      exec .deadlineExpiry s = .next { t with sec := { t.sec with hand := .none } }
        ∧ exec .firmwareWatchdog s = .next { t with sec := { t.sec with hand := .none } })
    ∧ (s.sec.hand = .none → s.sec.running = some x →
      exec .firmwareWatchdog s = .next ([480, 481, 482, 483].foldl (fun s k => s.setCore k {}) s)))
  ∧ (∀ (sid : BitVec 32) (s : State), s.sec.spdm.any (·.sid == sid.toNat) = true → s.host.sessions.filter (·.spdm == sid.toNat) = [] →
    exec (.spdmSessionTimeout sid) s = .next { s with sec := { s.sec with spdm := s.sec.spdm.filter (·.sid != sid.toNat) } })

/-! ### Package (spec/15) -/

/-- Reset, boot and bring-up (R435, R436, R443, R462, R463, R469, R473, R487): what enters reset and what that leaves, how the boot ROM
goes on, and the stages of service. -/
def Obligations.ResetBootAndService : Prop :=
  (∀ s : State,
    let phys (f : PhysState → PhysState) (t : State) : State := { t with phys := f t.phys }
    let clear (t : State) : State := t.setReg Reg.PWR_FAULT (regReset Reg.PWR_FAULT)
    let fault (cause : Nat) : State :=
      let t := if s.rf Reg.PWR_FAULT Reg.PWR_FAULT.CAUSE = 0 then s.setRf Reg.PWR_FAULT Reg.PWR_FAULT.CAUSE cause else s
      phys (fun p => { p with faultLow := true }) (t.setRf Reg.PWR_FAULT Reg.PWR_FAULT.SEEN
        (BitVec.ofNat 5 (t.rf Reg.PWR_FAULT Reg.PWR_FAULT.SEEN) ||| BitVec.ofNat 5 (2 ^ (cause - 1))).toNat)
    (s.enterReset.parts = [] ∧ s.enterReset.host = {} ∧ s.enterReset.cores = [] ∧ s.enterReset.net = {} ∧ s.enterReset.time = {}
      ∧ s.enterReset.sec.ms = ({} : SecState).ms ∧ s.enterReset.sec.spdm = [] ∧ s.enterReset.ext.keys = Vector.replicate 64 none
      ∧ s.enterReset.mem = s.mem ∧ s.enterReset.phys.inReset = true ∧ s.enterReset.phys.retired = s.phys.retired
      ∧ s.enterReset.sec.fuseF = s.sec.fuseF ∧ s.enterReset.pending = s.pending
      ∧ ∀ a, a ≠ Reg.PWR_FAULT → s.enterReset.reg a = regReset a)
    ∧ (s.phys.pwrGood = false → exec .pwrGoodRise s = .next ((phys (fun p => { p with pwrGood := true, inReset := true }) (clear s)).i3cUpdate))
    ∧ (s.phys.pwrGood = true → exec .pwrGoodFall s = .next (phys (fun p => { p with
        pwrGood := false, tripped := false, faultLow := false, alertLow := false, i3cAddr := none, i3cIbi := false, i3cFlags := 0 })
        (clear s.enterReset)))
    ∧ exec .resetNFall s = .next ((phys (fun p => { p with
        resetN := false, faultLow := p.faultLow && s.rf Reg.PWR_FAULT Reg.PWR_FAULT.CAUSE != 1 }) s.enterReset).i3cUpdate)
    ∧ exec .resetNRise s = .next (phys (fun p => { p with resetN := true }) s)
    ∧ (s.phys.pwrGood = true → exec .railFault s = .next ((fault 4).enterReset.i3cUpdate)
      ∧ exec .refclkLoss s = .next ((fault 5).enterReset.i3cUpdate))
    ∧ (∀ south : Bool, exec (.trlrefLoss south) s =
      .next ((List.range 9).foldl (fun s i => s.linkDown (if south then 9 + i else i)) s)))
  ∧ (∀ (a b : Option Image) (s : State), s.phys.pwrGood = true → s.phys.resetN = true → s.phys.tripped = false → s.phys.inReset = true →
    let t : State := { s with
      phys := { s.phys with inReset := false }
      sec := { s.sec with slotA := a, slotB := b, fuseR := s.sec.fuseR || s.sec.dukGone } }
    let u := t.settleClocks.setRf Reg.CHT_BOOT Reg.CHT_BOOT.STAGE 2
    let pick (slot : Bool) : Option Loaded := (if slot then b else a).bind fun i => if u.verifies i then some ⟨slot, i⟩ else none
    let first := (bootPref s.sec.boot).getD false
    (pick first = none → pick (!first) = none → exec (.resetEnd a b) s = .next ((u.recordFault 1).i3cUpdate))
    ∧ (∀ x, pick first = some x ∨ (pick first = none ∧ pick (!first) = some x) →
      let v := u.measure 0xFF00 0 0 (Config.romRecord u.sec.lifecycle u.sec.svn u.sec.keyrev.toNat x.slot) none
      let v := v.measure 0xFF00 1 0 [] (some x.img.digest)
      exec (.resetEnd a b) s = .next (({ v with sec := { v.sec with running := some x } } : State).startFirmware)))
  ∧ (∀ s : State,
    (s.stage = 2 → s.sec.running.isSome = true → s.hostState = .on → s.hostLink = 2 → exec .stageHostPort s = .next (s.setStage 3))
    ∧ (∀ n : Nat, n < 24 → s.alive = true → s.extLive (.hbm n) = false → s.rbit (Reg.HBM_STAT n) Reg.HBM_STAT.FAILED = false →
      let t := s.zeroRange (n * 2 ^ 36) (2 ^ 36)
      let t : State := { t with ext := { t.ext with poison := t.ext.poison.filter fun x => x / 2 ^ 30 != n } }
      exec (.stackTrained n) s = .next ((t.setRf (Reg.HBM_STAT n) Reg.HBM_STAT.LIVE 1).setRf Reg.ID_MEM_LIVE ⟨n, n⟩ 1))
    ∧ (s.stage = 3 →
      let t := (List.range 12).foldl (fun s u => if s.homesLive u && !s.cluRetired u then s.setRf Reg.ID_CLU_STATE ⟨5 * u + 4, 5 * u + 4⟩ 1 else s) s
      let t := t.fromFlash [(Reg.TRL_DEVID, [Reg.TRL_DEVID.DEVID, Reg.TRL_DEVID.VALID]), (Reg.TRL_CTL, [Reg.TRL_CTL.HOPS])]
      let t := (List.range 18).foldl (fun s p =>
        let v := Config.flashReg (Reg.TRL_CFG p)
        let s := s.setRf (Reg.TRL_CFG p) Reg.TRL_CFG.MAXW (fld v 2 1)
        if tb v 0 then s.trailEnable p else s.trailDisable p) t
      exec .reducedService s = .next (t.settleClocks.setStage 4))
    ∧ (s.stage = 4 → exec .trainingDeadline s = .next ((List.range 24).foldl (fun s n =>
        if s.extLive (.hbm n) then s else s.setRf (Reg.HBM_STAT n) Reg.HBM_STAT.FAILED 1) s))
    ∧ (s.stage = 4 → (List.range 24).all (fun n => s.extLive (.hbm n) || s.rbit (Reg.HBM_STAT n) Reg.HBM_STAT.FAILED) = true →
      let t := (List.range 12).foldl (fun s u => s.setRf Reg.ID_CLU_STATE ⟨5 * u + 4, 5 * u + 4⟩ 0) s.channelsTrained.placeTags
      exec .fullService s = .next (t.settleClocks.setStage 5))
    ∧ (∀ n : Nat, s.setStage n = (s.setRf Reg.CHT_BOOT Reg.CHT_BOOT.STAGE n).event .everyone 0x40 0xF (toBytesBE 1 (n - 3) ++ toBytesBE 3 0)))

/-- Sensors, throttling, alert and trip (R480 to R486). -/
def Obligations.SensorsAndThrottling : Prop :=
  (∀ (temps : List Byte) (s : State), s.phys.pwrGood = true →
    let t := ((temps.take 56).zipIdx).foldl (fun s (x : Byte × Nat) =>
      (s.setRf (Reg.PWR_TEMP x.2) Reg.PWR_TEMP.TEMP x.1.toNat).setRf (Reg.PWR_TEMP x.2) Reg.PWR_TEMP.VALID 1) s
    let top := hottest ((List.range 56).map fun n => t.rf (Reg.PWR_TEMP n) Reg.PWR_TEMP.TEMP)
    let u := (t.setRf Reg.PWR_HOT Reg.PWR_HOT.HOTJ top.1).setRf Reg.PWR_HOT Reg.PWR_HOT.HOTSEN top.2
    (top.1 < 115 → exec (.sensorSample temps) s = .next u.settleAlert)
    ∧ (115 ≤ top.1 → u.phys.tripped = false → exec (.sensorSample temps) s = .next (u.trip 2).settleAlert))
  ∧ (∀ (n : Nat) (temp : Byte) (s : State), s.phys.pwrGood = true → n < 24 →
    let t := s.setRf (Reg.HBM_STAT n) Reg.HBM_STAT.TEMP temp.toNat
    let top := hottest ((List.range 24).map fun n => t.rf (Reg.HBM_STAT n) Reg.HBM_STAT.TEMP)
    let u := (t.setRf Reg.PWR_HOT Reg.PWR_HOT.HOTHBM top.1).setRf Reg.PWR_HOT Reg.PWR_HOT.HOTSTK top.2
    let half : List Nat := if 95 ≤ temp.toNat then (if s.phys.halved.contains n then s.phys.halved else s.phys.halved ++ [n])
      else if temp.toNat ≤ 90 then s.phys.halved.filter (· != n) else s.phys.halved
    let v : State := { u with phys := { u.phys with halved := half } }
    (temp.toNat < 105 → exec (.hbmTempRead n temp) s = .next v.settleAlert)
    ∧ (105 ≤ temp.toNat → s.phys.tripped = false → exec (.hbmTempRead n temp) s = .next (v.trip 3).settleAlert))
  ∧ (∀ l : List Nat, l ≠ [] → (∀ x ∈ l, x ≤ (hottest l).1) ∧ l[(hottest l).2]? = some (hottest l).1
    ∧ ∀ i, i < (hottest l).2 → l[i]? ≠ some (hottest l).1)
  ∧ (∀ level cool hot : Nat,
    (100 ≤ hot → thermStep level cool hot = (min 3 (level + 1), 0))
    ∧ (95 < hot → hot < 100 → thermStep level cool hot = (level, 0))
    ∧ (hot ≤ 95 → cool < 99 → thermStep level cool hot = (level, cool + 1))
    ∧ (hot ≤ 95 → 99 ≤ cool → thermStep level cool hot = (level - 1, 0)))
  ∧ (∀ s : State, s.phys.pwrGood = true →
    let io := (hottest ((List.range 8).map fun i => s.sensor (48 + i))).1
    let t := (List.range 6).foldl (fun s t =>
      let r := thermStep (vget s.phys.therm t) (vget s.phys.cool t) (max io (hottest ((List.range 8).map fun i => s.sensor (8 * t + i))).1)
      { s with phys := { s.phys with therm := vset s.phys.therm t r.1, cool := vset s.phys.cool t r.2 } }) s
    exec .thermalEvaluation s = .next t.settleClocks.settleAlert)
  ∧ (∀ (watts : Nat) (s : State), s.phys.pwrGood = true →
    let cap := s.rf Reg.PWR_CAP Reg.PWR_CAP.WATTS
    let p := s.phys
    let t := (s.fresh.2.setRf Reg.PWR_POWER Reg.PWR_POWER.WATTS (min watts 65535)).setRf Reg.PWR_POWER Reg.PWR_POWER.VCORE_A s.fresh.1
    let t := t.bump Reg.PWR_THR Reg.PWR_THR.MS (t.rf Reg.PWR_CLK Reg.PWR_CLK.THROTTLE)
    let out (p : PhysState) : Out := .next ({ t with phys := p } : State).settleClocks.settleAlert
    (cap < watts → exec (.powerEvaluation watts) s = out { p with power := min 3 (p.power + 1), below := 0 })
    ∧ (watts ≤ cap → cap * 95 ≤ watts * 100 → exec (.powerEvaluation watts) s = out { p with below := 0 })
    ∧ (watts * 100 < cap * 95 → p.below < 9 → exec (.powerEvaluation watts) s = out { p with below := p.below + 1 })
    ∧ (watts * 100 < cap * 95 → 9 ≤ p.below → exec (.powerEvaluation watts) s = out { p with power := p.power - 1, below := 0 }))

/-- I3C, the test access port and register writes (R6, R7, R28, R29, R459, R476, R477). -/
def Obligations.ManagementPortsAndRegisters : Prop :=
  (∀ s : State,
    let phys (f : PhysState → PhysState) : Out := .next { s with phys := f s.phys }
    let scan (i : TapInstr) (capture bits : List Bool) : Out := phys fun p => { p with
      tap := i, hiz := false, bsr := (capture ++ bits).drop bits.length, tdo := (capture ++ bits).take bits.length }
    (s.phys.pwrGood = true →
      (∀ x : Byte, exec (.i3cPrivateWrite [x]) s = phys fun p => { p with i3cOffset := x.toNat })
      ∧ (∀ len : Nat, exec (.i3cPrivateRead len) s = phys fun p => { p with
          i3cOut := (List.range len).map fun i => s.statusSet[p.i3cOffset + i]?.getD 0, i3cOffset := p.i3cOffset + len })
      ∧ (∀ a : BitVec 7, exec (.setdasa a) s = phys fun p => { p with i3cAddr := some a })
      ∧ exec .enec s = phys fun p => { p with i3cIbi := true })
    ∧ s.statusSet.length = 24
    ∧ exec .tapReset s = phys (fun p => { p with tap := .bypass, hiz := false, tdo := [] })
    ∧ exec .clamp s = phys (fun p => { p with tap := .clamp, hiz := false, tdo := [] })
    ∧ exec .highz s = phys (fun p => { p with tap := .highz, hiz := true, tdo := [] })
    ∧ (∀ tdi : List Bool, exec (.bypass tdi) s = phys fun p => { p with tap := .bypass, hiz := false, tdo := (false :: tdi).take tdi.length })
    ∧ (∀ capture bits : List Bool, exec (.samplePreload capture bits) s = scan .sample capture bits
      ∧ exec (.extest capture bits) s = scan .extest capture bits)
    ∧ (∀ bits : List Bool, exec (.extestPulse bits) s = scan .extestPulse s.phys.bsr bits
      ∧ exec (.extestTrain bits) s = scan .extestTrain s.phys.bsr bits)
    ∧ (∀ j : JtagTarget, s.sec.lifecycle = 1 ∨ s.sec.lifecycle = 2 →
      exec (.internalDebug j) s = phys fun p => { p with tap := .bypass, hiz := false, tdo := [] })
    ∧ (∀ (k i : Nat) (g : BitVec 5), s.sec.lifecycle ≠ 1 → s.sec.lifecycle ≠ 2 → exec (.internalDebug (.coreReg k i g)) s =
      phys fun p => { p with tap := .debug, hiz := false, jtagOut := some (vget (s.strand k i).g g.toNat).toNat }))
  ∧ (∀ (g : Agent) (a : Nat) (v : W64) (s : State),
    (blkOf a = none → exec (.registerWrite g a v) s = .next s)
    ∧ (∀ (b : Blk) (o n : Nat), blkOf a = some (b, o, n) → s.mayStore g b n = false → exec (.registerWrite g a v) s = .next s))
  ∧ (∀ (g : Agent) (v : W64) (s : State), g = .firmware ∨ g = .debug →
    exec (.registerWrite g Reg.PWR_CAP v) s = .next (s.setRf Reg.PWR_CAP Reg.PWR_CAP.WATTS (max 600 (min 2100 (fld v 11 0)))))
  ∧ (∀ (b d : Nat) (s : State), d ∈ [1, 2, 3, 4, 8, 9] → s.mayStore .debug (.device d) b = false
    ∧ s.mayStore .firmware (.device d) b = true)
  ∧ (∀ (k d n : Nat) (s : State), s.mayStore (.strand k) (.device d) n = false)
  ∧ (∀ (k n : Nat) (s : State), s.mayStore (.strand k) .core n = true → isSteward k = false → n < 480 → k < 480 →
    s.partOf (n / 40) = s.partOf (k / 40) ∧ s.coreLive n = true)

/-! ### Reset and the whole machine -/

/-- The state right after reset: every strand Off with zero registers (R136), every register at its reset value (R7 and the register
tables), nothing waiting, and every map in canonical form. -/
def Obligations.ResetState : Prop :=
  (∀ k i : Nat, i < 4 →
    let x := State.reset.strand k i
    x.run = .off ∧ (∀ r : BitVec 5, x.rg r = 0 ∧ x.rv r = 0) ∧ (∀ r : BitVec 3, x.ra r = 0 ∧ vget x.f r.toNat = 0)
      ∧ x.l0 = {} ∧ x.l1 = {} ∧ (∀ j, j < 8 → vget x.abase j = 0 ∧ vget x.actl j = 0) ∧ x.tstart = 0 ∧ x.lcnt = 0 ∧ x.matrix = 0
      ∧ x.status = 3)
  ∧ (∀ a : Nat, State.reset.reg a = regReset a ∧ State.reset.byte a = 0)
  ∧ State.reset.reg Reg.ID_PART = 0x5956584D31413100 ∧ State.reset.reg Reg.ID_CLU_ASSIGN = 0xFFFFFFFFFFFF
  ∧ State.reset.reg Reg.ID_CAPS = 0x040C120C18280C
  ∧ State.reset.rf Reg.CHT_BOOT Reg.CHT_BOOT.STAGE = 1
  ∧ State.reset.rf Reg.PWR_CAP Reg.PWR_CAP.WATTS = 2100
  ∧ State.reset.rf Reg.TRL_CTL Reg.TRL_CTL.HOPS = 8
  ∧ State.reset.rf Reg.HST_CFG Reg.HST_CFG.UDPPORT = 47180
  ∧ State.reset.rf (Reg.HBM_PATROL 23) Reg.HBM_PATROL.HOURS = 24
  ∧ State.reset.rf (Reg.CORE_LS_EN 479) Reg.CORE_LS_EN.PS_EN = 255
  ∧ (∀ g, g < 12 → State.reset.reg (Reg.SYN_SHOME g) = BitVec.ofNat 64 g)
  ∧ (∀ i, i < 16 → vget State.reset.sec.ms i = 0)
  ∧ State.reset.pending = [] ∧ State.reset.wf = true ∧ step State.reset = .next State.reset.tick

/-- Every command answers a next state in every state; it keeps every map of the state in canonical form, and the queue of commands
as it was. -/
def Obligations.EveryCommandKeepsTheCanonicalForm : Prop :=
  ∀ (c : Instr) (s : State), ∃ t, exec c s = .next t ∧ t.pending = s.pending ∧ (s.wf = true → t.wf = true)

/-- What an OP instruction leaves (R139): every byte of memory, every register but those of its core's block, every other core, and, in
its strand, every g register but rd and, unless F is 1, the flags. F may be 1 for ADD to SRA alone; a delay slot after JAL or JALR writes
the link register too, and an enabled OV or DZ cause is another case. -/
def Obligations.OpInstructionsLeaveTheRest : Prop :=
  ∀ (w : Who) (o : OpR) (s : State), Issues w (aluInfo o) s → s.wf = true → (strandAt w s).delay = none →
    isSteward w.core = false ∨ (strandAt w s).sxen = 0 →
    ∀ i ∈ [Instr.add w o, .sub w o, .and w o, .or w o, .xor w o, .shl w o, .shr w o, .sra w o] ++ (if o.f then [] else [.slt w o, .sltu w o,
      .min w o, .max w o, .minu w o, .maxu w o, .mul w o, .mulh w o, .mulhu w o, .div w o, .divu w o, .rem w o, .remu w o]),
      ∃ t, exec i s = .next t ∧ t.mem = s.mem ∧ (∀ a, t.byte a = s.byte a) ∧ (∀ k, k ≠ w.core → t.core k = s.core k)
        ∧ (∀ a, (∀ o, blkOf a ≠ some (.core, o, w.core)) → t.reg a = s.reg a)
        ∧ t.msgs = s.msgs ∧ t.net = s.net ∧ t.clusters = s.clusters ∧ t.ext = s.ext ∧ t.host = s.host ∧ t.sec = s.sec
        ∧ (∀ r, r ≠ o.rd → (t.strand w.core w.strand).rg r = (strandAt w s).rg r)
        ∧ (o.f = false → (t.strand w.core w.strand).flags = (strandAt w s).flags)
end

