-- ==== Sys2Proof/Laws/Bits.lean ====
section
/-! SUPPORT. Laws of bit fields and of numbers stored in bytes. -/

namespace Sys2Proof.Machine

theorem fld_lt {n : Nat} (x : BitVec n) (hi lo : Nat) : fld x hi lo < 2 ^ (hi + 1 - lo) := Nat.mod_lt _ (Nat.two_pow_pos _)

theorem fld_eq {n : Nat} (x : BitVec n) (hi lo : Nat) : fld x hi lo = x.toNat / 2 ^ lo % 2 ^ (hi + 1 - lo) := by
  simp [fld, Nat.shiftRight_eq_div_pow]

@[simp] theorem toBytes_length (n x : Nat) : (toBytes n x).length = n := by simp [toBytes]
@[simp] theorem toBytesBE_length (n x : Nat) : (toBytesBE n x).length = n := by simp [toBytesBE]

theorem ofBytes_append (l r : List Byte) : ofBytes (l ++ r) = ofBytes l + 256 ^ l.length * ofBytes r := by
  induction l with
  | nil => simp [ofBytes]
  | cons b l ih => simp only [List.cons_append, ofBytes, ih, List.length_cons, Nat.pow_succ]; ring

theorem ofBytes_lt (l : List Byte) : ofBytes l < 256 ^ l.length := by
  induction l with
  | nil => simp [ofBytes]
  | cons b l ih =>
    simp only [ofBytes, List.length_cons, Nat.pow_succ]
    have := b.isLt
    omega

theorem toBytes_succ (n x : Nat) : toBytes (n + 1) x = BitVec.ofNat 8 x :: toBytes n (x / 256) := by
  simp only [toBytes, List.range_succ_eq_map, List.map_cons, List.map_map]
  refine congrArg₂ List.cons (by simp [byteOf]) (List.map_congr_left fun i _ => ?_)
  simp only [Function.comp, byteOf, Nat.shiftRight_eq_div_pow]
  rw [Nat.div_div_eq_div_mul, show 8 * (i + 1) = 8 + 8 * i by ring, Nat.pow_add]

/-- A number stored in n bytes is read back modulo 256^n. -/
theorem ofBytes_toBytes (n x : Nat) : ofBytes (toBytes n x) = x % 256 ^ n := by
  induction n generalizing x with
  | zero => simp [toBytes, ofBytes, Nat.mod_one]
  | succ n ih =>
    rw [toBytes_succ, ofBytes, ih, Nat.pow_succ, Nat.mul_comm (256 ^ n) 256, Nat.mod_mul, BitVec.toNat_ofNat]

theorem ofBytesBE_toBytesBE (n x : Nat) : ofBytesBE (toBytesBE n x) = x % 256 ^ n := by simp [ofBytesBE, toBytesBE, ofBytes_toBytes]


/-- A CRC over two runs of bytes goes through both in turn. -/
theorem crcBytes_append (poly crc : Nat) (a b : List Byte) : crcBytes poly crc (a ++ b) = crcBytes poly (crcBytes poly crc a) b := by
  simp only [crcBytes, List.foldl_append]

theorem crcStep_lt {poly crc : Nat} (b : Bool) (hp : poly < 2 ^ 32) (hc : crc < 2 ^ 32) : crcStep poly crc b < 2 ^ 32 := by
  have hd : crc % 2 ^ 64 / 2 < 2 ^ 32 := by omega
  simp only [crcStep]
  split
  · exact Nat.xor_lt_two_pow hd hp
  · exact hd

theorem crcByte_lt {poly crc : Nat} (b : Byte) (hp : poly < 2 ^ 32) (hc : crc < 2 ^ 32) : crcByte poly crc b < 2 ^ 32 := by
  simp only [crcByte]
  induction List.range 8 generalizing crc with
  | nil => simpa using hc
  | cons i l ih => simpa using ih (crcStep_lt _ hp hc)

/-- A CRC of a 32-bit polynomial has 32 bits. -/
theorem crcBytes_lt {poly crc : Nat} (l : List Byte) (hp : poly < 2 ^ 32) (hc : crc < 2 ^ 32) : crcBytes poly crc l < 2 ^ 32 := by
  simp only [crcBytes]
  induction l generalizing crc with
  | nil => simpa using hc
  | cons b l ih => simpa using ih (crcByte_lt b hp hc)

end Sys2Proof.Machine
end

