-- ==== Sys2Proof/Laws/Sparse.lean ====
section
/-! SUPPORT. Laws of sparse maps: reading what was written, and the canonical form that every operation keeps. -/

namespace Sys2Proof.Machine

variable {α : Type} {d : Nat → α}

theorem Sparse.get_of_lt [DecidableEq α] {m : List (Nat × α)} {b k : Nat} (h : Sparse.wfFrom d b m = true) (hk : k < b) : Sparse.get d m k = d k := by
  cases m with
  | nil => rfl
  | cons e m =>
    obtain ⟨j, x⟩ := e
    simp only [Sparse.wfFrom, Bool.and_eq_true, decide_eq_true_eq] at h
    have h1 : j ≠ k := by omega
    have h2 : k < j := by omega
    simp [Sparse.get, h1, h2]

theorem Sparse.wfFrom_mono [DecidableEq α] {m : List (Nat × α)} {a b : Nat} (h : Sparse.wfFrom d b m = true) (hab : a ≤ b) : Sparse.wfFrom d a m = true := by
  cases m with
  | nil => rfl
  | cons e m =>
    simp only [Sparse.wfFrom, Bool.and_eq_true, decide_eq_true_eq] at h ⊢
    exact ⟨⟨by omega, h.1.2⟩, h.2⟩

/-- Reading the key that was set. -/
theorem Sparse.get_set_self [DecidableEq α] {m : List (Nat × α)} {b : Nat} (h : Sparse.wfFrom d b m = true) (k : Nat) (v : α) :
    Sparse.get d (Sparse.set d m k v) k = v := by
  induction m generalizing b with
  | nil => by_cases hv : v = d k <;> simp [Sparse.set, hv, Sparse.get]
  | cons e m ih =>
    obtain ⟨j, x⟩ := e
    simp only [Sparse.wfFrom, Bool.and_eq_true, decide_eq_true_eq] at h
    by_cases hj : j = k
    · subst hj
      by_cases hv : v = d j
      · simp only [Sparse.set, if_true, hv]
        exact Sparse.get_of_lt h.2 (Nat.lt_succ_self j)
      · simp [Sparse.set, hv, Sparse.get]
    · by_cases hk : k < j
      · by_cases hv : v = d k <;> simp [Sparse.set, hj, hk, hv, Sparse.get]
      · simp [Sparse.set, hj, hk, Sparse.get, ih h.2]

/-- Reading another key. -/
theorem Sparse.get_set_ne [DecidableEq α] {m : List (Nat × α)} {b : Nat} (h : Sparse.wfFrom d b m = true) {k i : Nat} (v : α) (hi : i ≠ k) :
    Sparse.get d (Sparse.set d m k v) i = Sparse.get d m i := by
  induction m generalizing b with
  | nil =>
    by_cases hv : v = d k
    · simp [Sparse.set, hv]
    · have h1 : k ≠ i := fun e => hi e.symm
      by_cases h2 : i < k <;> simp [Sparse.set, hv, Sparse.get, h1, h2]
  | cons e m ih =>
    obtain ⟨j, x⟩ := e
    simp only [Sparse.wfFrom, Bool.and_eq_true, decide_eq_true_eq] at h
    have hki : k ≠ i := fun e => hi e.symm
    by_cases hj : j = k
    · subst hj
      by_cases hv : v = d j
      · simp only [Sparse.set, if_true, hv]
        by_cases hlt : i < j
        · rw [Sparse.get_of_lt h.2 (by omega)]; simp [Sparse.get, hki, hlt]
        · simp [Sparse.get, hki, hlt]
      · by_cases hlt : i < j <;> simp [Sparse.set, hv, Sparse.get, hki, hlt]
    · by_cases hk : k < j
      · by_cases hv : v = d k
        · simp [Sparse.set, hj, hk, hv]
        · by_cases hlt : i < k
          · have h1 : j ≠ i := by omega
            have h2 : i < j := by omega
            simp [Sparse.set, hj, hk, hv, Sparse.get, hki, hlt, h1, h2]
          · simp [Sparse.set, hj, hk, hv, Sparse.get, hki, hlt]
      · by_cases hji : j = i
        · subst hji; simp [Sparse.set, hj, hk, Sparse.get]
        · by_cases hlt : i < j <;> simp [Sparse.set, hj, hk, Sparse.get, hji, hlt, ih h.2]

/-- Reading any key after a write. -/
theorem Sparse.get_set [DecidableEq α] {m : List (Nat × α)} (h : Sparse.wf d m = true) (k j : Nat) (v : α) :
    Sparse.get d (Sparse.set d m k v) j = if j = k then v else Sparse.get d m j := by
  by_cases e : j = k
  · subst e; rw [if_pos rfl]; exact Sparse.get_set_self h j v
  · rw [if_neg e]; exact Sparse.get_set_ne h v e

/-- A write keeps the canonical form. -/
theorem Sparse.wfFrom_set [DecidableEq α] {m : List (Nat × α)} {b k : Nat} (h : Sparse.wfFrom d b m = true) (hb : b ≤ k) (v : α) :
    Sparse.wfFrom d b (Sparse.set d m k v) = true := by
  induction m generalizing b with
  | nil =>
    by_cases hv : v = d k
    · simp [Sparse.set, hv, Sparse.wfFrom]
    · simp [Sparse.set, hv, Sparse.wfFrom, hb]
  | cons e m ih =>
    obtain ⟨j, x⟩ := e
    simp only [Sparse.wfFrom, Bool.and_eq_true, decide_eq_true_eq] at h
    by_cases hj : j = k
    · subst hj
      by_cases hv : v = d j
      · simp only [Sparse.set, if_true, hv]
        exact Sparse.wfFrom_mono h.2 (by omega)
      · simp [Sparse.set, hv, Sparse.wfFrom, hb, h.2]
    · by_cases hk : k < j
      · by_cases hv : v = d k
        · simp [Sparse.set, hj, hk, hv, Sparse.wfFrom, h.1.1, h.1.2, h.2]
        · simp only [Sparse.set, hj, hk, hv, Sparse.wfFrom, if_false, if_true, Bool.and_eq_true, decide_eq_true_eq]
          exact ⟨⟨hb, hv⟩, ⟨by omega, h.1.2⟩, h.2⟩
      · simp only [Sparse.set, hj, hk, if_false, Sparse.wfFrom, Bool.and_eq_true, decide_eq_true_eq]
        exact ⟨⟨h.1.1, h.1.2⟩, ih h.2 (by omega)⟩

theorem Sparse.wf_set [DecidableEq α] {m : List (Nat × α)} (h : Sparse.wf d m = true) (k : Nat) (v : α) : Sparse.wf d (Sparse.set d m k v) = true :=
  Sparse.wfFrom_set h (Nat.zero_le k) v

theorem Sparse.wf_setRun [DecidableEq α] {m : List (Nat × α)} (h : Sparse.wf d m = true) (k : Nat) (l : List α) :
    Sparse.wf d (Sparse.setRun d m k l) = true := by
  induction l generalizing m k with
  | nil => exact h
  | cons v l ih => exact ih (Sparse.wf_set h k v) (k + 1)

/-- Writes of a list of keys one after the other. -/
theorem Sparse.wf_foldl_set [DecidableEq α] {β : Type} {m : List (Nat × α)} (h : Sparse.wf d m = true) (l : List β) (f : β → Nat) (g : β → α) :
    Sparse.wf d (l.foldl (fun m e => Sparse.set d m (f e) (g e)) m) = true := by
  induction l generalizing m with
  | nil => exact h
  | cons e l ih => exact ih (Sparse.wf_set h (f e) (g e))

theorem Sparse.wfFrom_filter [DecidableEq α] {m : List (Nat × α)} {b : Nat} (h : Sparse.wfFrom d b m = true) (p : Nat × α → Bool) :
    Sparse.wfFrom d b (m.filter p) = true := by
  induction m generalizing b with
  | nil => rfl
  | cons e m ih =>
    obtain ⟨j, x⟩ := e
    simp only [Sparse.wfFrom, Bool.and_eq_true, decide_eq_true_eq] at h
    by_cases hp : p (j, x) = true
    · rw [List.filter_cons_of_pos hp]
      simp [Sparse.wfFrom, h.1.1, h.1.2, ih h.2]
    · rw [List.filter_cons_of_neg hp]
      exact Sparse.wfFrom_mono (ih h.2) (by omega)

theorem Sparse.wf_filter [DecidableEq α] {m : List (Nat × α)} (h : Sparse.wf d m = true) (p : Nat × α → Bool) : Sparse.wf d (m.filter p) = true :=
  Sparse.wfFrom_filter h p

theorem Sparse.clearRange_eq (m : List (Nat × α)) (lo hi : Nat) :
    Sparse.clearRange m lo hi = m.filter fun e => !(decide (lo ≤ e.1) && decide (e.1 < hi)) := by
  induction m with
  | nil => rfl
  | cons e m ih =>
    obtain ⟨j, x⟩ := e
    by_cases h : lo ≤ j ∧ j < hi
    · simp [Sparse.clearRange, h, ih]
    · have h' : ¬ (lo ≤ j && decide (j < hi)) = true := by simpa using fun a => by omega
      by_cases h1 : lo ≤ j <;> by_cases h2 : j < hi <;> simp_all [Sparse.clearRange]

theorem Sparse.wf_clearRange [DecidableEq α] {m : List (Nat × α)} (h : Sparse.wf d m = true) (lo hi : Nat) :
    Sparse.wf d (Sparse.clearRange m lo hi) = true := by
  rw [Sparse.clearRange_eq]; exact Sparse.wf_filter h _

/-- What a filter by key leaves to be read. -/
theorem Sparse.get_filter_key [DecidableEq α] {m : List (Nat × α)} {b : Nat} (h : Sparse.wfFrom d b m = true) (p : Nat → Bool) (k : Nat) :
    Sparse.get d (m.filter fun e => p e.1) k = if p k then Sparse.get d m k else d k := by
  induction m generalizing b with
  | nil => simp [Sparse.get]
  | cons e m ih =>
    obtain ⟨j, x⟩ := e
    simp only [Sparse.wfFrom, Bool.and_eq_true, decide_eq_true_eq] at h
    by_cases hp : p j = true
    · rw [List.filter_cons_of_pos (by exact hp)]
      by_cases hj : j = k
      · subst hj; simp [Sparse.get, hp]
      · by_cases hk : k < j <;> simp [Sparse.get, hj, hk, ih h.2]
    · rw [List.filter_cons_of_neg (by exact hp), ih h.2]
      by_cases hj : j = k
      · subst hj; simp [hp]
      · by_cases hk : k < j
        · simp [Sparse.get, hj, hk, Sparse.get_of_lt h.2 (Nat.lt_succ_of_lt hk)]
        · simp [Sparse.get, hj, hk]

theorem Sparse.get_clearRange [DecidableEq α] {m : List (Nat × α)} (h : Sparse.wf d m = true) (lo hi k : Nat) :
    Sparse.get d (Sparse.clearRange m lo hi) k = if lo ≤ k ∧ k < hi then d k else Sparse.get d m k := by
  rw [Sparse.clearRange_eq, Sparse.get_filter_key h (fun j => !(decide (lo ≤ j) && decide (j < hi)))]
  by_cases h1 : lo ≤ k <;> by_cases h2 : k < hi <;> simp [h1, h2]

theorem Sparse.get_setRun [DecidableEq α] {m : List (Nat × α)} (h : Sparse.wf d m = true) (k : Nat) (l : List α) (i : Nat) :
    Sparse.get d (Sparse.setRun d m k l) i = if h : k ≤ i ∧ i < k + l.length then l[i - k]'(by omega) else Sparse.get d m i := by
  induction l generalizing m k with
  | nil => rw [dif_neg (by simp)]; rfl
  | cons v l ih =>
    rw [show Sparse.setRun d m k (v :: l) = Sparse.setRun d (Sparse.set d m k v) (k + 1) l from rfl, ih (Sparse.wf_set h k v)]
    by_cases h1 : k + 1 ≤ i ∧ i < k + 1 + l.length
    · rw [dif_pos h1, dif_pos (by simp only [List.length_cons]; omega)]
      have e : i - k = (i - (k + 1)) + 1 := by omega
      simp only [e, List.getElem_cons_succ]
    · rw [dif_neg h1]
      by_cases hi : i = k
      · subst hi
        rw [dif_pos (by simp), Sparse.get_set_self h]
        simp
      · rw [dif_neg (by simp only [List.length_cons]; omega), Sparse.get_set_ne h v hi]

/-- Maps in canonical form that read alike are equal. -/
theorem Sparse.ext [DecidableEq α] {m n : List (Nat × α)} {b : Nat} (hm : Sparse.wfFrom d b m = true) (hn : Sparse.wfFrom d b n = true)
    (h : ∀ k, Sparse.get d m k = Sparse.get d n k) : m = n := by
  induction m generalizing n b with
  | nil =>
    cases n with
    | nil => rfl
    | cons e n =>
      obtain ⟨j, x⟩ := e
      simp only [Sparse.wfFrom, Bool.and_eq_true, decide_eq_true_eq] at hn
      exact absurd (by simpa [Sparse.get] using (h j).symm) hn.1.2
  | cons e m ih =>
    obtain ⟨j, x⟩ := e
    simp only [Sparse.wfFrom, Bool.and_eq_true, decide_eq_true_eq] at hm
    cases n with
    | nil => exact absurd (by simpa [Sparse.get] using h j) hm.1.2
    | cons e n =>
      obtain ⟨i, y⟩ := e
      simp only [Sparse.wfFrom, Bool.and_eq_true, decide_eq_true_eq] at hn
      rcases Nat.lt_trichotomy j i with hlt | rfl | hgt
      · have := h j
        simp [Sparse.get, hlt, Nat.ne_of_gt hlt] at this
        exact absurd this hm.1.2
      · have hx : x = y := by simpa [Sparse.get] using h j
        subst hx
        rw [ih hm.2 hn.2 fun k => by
          by_cases hk : k = j
          · subst hk; rw [Sparse.get_of_lt hm.2 (Nat.lt_succ_self k), Sparse.get_of_lt hn.2 (Nat.lt_succ_self k)]
          · have := h k
            by_cases hlt : k < j
            · rw [Sparse.get_of_lt hm.2 (by omega), Sparse.get_of_lt hn.2 (by omega)]
            · simpa [Sparse.get, hlt, show j ≠ k from fun e => hk e.symm] using this]
      · have := h i
        simp [Sparse.get, hgt, Nat.ne_of_gt hgt] at this
        exact absurd this.symm hn.1.2

end Sys2Proof.Machine
end

