-- ==== Sys2Proof/Laws/Access.lean ====
section
/-! SUPPORT. Reading back the parts of a state in canonical form. -/

namespace Sys2Proof.Machine

variable {s : State}

/-- The canonical form, map by map. -/
theorem State.wf_iff : s.wf = true ↔ Memory.wf s.mem = true ∧ Sparse.wf regReset s.regs = true ∧ Sparse.wf (fun _ => {}) s.cores = true
    ∧ Sparse.wf (fun _ => {}) s.clusters = true ∧ Sparse.wf (fun _ => {}) s.msgs = true ∧ Sparse.wf (fun _ => {}) s.trail = true := by
  simp only [State.wf, Bool.and_eq_true, and_assoc]

theorem vget_vset {α : Type} {n : Nat} [NeZero n] (v : Vector α n) {i j : Nat} (hi : i < n) (hj : j < n) (x : α) :
    vget (vset v i x) j = if j = i then x else vget v j := by
  unfold vget vset
  simp only [Vector.get_eq_getElem, Fin.val_ofNat, Nat.mod_eq_of_lt hi, Nat.mod_eq_of_lt hj, Vector.getElem_set]
  by_cases h : i = j
  · simp [h]
  · have g : ¬j = i := fun e => h e.symm
    simp [h, g]

theorem State.reg_setReg (h : s.wf = true) (a b : Nat) (v : W64) : (s.setReg a v).reg b = if b = a then v else s.reg b :=
  Sparse.get_set (State.wf_iff.1 h).2.1 a b v

theorem State.core_setCore (h : s.wf = true) (k j : Nat) (c : Core) : (s.setCore k c).core j = if j = k then c else s.core j :=
  Sparse.get_set (State.wf_iff.1 h).2.2.1 k j c

theorem State.core_modCore (h : s.wf = true) (k j : Nat) (f : Core → Core) : (s.modCore k f).core j = if j = k then f (s.core k) else s.core j :=
  State.core_setCore h k j _

theorem State.cluster_modCluster (h : s.wf = true) (u j : Nat) (f : Cluster → Cluster) :
    (s.modCluster u f).cluster j = if j = u then f (s.cluster u) else s.cluster j :=
  Sparse.get_set (State.wf_iff.1 h).2.2.2.1 u j _

theorem State.msg_modMsg (h : s.wf = true) (k j : Nat) (f : MsgUnit → MsgUnit) :
    (s.modMsg k f).msg j = if j = k then f (s.msg k) else s.msg j :=
  Sparse.get_set (State.wf_iff.1 h).2.2.2.2.1 k j _

theorem State.port_modPort (h : s.wf = true) (p q : Nat) (f : TrailPort → TrailPort) :
    (s.modPort p f).port q = if q = p then f (s.port p) else s.port q :=
  Sparse.get_set (State.wf_iff.1 h).2.2.2.2.2 p q _

/-- A strand after a change of a strand of some core. -/
theorem State.strand_modStrand (h : s.wf = true) (k j : Nat) {i m : Nat} (hi : i < 4) (hm : m < 4) (f : Strand → Strand) :
    (s.modStrand k i f).strand j m = if j = k ∧ m = i then f (s.strand k i) else s.strand j m := by
  unfold State.modStrand State.setStrand State.strand
  rw [State.core_modCore h]
  by_cases e : j = k
  · subst e
    simp only [if_true, true_and, vget_vset _ hi hm]
  · simp [e]

/-! ### Memory -/

theorem State.byte_setByte (h : s.wf = true) (a b : Nat) (x : Byte) : (s.setByte a x).byte b = if b = a then x else s.byte b :=
  Sparse.get_set (show Sparse.wf memDefault s.mem = true from (State.wf_iff.1 h).1) a b x

/-- A byte after a run of bytes has been written. -/
theorem State.byte_setBytes (h : s.wf = true) (a b : Nat) (l : List Byte) :
    (s.setBytes a l).byte b = if e : a ≤ b ∧ b < a + l.length then l[b - a]'(by omega) else s.byte b :=
  Sparse.get_setRun (show Sparse.wf memDefault s.mem = true from (State.wf_iff.1 h).1) a l b

theorem State.byte_zeroRange (h : s.wf = true) (a n b : Nat) : (s.zeroRange a n).byte b = if a ≤ b ∧ b < a + n then 0#8 else s.byte b :=
  Sparse.get_clearRange (show Sparse.wf memDefault s.mem = true from (State.wf_iff.1 h).1) a (a + n) b

/-- The bytes of a run that has just been written. -/
theorem State.bytes_setBytes (h : s.wf = true) (a : Nat) (l : List Byte) : (s.setBytes a l).bytes a l.length = l := by
  refine List.ext_getElem (by simp [State.bytes]) fun i h1 h2 => ?_
  have hi : i < l.length := h2
  simp only [State.bytes, List.getElem_map, List.getElem_range, State.byte_setBytes h]
  rw [dif_pos (by omega)]
  simp

/-- A number that has just been written. -/
theorem State.num_setNum (h : s.wf = true) (a n x : Nat) : (s.setNum a n x).num a n = x % 256 ^ n := by
  have := State.bytes_setBytes h a (toBytes n x)
  rw [toBytes_length] at this
  unfold State.num State.setNum
  rw [this, ofBytes_toBytes]

end Sys2Proof.Machine
end

