-- ==== Sys2Proof/Laws/Issue.lean ====
section
/-! SUPPORT. One lemma for each way in which a command's meaning is reached: an instruction that issues, a command of the host that
starts. Statements about them cite these and do not unfold the checks. -/

namespace Sys2Proof.Machine

/-- An instruction that issues: its body's answer decides what follows. -/
theorem issue_eq {w : Who} {info : Info} {s : State} (h : Issues w info s) (body : Env → State → Res) :
    issue w info body s = (atIssue w s).settle (envOf w s) info.len (body (envOf w s) (atIssue w s)) := by
  obtain ⟨h1, h2, h3, h4, h5, h6⟩ := h
  simp only [strandAt, atIssue, slotOf] at h4 h5 h6
  simp only [issue, h1, h2, h3, h4, h5, h6, atIssue, envOf, slotOf]
  simp

/-- An instruction that a common check refuses is an illegal instruction. -/
theorem issue_barred {w : Who} {info : Info} {s : State} (h : Barred w info s) (body : Env → State → Res) :
    issue w info body s = raises w s { code := 0x01, xtval := w.word.toNat } := by
  obtain ⟨h1, h2, h3, h4, h5, h6⟩ := h
  simp only [strandAt, atIssue, slotOf] at h4 h5 h6
  simp only [issue, h1, h2, h3, h4, h5, h6, raises, atIssue, slotOf, State.settle, illegal]
  simp

/-- A strand that is not ready, or is held by a pause, does nothing. -/
theorem issue_idle {w : Who} {info : Info} {s : State} (body : Env → State → Res)
    (h : (whoOk w && (s.strand w.core w.strand).ready && !s.heldByPause w.core w.strand) = false) : issue w info body s = s := by
  unfold issue
  rw [if_pos]
  revert h
  cases whoOk w <;> cases (s.strand w.core w.strand).ready <;> cases s.heldByPause w.core w.strand <;> simp

/-- A command of the host is carried out by `perform` with its meaning. -/
theorem exec_perform {i : Instr} {h : KHdr} {c : Cmd} (e : kilperCmd i = some (h, c)) (s : State) : exec i s = .next (s.perform h i c) := by
  cases i <;> first
    | (simp only [kilperCmd, Option.some.injEq, Prod.mk.injEq] at e; obtain ⟨rfl, rfl⟩ := e; rfl)
    | (simp [kilperCmd] at e)

/-- A command of the host that starts has its effect. -/
theorem starts_eq {i : Instr} {t : Turn} {s u : State} (h : Starts i t s u) :
    ∃ c, kilperCmd i = some (t.h, c) ∧ t.op = c.row.op ∧ c.row.allows t.who = true ∧ (checksOf c t u).first = none ∧ exec i s = ended t (c.run t u) := by
  obtain ⟨c, ⟨a1, a2, a3, a4, a5, a6, a7, a8, a9⟩, h2, h3, h4⟩ := h
  refine ⟨c, a1, a7, ?_, h3, ?_⟩
  · unfold checksOf Checks.first at h3
    revert h3
    cases hd : c.row.allows t.who <;> simp
  · rw [exec_perform a1]
    obtain ⟨h, op, fl, who⟩ := t
    simp only at a1 a2 a3 a4 a5 a6 a7 a8 a9 h2
    subst a7 a8
    have h5 : (s.handing && !c.always) = false := by cases a3 <;> simp_all
    unfold ended State.perform State.takeCommand State.startChecked
    unfold checksOf at h3
    simp only [a2, h5, a4, a5, a6, h2, ← a9, Turn.num]
    simp only [h3, h4, if_true]
    rfl

/-- A step takes the command at the front. -/
theorem step_cons (c : Instr) (rest : List Instr) (s : State) (h : s.pending = c :: rest) : step s = exec c { s with pending := rest } := by
  simp [step, h]

end Sys2Proof.Machine
end

