-- ==== Sys2Proof/Laws/State.lean ====
section
/-! SUPPORT. What each update of the state leaves alone, field by field. -/

namespace Sys2Proof.Machine

variable (s : State)

/-! ### setReg -/
@[simp] theorem State.setReg_mem (a : Nat) (v : W64) : (s.setReg a v).mem = s.mem := rfl
@[simp] theorem State.setReg_cores (a : Nat) (v : W64) : (s.setReg a v).cores = s.cores := rfl
@[simp] theorem State.setReg_clusters (a : Nat) (v : W64) : (s.setReg a v).clusters = s.clusters := rfl
@[simp] theorem State.setReg_msgs (a : Nat) (v : W64) : (s.setReg a v).msgs = s.msgs := rfl
@[simp] theorem State.setReg_waiters (a : Nat) (v : W64) : (s.setReg a v).waiters = s.waiters := rfl
@[simp] theorem State.setReg_net (a : Nat) (v : W64) : (s.setReg a v).net = s.net := rfl
@[simp] theorem State.setReg_ext (a : Nat) (v : W64) : (s.setReg a v).ext = s.ext := rfl
@[simp] theorem State.setReg_trail (a : Nat) (v : W64) : (s.setReg a v).trail = s.trail := rfl
@[simp] theorem State.setReg_host (a : Nat) (v : W64) : (s.setReg a v).host = s.host := rfl
@[simp] theorem State.setReg_parts (a : Nat) (v : W64) : (s.setReg a v).parts = s.parts := rfl
@[simp] theorem State.setReg_time (a : Nat) (v : W64) : (s.setReg a v).time = s.time := rfl
@[simp] theorem State.setReg_sec (a : Nat) (v : W64) : (s.setReg a v).sec = s.sec := rfl
@[simp] theorem State.setReg_phys (a : Nat) (v : W64) : (s.setReg a v).phys = s.phys := rfl
@[simp] theorem State.setReg_traces (a : Nat) (v : W64) : (s.setReg a v).traces = s.traces := rfl
@[simp] theorem State.setReg_notices (a : Nat) (v : W64) : (s.setReg a v).notices = s.notices := rfl
@[simp] theorem State.setReg_stops (a : Nat) (v : W64) : (s.setReg a v).stops = s.stops := rfl
@[simp] theorem State.setReg_free (a : Nat) (v : W64) : (s.setReg a v).free = s.free := rfl
@[simp] theorem State.setReg_pending (a : Nat) (v : W64) : (s.setReg a v).pending = s.pending := rfl

/-! ### setRf -/
@[simp] theorem State.setRf_mem (a : Nat) (f : Fld) (v : Nat) : (s.setRf a f v).mem = s.mem := rfl
@[simp] theorem State.setRf_cores (a : Nat) (f : Fld) (v : Nat) : (s.setRf a f v).cores = s.cores := rfl
@[simp] theorem State.setRf_clusters (a : Nat) (f : Fld) (v : Nat) : (s.setRf a f v).clusters = s.clusters := rfl
@[simp] theorem State.setRf_msgs (a : Nat) (f : Fld) (v : Nat) : (s.setRf a f v).msgs = s.msgs := rfl
@[simp] theorem State.setRf_waiters (a : Nat) (f : Fld) (v : Nat) : (s.setRf a f v).waiters = s.waiters := rfl
@[simp] theorem State.setRf_net (a : Nat) (f : Fld) (v : Nat) : (s.setRf a f v).net = s.net := rfl
@[simp] theorem State.setRf_ext (a : Nat) (f : Fld) (v : Nat) : (s.setRf a f v).ext = s.ext := rfl
@[simp] theorem State.setRf_trail (a : Nat) (f : Fld) (v : Nat) : (s.setRf a f v).trail = s.trail := rfl
@[simp] theorem State.setRf_host (a : Nat) (f : Fld) (v : Nat) : (s.setRf a f v).host = s.host := rfl
@[simp] theorem State.setRf_parts (a : Nat) (f : Fld) (v : Nat) : (s.setRf a f v).parts = s.parts := rfl
@[simp] theorem State.setRf_time (a : Nat) (f : Fld) (v : Nat) : (s.setRf a f v).time = s.time := rfl
@[simp] theorem State.setRf_sec (a : Nat) (f : Fld) (v : Nat) : (s.setRf a f v).sec = s.sec := rfl
@[simp] theorem State.setRf_phys (a : Nat) (f : Fld) (v : Nat) : (s.setRf a f v).phys = s.phys := rfl
@[simp] theorem State.setRf_traces (a : Nat) (f : Fld) (v : Nat) : (s.setRf a f v).traces = s.traces := rfl
@[simp] theorem State.setRf_notices (a : Nat) (f : Fld) (v : Nat) : (s.setRf a f v).notices = s.notices := rfl
@[simp] theorem State.setRf_stops (a : Nat) (f : Fld) (v : Nat) : (s.setRf a f v).stops = s.stops := rfl
@[simp] theorem State.setRf_free (a : Nat) (f : Fld) (v : Nat) : (s.setRf a f v).free = s.free := rfl
@[simp] theorem State.setRf_pending (a : Nat) (f : Fld) (v : Nat) : (s.setRf a f v).pending = s.pending := rfl

/-! ### bump -/
@[simp] theorem State.bump_mem (a : Nat) (f : Fld) (n : Nat) : (s.bump a f n).mem = s.mem := rfl
@[simp] theorem State.bump_cores (a : Nat) (f : Fld) (n : Nat) : (s.bump a f n).cores = s.cores := rfl
@[simp] theorem State.bump_clusters (a : Nat) (f : Fld) (n : Nat) : (s.bump a f n).clusters = s.clusters := rfl
@[simp] theorem State.bump_msgs (a : Nat) (f : Fld) (n : Nat) : (s.bump a f n).msgs = s.msgs := rfl
@[simp] theorem State.bump_waiters (a : Nat) (f : Fld) (n : Nat) : (s.bump a f n).waiters = s.waiters := rfl
@[simp] theorem State.bump_net (a : Nat) (f : Fld) (n : Nat) : (s.bump a f n).net = s.net := rfl
@[simp] theorem State.bump_ext (a : Nat) (f : Fld) (n : Nat) : (s.bump a f n).ext = s.ext := rfl
@[simp] theorem State.bump_trail (a : Nat) (f : Fld) (n : Nat) : (s.bump a f n).trail = s.trail := rfl
@[simp] theorem State.bump_host (a : Nat) (f : Fld) (n : Nat) : (s.bump a f n).host = s.host := rfl
@[simp] theorem State.bump_parts (a : Nat) (f : Fld) (n : Nat) : (s.bump a f n).parts = s.parts := rfl
@[simp] theorem State.bump_time (a : Nat) (f : Fld) (n : Nat) : (s.bump a f n).time = s.time := rfl
@[simp] theorem State.bump_sec (a : Nat) (f : Fld) (n : Nat) : (s.bump a f n).sec = s.sec := rfl
@[simp] theorem State.bump_phys (a : Nat) (f : Fld) (n : Nat) : (s.bump a f n).phys = s.phys := rfl
@[simp] theorem State.bump_traces (a : Nat) (f : Fld) (n : Nat) : (s.bump a f n).traces = s.traces := rfl
@[simp] theorem State.bump_notices (a : Nat) (f : Fld) (n : Nat) : (s.bump a f n).notices = s.notices := rfl
@[simp] theorem State.bump_stops (a : Nat) (f : Fld) (n : Nat) : (s.bump a f n).stops = s.stops := rfl
@[simp] theorem State.bump_free (a : Nat) (f : Fld) (n : Nat) : (s.bump a f n).free = s.free := rfl
@[simp] theorem State.bump_pending (a : Nat) (f : Fld) (n : Nat) : (s.bump a f n).pending = s.pending := rfl

/-! ### setCore -/
@[simp] theorem State.setCore_regs (k : Nat) (c : Core) : (s.setCore k c).regs = s.regs := rfl
@[simp] theorem State.setCore_mem (k : Nat) (c : Core) : (s.setCore k c).mem = s.mem := rfl
@[simp] theorem State.setCore_clusters (k : Nat) (c : Core) : (s.setCore k c).clusters = s.clusters := rfl
@[simp] theorem State.setCore_msgs (k : Nat) (c : Core) : (s.setCore k c).msgs = s.msgs := rfl
@[simp] theorem State.setCore_waiters (k : Nat) (c : Core) : (s.setCore k c).waiters = s.waiters := rfl
@[simp] theorem State.setCore_net (k : Nat) (c : Core) : (s.setCore k c).net = s.net := rfl
@[simp] theorem State.setCore_ext (k : Nat) (c : Core) : (s.setCore k c).ext = s.ext := rfl
@[simp] theorem State.setCore_trail (k : Nat) (c : Core) : (s.setCore k c).trail = s.trail := rfl
@[simp] theorem State.setCore_host (k : Nat) (c : Core) : (s.setCore k c).host = s.host := rfl
@[simp] theorem State.setCore_parts (k : Nat) (c : Core) : (s.setCore k c).parts = s.parts := rfl
@[simp] theorem State.setCore_time (k : Nat) (c : Core) : (s.setCore k c).time = s.time := rfl
@[simp] theorem State.setCore_sec (k : Nat) (c : Core) : (s.setCore k c).sec = s.sec := rfl
@[simp] theorem State.setCore_phys (k : Nat) (c : Core) : (s.setCore k c).phys = s.phys := rfl
@[simp] theorem State.setCore_traces (k : Nat) (c : Core) : (s.setCore k c).traces = s.traces := rfl
@[simp] theorem State.setCore_notices (k : Nat) (c : Core) : (s.setCore k c).notices = s.notices := rfl
@[simp] theorem State.setCore_stops (k : Nat) (c : Core) : (s.setCore k c).stops = s.stops := rfl
@[simp] theorem State.setCore_free (k : Nat) (c : Core) : (s.setCore k c).free = s.free := rfl
@[simp] theorem State.setCore_pending (k : Nat) (c : Core) : (s.setCore k c).pending = s.pending := rfl

/-! ### modCore -/
@[simp] theorem State.modCore_regs (k : Nat) (f : Core → Core) : (s.modCore k f).regs = s.regs := rfl
@[simp] theorem State.modCore_mem (k : Nat) (f : Core → Core) : (s.modCore k f).mem = s.mem := rfl
@[simp] theorem State.modCore_clusters (k : Nat) (f : Core → Core) : (s.modCore k f).clusters = s.clusters := rfl
@[simp] theorem State.modCore_msgs (k : Nat) (f : Core → Core) : (s.modCore k f).msgs = s.msgs := rfl
@[simp] theorem State.modCore_waiters (k : Nat) (f : Core → Core) : (s.modCore k f).waiters = s.waiters := rfl
@[simp] theorem State.modCore_net (k : Nat) (f : Core → Core) : (s.modCore k f).net = s.net := rfl
@[simp] theorem State.modCore_ext (k : Nat) (f : Core → Core) : (s.modCore k f).ext = s.ext := rfl
@[simp] theorem State.modCore_trail (k : Nat) (f : Core → Core) : (s.modCore k f).trail = s.trail := rfl
@[simp] theorem State.modCore_host (k : Nat) (f : Core → Core) : (s.modCore k f).host = s.host := rfl
@[simp] theorem State.modCore_parts (k : Nat) (f : Core → Core) : (s.modCore k f).parts = s.parts := rfl
@[simp] theorem State.modCore_time (k : Nat) (f : Core → Core) : (s.modCore k f).time = s.time := rfl
@[simp] theorem State.modCore_sec (k : Nat) (f : Core → Core) : (s.modCore k f).sec = s.sec := rfl
@[simp] theorem State.modCore_phys (k : Nat) (f : Core → Core) : (s.modCore k f).phys = s.phys := rfl
@[simp] theorem State.modCore_traces (k : Nat) (f : Core → Core) : (s.modCore k f).traces = s.traces := rfl
@[simp] theorem State.modCore_notices (k : Nat) (f : Core → Core) : (s.modCore k f).notices = s.notices := rfl
@[simp] theorem State.modCore_stops (k : Nat) (f : Core → Core) : (s.modCore k f).stops = s.stops := rfl
@[simp] theorem State.modCore_free (k : Nat) (f : Core → Core) : (s.modCore k f).free = s.free := rfl
@[simp] theorem State.modCore_pending (k : Nat) (f : Core → Core) : (s.modCore k f).pending = s.pending := rfl

/-! ### modCluster -/
@[simp] theorem State.modCluster_regs (u : Nat) (f : Cluster → Cluster) : (s.modCluster u f).regs = s.regs := rfl
@[simp] theorem State.modCluster_mem (u : Nat) (f : Cluster → Cluster) : (s.modCluster u f).mem = s.mem := rfl
@[simp] theorem State.modCluster_cores (u : Nat) (f : Cluster → Cluster) : (s.modCluster u f).cores = s.cores := rfl
@[simp] theorem State.modCluster_msgs (u : Nat) (f : Cluster → Cluster) : (s.modCluster u f).msgs = s.msgs := rfl
@[simp] theorem State.modCluster_waiters (u : Nat) (f : Cluster → Cluster) : (s.modCluster u f).waiters = s.waiters := rfl
@[simp] theorem State.modCluster_net (u : Nat) (f : Cluster → Cluster) : (s.modCluster u f).net = s.net := rfl
@[simp] theorem State.modCluster_ext (u : Nat) (f : Cluster → Cluster) : (s.modCluster u f).ext = s.ext := rfl
@[simp] theorem State.modCluster_trail (u : Nat) (f : Cluster → Cluster) : (s.modCluster u f).trail = s.trail := rfl
@[simp] theorem State.modCluster_host (u : Nat) (f : Cluster → Cluster) : (s.modCluster u f).host = s.host := rfl
@[simp] theorem State.modCluster_parts (u : Nat) (f : Cluster → Cluster) : (s.modCluster u f).parts = s.parts := rfl
@[simp] theorem State.modCluster_time (u : Nat) (f : Cluster → Cluster) : (s.modCluster u f).time = s.time := rfl
@[simp] theorem State.modCluster_sec (u : Nat) (f : Cluster → Cluster) : (s.modCluster u f).sec = s.sec := rfl
@[simp] theorem State.modCluster_phys (u : Nat) (f : Cluster → Cluster) : (s.modCluster u f).phys = s.phys := rfl
@[simp] theorem State.modCluster_traces (u : Nat) (f : Cluster → Cluster) : (s.modCluster u f).traces = s.traces := rfl
@[simp] theorem State.modCluster_notices (u : Nat) (f : Cluster → Cluster) : (s.modCluster u f).notices = s.notices := rfl
@[simp] theorem State.modCluster_stops (u : Nat) (f : Cluster → Cluster) : (s.modCluster u f).stops = s.stops := rfl
@[simp] theorem State.modCluster_free (u : Nat) (f : Cluster → Cluster) : (s.modCluster u f).free = s.free := rfl
@[simp] theorem State.modCluster_pending (u : Nat) (f : Cluster → Cluster) : (s.modCluster u f).pending = s.pending := rfl

/-! ### modMsg -/
@[simp] theorem State.modMsg_regs (k : Nat) (f : MsgUnit → MsgUnit) : (s.modMsg k f).regs = s.regs := rfl
@[simp] theorem State.modMsg_mem (k : Nat) (f : MsgUnit → MsgUnit) : (s.modMsg k f).mem = s.mem := rfl
@[simp] theorem State.modMsg_cores (k : Nat) (f : MsgUnit → MsgUnit) : (s.modMsg k f).cores = s.cores := rfl
@[simp] theorem State.modMsg_clusters (k : Nat) (f : MsgUnit → MsgUnit) : (s.modMsg k f).clusters = s.clusters := rfl
@[simp] theorem State.modMsg_waiters (k : Nat) (f : MsgUnit → MsgUnit) : (s.modMsg k f).waiters = s.waiters := rfl
@[simp] theorem State.modMsg_net (k : Nat) (f : MsgUnit → MsgUnit) : (s.modMsg k f).net = s.net := rfl
@[simp] theorem State.modMsg_ext (k : Nat) (f : MsgUnit → MsgUnit) : (s.modMsg k f).ext = s.ext := rfl
@[simp] theorem State.modMsg_trail (k : Nat) (f : MsgUnit → MsgUnit) : (s.modMsg k f).trail = s.trail := rfl
@[simp] theorem State.modMsg_host (k : Nat) (f : MsgUnit → MsgUnit) : (s.modMsg k f).host = s.host := rfl
@[simp] theorem State.modMsg_parts (k : Nat) (f : MsgUnit → MsgUnit) : (s.modMsg k f).parts = s.parts := rfl
@[simp] theorem State.modMsg_time (k : Nat) (f : MsgUnit → MsgUnit) : (s.modMsg k f).time = s.time := rfl
@[simp] theorem State.modMsg_sec (k : Nat) (f : MsgUnit → MsgUnit) : (s.modMsg k f).sec = s.sec := rfl
@[simp] theorem State.modMsg_phys (k : Nat) (f : MsgUnit → MsgUnit) : (s.modMsg k f).phys = s.phys := rfl
@[simp] theorem State.modMsg_traces (k : Nat) (f : MsgUnit → MsgUnit) : (s.modMsg k f).traces = s.traces := rfl
@[simp] theorem State.modMsg_notices (k : Nat) (f : MsgUnit → MsgUnit) : (s.modMsg k f).notices = s.notices := rfl
@[simp] theorem State.modMsg_stops (k : Nat) (f : MsgUnit → MsgUnit) : (s.modMsg k f).stops = s.stops := rfl
@[simp] theorem State.modMsg_free (k : Nat) (f : MsgUnit → MsgUnit) : (s.modMsg k f).free = s.free := rfl
@[simp] theorem State.modMsg_pending (k : Nat) (f : MsgUnit → MsgUnit) : (s.modMsg k f).pending = s.pending := rfl

/-! ### modQueue -/
@[simp] theorem State.modQueue_regs (k q : Nat) (f : Queue → Queue) : (s.modQueue k q f).regs = s.regs := rfl
@[simp] theorem State.modQueue_mem (k q : Nat) (f : Queue → Queue) : (s.modQueue k q f).mem = s.mem := rfl
@[simp] theorem State.modQueue_cores (k q : Nat) (f : Queue → Queue) : (s.modQueue k q f).cores = s.cores := rfl
@[simp] theorem State.modQueue_clusters (k q : Nat) (f : Queue → Queue) : (s.modQueue k q f).clusters = s.clusters := rfl
@[simp] theorem State.modQueue_waiters (k q : Nat) (f : Queue → Queue) : (s.modQueue k q f).waiters = s.waiters := rfl
@[simp] theorem State.modQueue_net (k q : Nat) (f : Queue → Queue) : (s.modQueue k q f).net = s.net := rfl
@[simp] theorem State.modQueue_ext (k q : Nat) (f : Queue → Queue) : (s.modQueue k q f).ext = s.ext := rfl
@[simp] theorem State.modQueue_trail (k q : Nat) (f : Queue → Queue) : (s.modQueue k q f).trail = s.trail := rfl
@[simp] theorem State.modQueue_host (k q : Nat) (f : Queue → Queue) : (s.modQueue k q f).host = s.host := rfl
@[simp] theorem State.modQueue_parts (k q : Nat) (f : Queue → Queue) : (s.modQueue k q f).parts = s.parts := rfl
@[simp] theorem State.modQueue_time (k q : Nat) (f : Queue → Queue) : (s.modQueue k q f).time = s.time := rfl
@[simp] theorem State.modQueue_sec (k q : Nat) (f : Queue → Queue) : (s.modQueue k q f).sec = s.sec := rfl
@[simp] theorem State.modQueue_phys (k q : Nat) (f : Queue → Queue) : (s.modQueue k q f).phys = s.phys := rfl
@[simp] theorem State.modQueue_traces (k q : Nat) (f : Queue → Queue) : (s.modQueue k q f).traces = s.traces := rfl
@[simp] theorem State.modQueue_notices (k q : Nat) (f : Queue → Queue) : (s.modQueue k q f).notices = s.notices := rfl
@[simp] theorem State.modQueue_stops (k q : Nat) (f : Queue → Queue) : (s.modQueue k q f).stops = s.stops := rfl
@[simp] theorem State.modQueue_free (k q : Nat) (f : Queue → Queue) : (s.modQueue k q f).free = s.free := rfl
@[simp] theorem State.modQueue_pending (k q : Nat) (f : Queue → Queue) : (s.modQueue k q f).pending = s.pending := rfl

/-! ### setStrand -/
@[simp] theorem State.setStrand_regs (k i : Nat) (x : Strand) : (s.setStrand k i x).regs = s.regs := rfl
@[simp] theorem State.setStrand_mem (k i : Nat) (x : Strand) : (s.setStrand k i x).mem = s.mem := rfl
@[simp] theorem State.setStrand_clusters (k i : Nat) (x : Strand) : (s.setStrand k i x).clusters = s.clusters := rfl
@[simp] theorem State.setStrand_msgs (k i : Nat) (x : Strand) : (s.setStrand k i x).msgs = s.msgs := rfl
@[simp] theorem State.setStrand_waiters (k i : Nat) (x : Strand) : (s.setStrand k i x).waiters = s.waiters := rfl
@[simp] theorem State.setStrand_net (k i : Nat) (x : Strand) : (s.setStrand k i x).net = s.net := rfl
@[simp] theorem State.setStrand_ext (k i : Nat) (x : Strand) : (s.setStrand k i x).ext = s.ext := rfl
@[simp] theorem State.setStrand_trail (k i : Nat) (x : Strand) : (s.setStrand k i x).trail = s.trail := rfl
@[simp] theorem State.setStrand_host (k i : Nat) (x : Strand) : (s.setStrand k i x).host = s.host := rfl
@[simp] theorem State.setStrand_parts (k i : Nat) (x : Strand) : (s.setStrand k i x).parts = s.parts := rfl
@[simp] theorem State.setStrand_time (k i : Nat) (x : Strand) : (s.setStrand k i x).time = s.time := rfl
@[simp] theorem State.setStrand_sec (k i : Nat) (x : Strand) : (s.setStrand k i x).sec = s.sec := rfl
@[simp] theorem State.setStrand_phys (k i : Nat) (x : Strand) : (s.setStrand k i x).phys = s.phys := rfl
@[simp] theorem State.setStrand_traces (k i : Nat) (x : Strand) : (s.setStrand k i x).traces = s.traces := rfl
@[simp] theorem State.setStrand_notices (k i : Nat) (x : Strand) : (s.setStrand k i x).notices = s.notices := rfl
@[simp] theorem State.setStrand_stops (k i : Nat) (x : Strand) : (s.setStrand k i x).stops = s.stops := rfl
@[simp] theorem State.setStrand_free (k i : Nat) (x : Strand) : (s.setStrand k i x).free = s.free := rfl
@[simp] theorem State.setStrand_pending (k i : Nat) (x : Strand) : (s.setStrand k i x).pending = s.pending := rfl

/-! ### modStrand -/
@[simp] theorem State.modStrand_regs (k i : Nat) (f : Strand → Strand) : (s.modStrand k i f).regs = s.regs := rfl
@[simp] theorem State.modStrand_mem (k i : Nat) (f : Strand → Strand) : (s.modStrand k i f).mem = s.mem := rfl
@[simp] theorem State.modStrand_clusters (k i : Nat) (f : Strand → Strand) : (s.modStrand k i f).clusters = s.clusters := rfl
@[simp] theorem State.modStrand_msgs (k i : Nat) (f : Strand → Strand) : (s.modStrand k i f).msgs = s.msgs := rfl
@[simp] theorem State.modStrand_waiters (k i : Nat) (f : Strand → Strand) : (s.modStrand k i f).waiters = s.waiters := rfl
@[simp] theorem State.modStrand_net (k i : Nat) (f : Strand → Strand) : (s.modStrand k i f).net = s.net := rfl
@[simp] theorem State.modStrand_ext (k i : Nat) (f : Strand → Strand) : (s.modStrand k i f).ext = s.ext := rfl
@[simp] theorem State.modStrand_trail (k i : Nat) (f : Strand → Strand) : (s.modStrand k i f).trail = s.trail := rfl
@[simp] theorem State.modStrand_host (k i : Nat) (f : Strand → Strand) : (s.modStrand k i f).host = s.host := rfl
@[simp] theorem State.modStrand_parts (k i : Nat) (f : Strand → Strand) : (s.modStrand k i f).parts = s.parts := rfl
@[simp] theorem State.modStrand_time (k i : Nat) (f : Strand → Strand) : (s.modStrand k i f).time = s.time := rfl
@[simp] theorem State.modStrand_sec (k i : Nat) (f : Strand → Strand) : (s.modStrand k i f).sec = s.sec := rfl
@[simp] theorem State.modStrand_phys (k i : Nat) (f : Strand → Strand) : (s.modStrand k i f).phys = s.phys := rfl
@[simp] theorem State.modStrand_traces (k i : Nat) (f : Strand → Strand) : (s.modStrand k i f).traces = s.traces := rfl
@[simp] theorem State.modStrand_notices (k i : Nat) (f : Strand → Strand) : (s.modStrand k i f).notices = s.notices := rfl
@[simp] theorem State.modStrand_stops (k i : Nat) (f : Strand → Strand) : (s.modStrand k i f).stops = s.stops := rfl
@[simp] theorem State.modStrand_free (k i : Nat) (f : Strand → Strand) : (s.modStrand k i f).free = s.free := rfl
@[simp] theorem State.modStrand_pending (k i : Nat) (f : Strand → Strand) : (s.modStrand k i f).pending = s.pending := rfl

/-! ### setByte -/
@[simp] theorem State.setByte_regs (a : Nat) (b : Byte) : (s.setByte a b).regs = s.regs := rfl
@[simp] theorem State.setByte_cores (a : Nat) (b : Byte) : (s.setByte a b).cores = s.cores := rfl
@[simp] theorem State.setByte_clusters (a : Nat) (b : Byte) : (s.setByte a b).clusters = s.clusters := rfl
@[simp] theorem State.setByte_msgs (a : Nat) (b : Byte) : (s.setByte a b).msgs = s.msgs := rfl
@[simp] theorem State.setByte_waiters (a : Nat) (b : Byte) : (s.setByte a b).waiters = s.waiters := rfl
@[simp] theorem State.setByte_net (a : Nat) (b : Byte) : (s.setByte a b).net = s.net := rfl
@[simp] theorem State.setByte_ext (a : Nat) (b : Byte) : (s.setByte a b).ext = s.ext := rfl
@[simp] theorem State.setByte_trail (a : Nat) (b : Byte) : (s.setByte a b).trail = s.trail := rfl
@[simp] theorem State.setByte_host (a : Nat) (b : Byte) : (s.setByte a b).host = s.host := rfl
@[simp] theorem State.setByte_parts (a : Nat) (b : Byte) : (s.setByte a b).parts = s.parts := rfl
@[simp] theorem State.setByte_time (a : Nat) (b : Byte) : (s.setByte a b).time = s.time := rfl
@[simp] theorem State.setByte_sec (a : Nat) (b : Byte) : (s.setByte a b).sec = s.sec := rfl
@[simp] theorem State.setByte_phys (a : Nat) (b : Byte) : (s.setByte a b).phys = s.phys := rfl
@[simp] theorem State.setByte_traces (a : Nat) (b : Byte) : (s.setByte a b).traces = s.traces := rfl
@[simp] theorem State.setByte_notices (a : Nat) (b : Byte) : (s.setByte a b).notices = s.notices := rfl
@[simp] theorem State.setByte_stops (a : Nat) (b : Byte) : (s.setByte a b).stops = s.stops := rfl
@[simp] theorem State.setByte_free (a : Nat) (b : Byte) : (s.setByte a b).free = s.free := rfl
@[simp] theorem State.setByte_pending (a : Nat) (b : Byte) : (s.setByte a b).pending = s.pending := rfl

/-! ### setBytes -/
@[simp] theorem State.setBytes_regs (a : Nat) (l : List Byte) : (s.setBytes a l).regs = s.regs := rfl
@[simp] theorem State.setBytes_cores (a : Nat) (l : List Byte) : (s.setBytes a l).cores = s.cores := rfl
@[simp] theorem State.setBytes_clusters (a : Nat) (l : List Byte) : (s.setBytes a l).clusters = s.clusters := rfl
@[simp] theorem State.setBytes_msgs (a : Nat) (l : List Byte) : (s.setBytes a l).msgs = s.msgs := rfl
@[simp] theorem State.setBytes_waiters (a : Nat) (l : List Byte) : (s.setBytes a l).waiters = s.waiters := rfl
@[simp] theorem State.setBytes_net (a : Nat) (l : List Byte) : (s.setBytes a l).net = s.net := rfl
@[simp] theorem State.setBytes_ext (a : Nat) (l : List Byte) : (s.setBytes a l).ext = s.ext := rfl
@[simp] theorem State.setBytes_trail (a : Nat) (l : List Byte) : (s.setBytes a l).trail = s.trail := rfl
@[simp] theorem State.setBytes_host (a : Nat) (l : List Byte) : (s.setBytes a l).host = s.host := rfl
@[simp] theorem State.setBytes_parts (a : Nat) (l : List Byte) : (s.setBytes a l).parts = s.parts := rfl
@[simp] theorem State.setBytes_time (a : Nat) (l : List Byte) : (s.setBytes a l).time = s.time := rfl
@[simp] theorem State.setBytes_sec (a : Nat) (l : List Byte) : (s.setBytes a l).sec = s.sec := rfl
@[simp] theorem State.setBytes_phys (a : Nat) (l : List Byte) : (s.setBytes a l).phys = s.phys := rfl
@[simp] theorem State.setBytes_traces (a : Nat) (l : List Byte) : (s.setBytes a l).traces = s.traces := rfl
@[simp] theorem State.setBytes_notices (a : Nat) (l : List Byte) : (s.setBytes a l).notices = s.notices := rfl
@[simp] theorem State.setBytes_stops (a : Nat) (l : List Byte) : (s.setBytes a l).stops = s.stops := rfl
@[simp] theorem State.setBytes_free (a : Nat) (l : List Byte) : (s.setBytes a l).free = s.free := rfl
@[simp] theorem State.setBytes_pending (a : Nat) (l : List Byte) : (s.setBytes a l).pending = s.pending := rfl

/-! ### setNum -/
@[simp] theorem State.setNum_regs (a n x : Nat) : (s.setNum a n x).regs = s.regs := rfl
@[simp] theorem State.setNum_cores (a n x : Nat) : (s.setNum a n x).cores = s.cores := rfl
@[simp] theorem State.setNum_clusters (a n x : Nat) : (s.setNum a n x).clusters = s.clusters := rfl
@[simp] theorem State.setNum_msgs (a n x : Nat) : (s.setNum a n x).msgs = s.msgs := rfl
@[simp] theorem State.setNum_waiters (a n x : Nat) : (s.setNum a n x).waiters = s.waiters := rfl
@[simp] theorem State.setNum_net (a n x : Nat) : (s.setNum a n x).net = s.net := rfl
@[simp] theorem State.setNum_ext (a n x : Nat) : (s.setNum a n x).ext = s.ext := rfl
@[simp] theorem State.setNum_trail (a n x : Nat) : (s.setNum a n x).trail = s.trail := rfl
@[simp] theorem State.setNum_host (a n x : Nat) : (s.setNum a n x).host = s.host := rfl
@[simp] theorem State.setNum_parts (a n x : Nat) : (s.setNum a n x).parts = s.parts := rfl
@[simp] theorem State.setNum_time (a n x : Nat) : (s.setNum a n x).time = s.time := rfl
@[simp] theorem State.setNum_sec (a n x : Nat) : (s.setNum a n x).sec = s.sec := rfl
@[simp] theorem State.setNum_phys (a n x : Nat) : (s.setNum a n x).phys = s.phys := rfl
@[simp] theorem State.setNum_traces (a n x : Nat) : (s.setNum a n x).traces = s.traces := rfl
@[simp] theorem State.setNum_notices (a n x : Nat) : (s.setNum a n x).notices = s.notices := rfl
@[simp] theorem State.setNum_stops (a n x : Nat) : (s.setNum a n x).stops = s.stops := rfl
@[simp] theorem State.setNum_free (a n x : Nat) : (s.setNum a n x).free = s.free := rfl
@[simp] theorem State.setNum_pending (a n x : Nat) : (s.setNum a n x).pending = s.pending := rfl

/-! ### zeroRange -/
@[simp] theorem State.zeroRange_regs (a n : Nat) : (s.zeroRange a n).regs = s.regs := rfl
@[simp] theorem State.zeroRange_cores (a n : Nat) : (s.zeroRange a n).cores = s.cores := rfl
@[simp] theorem State.zeroRange_clusters (a n : Nat) : (s.zeroRange a n).clusters = s.clusters := rfl
@[simp] theorem State.zeroRange_msgs (a n : Nat) : (s.zeroRange a n).msgs = s.msgs := rfl
@[simp] theorem State.zeroRange_waiters (a n : Nat) : (s.zeroRange a n).waiters = s.waiters := rfl
@[simp] theorem State.zeroRange_net (a n : Nat) : (s.zeroRange a n).net = s.net := rfl
@[simp] theorem State.zeroRange_ext (a n : Nat) : (s.zeroRange a n).ext = s.ext := rfl
@[simp] theorem State.zeroRange_trail (a n : Nat) : (s.zeroRange a n).trail = s.trail := rfl
@[simp] theorem State.zeroRange_host (a n : Nat) : (s.zeroRange a n).host = s.host := rfl
@[simp] theorem State.zeroRange_parts (a n : Nat) : (s.zeroRange a n).parts = s.parts := rfl
@[simp] theorem State.zeroRange_time (a n : Nat) : (s.zeroRange a n).time = s.time := rfl
@[simp] theorem State.zeroRange_sec (a n : Nat) : (s.zeroRange a n).sec = s.sec := rfl
@[simp] theorem State.zeroRange_phys (a n : Nat) : (s.zeroRange a n).phys = s.phys := rfl
@[simp] theorem State.zeroRange_traces (a n : Nat) : (s.zeroRange a n).traces = s.traces := rfl
@[simp] theorem State.zeroRange_notices (a n : Nat) : (s.zeroRange a n).notices = s.notices := rfl
@[simp] theorem State.zeroRange_stops (a n : Nat) : (s.zeroRange a n).stops = s.stops := rfl
@[simp] theorem State.zeroRange_free (a n : Nat) : (s.zeroRange a n).free = s.free := rfl
@[simp] theorem State.zeroRange_pending (a n : Nat) : (s.zeroRange a n).pending = s.pending := rfl

/-! ### modHost -/
@[simp] theorem State.modHost_regs (f : HostState → HostState) : (s.modHost f).regs = s.regs := rfl
@[simp] theorem State.modHost_mem (f : HostState → HostState) : (s.modHost f).mem = s.mem := rfl
@[simp] theorem State.modHost_cores (f : HostState → HostState) : (s.modHost f).cores = s.cores := rfl
@[simp] theorem State.modHost_clusters (f : HostState → HostState) : (s.modHost f).clusters = s.clusters := rfl
@[simp] theorem State.modHost_msgs (f : HostState → HostState) : (s.modHost f).msgs = s.msgs := rfl
@[simp] theorem State.modHost_waiters (f : HostState → HostState) : (s.modHost f).waiters = s.waiters := rfl
@[simp] theorem State.modHost_net (f : HostState → HostState) : (s.modHost f).net = s.net := rfl
@[simp] theorem State.modHost_ext (f : HostState → HostState) : (s.modHost f).ext = s.ext := rfl
@[simp] theorem State.modHost_trail (f : HostState → HostState) : (s.modHost f).trail = s.trail := rfl
@[simp] theorem State.modHost_parts (f : HostState → HostState) : (s.modHost f).parts = s.parts := rfl
@[simp] theorem State.modHost_time (f : HostState → HostState) : (s.modHost f).time = s.time := rfl
@[simp] theorem State.modHost_sec (f : HostState → HostState) : (s.modHost f).sec = s.sec := rfl
@[simp] theorem State.modHost_phys (f : HostState → HostState) : (s.modHost f).phys = s.phys := rfl
@[simp] theorem State.modHost_traces (f : HostState → HostState) : (s.modHost f).traces = s.traces := rfl
@[simp] theorem State.modHost_notices (f : HostState → HostState) : (s.modHost f).notices = s.notices := rfl
@[simp] theorem State.modHost_stops (f : HostState → HostState) : (s.modHost f).stops = s.stops := rfl
@[simp] theorem State.modHost_free (f : HostState → HostState) : (s.modHost f).free = s.free := rfl
@[simp] theorem State.modHost_pending (f : HostState → HostState) : (s.modHost f).pending = s.pending := rfl

/-! ### modSession -/
@[simp] theorem State.modSession_regs (n : Nat) (f : Session → Session) : (s.modSession n f).regs = s.regs := rfl
@[simp] theorem State.modSession_mem (n : Nat) (f : Session → Session) : (s.modSession n f).mem = s.mem := rfl
@[simp] theorem State.modSession_cores (n : Nat) (f : Session → Session) : (s.modSession n f).cores = s.cores := rfl
@[simp] theorem State.modSession_clusters (n : Nat) (f : Session → Session) : (s.modSession n f).clusters = s.clusters := rfl
@[simp] theorem State.modSession_msgs (n : Nat) (f : Session → Session) : (s.modSession n f).msgs = s.msgs := rfl
@[simp] theorem State.modSession_waiters (n : Nat) (f : Session → Session) : (s.modSession n f).waiters = s.waiters := rfl
@[simp] theorem State.modSession_net (n : Nat) (f : Session → Session) : (s.modSession n f).net = s.net := rfl
@[simp] theorem State.modSession_ext (n : Nat) (f : Session → Session) : (s.modSession n f).ext = s.ext := rfl
@[simp] theorem State.modSession_trail (n : Nat) (f : Session → Session) : (s.modSession n f).trail = s.trail := rfl
@[simp] theorem State.modSession_parts (n : Nat) (f : Session → Session) : (s.modSession n f).parts = s.parts := rfl
@[simp] theorem State.modSession_time (n : Nat) (f : Session → Session) : (s.modSession n f).time = s.time := rfl
@[simp] theorem State.modSession_sec (n : Nat) (f : Session → Session) : (s.modSession n f).sec = s.sec := rfl
@[simp] theorem State.modSession_phys (n : Nat) (f : Session → Session) : (s.modSession n f).phys = s.phys := rfl
@[simp] theorem State.modSession_traces (n : Nat) (f : Session → Session) : (s.modSession n f).traces = s.traces := rfl
@[simp] theorem State.modSession_notices (n : Nat) (f : Session → Session) : (s.modSession n f).notices = s.notices := rfl
@[simp] theorem State.modSession_stops (n : Nat) (f : Session → Session) : (s.modSession n f).stops = s.stops := rfl
@[simp] theorem State.modSession_free (n : Nat) (f : Session → Session) : (s.modSession n f).free = s.free := rfl
@[simp] theorem State.modSession_pending (n : Nat) (f : Session → Session) : (s.modSession n f).pending = s.pending := rfl

/-! ### modPart -/
@[simp] theorem State.modPart_regs (p : Nat) (f : Machine.Partition → Machine.Partition) : (s.modPart p f).regs = s.regs := rfl
@[simp] theorem State.modPart_mem (p : Nat) (f : Machine.Partition → Machine.Partition) : (s.modPart p f).mem = s.mem := rfl
@[simp] theorem State.modPart_cores (p : Nat) (f : Machine.Partition → Machine.Partition) : (s.modPart p f).cores = s.cores := rfl
@[simp] theorem State.modPart_clusters (p : Nat) (f : Machine.Partition → Machine.Partition) : (s.modPart p f).clusters = s.clusters := rfl
@[simp] theorem State.modPart_msgs (p : Nat) (f : Machine.Partition → Machine.Partition) : (s.modPart p f).msgs = s.msgs := rfl
@[simp] theorem State.modPart_waiters (p : Nat) (f : Machine.Partition → Machine.Partition) : (s.modPart p f).waiters = s.waiters := rfl
@[simp] theorem State.modPart_net (p : Nat) (f : Machine.Partition → Machine.Partition) : (s.modPart p f).net = s.net := rfl
@[simp] theorem State.modPart_ext (p : Nat) (f : Machine.Partition → Machine.Partition) : (s.modPart p f).ext = s.ext := rfl
@[simp] theorem State.modPart_trail (p : Nat) (f : Machine.Partition → Machine.Partition) : (s.modPart p f).trail = s.trail := rfl
@[simp] theorem State.modPart_host (p : Nat) (f : Machine.Partition → Machine.Partition) : (s.modPart p f).host = s.host := rfl
@[simp] theorem State.modPart_time (p : Nat) (f : Machine.Partition → Machine.Partition) : (s.modPart p f).time = s.time := rfl
@[simp] theorem State.modPart_sec (p : Nat) (f : Machine.Partition → Machine.Partition) : (s.modPart p f).sec = s.sec := rfl
@[simp] theorem State.modPart_phys (p : Nat) (f : Machine.Partition → Machine.Partition) : (s.modPart p f).phys = s.phys := rfl
@[simp] theorem State.modPart_traces (p : Nat) (f : Machine.Partition → Machine.Partition) : (s.modPart p f).traces = s.traces := rfl
@[simp] theorem State.modPart_notices (p : Nat) (f : Machine.Partition → Machine.Partition) : (s.modPart p f).notices = s.notices := rfl
@[simp] theorem State.modPart_stops (p : Nat) (f : Machine.Partition → Machine.Partition) : (s.modPart p f).stops = s.stops := rfl
@[simp] theorem State.modPart_free (p : Nat) (f : Machine.Partition → Machine.Partition) : (s.modPart p f).free = s.free := rfl
@[simp] theorem State.modPart_pending (p : Nat) (f : Machine.Partition → Machine.Partition) : (s.modPart p f).pending = s.pending := rfl

/-! ### modPhys -/
@[simp] theorem State.modPhys_regs (f : PhysState → PhysState) : (s.modPhys f).regs = s.regs := rfl
@[simp] theorem State.modPhys_mem (f : PhysState → PhysState) : (s.modPhys f).mem = s.mem := rfl
@[simp] theorem State.modPhys_cores (f : PhysState → PhysState) : (s.modPhys f).cores = s.cores := rfl
@[simp] theorem State.modPhys_clusters (f : PhysState → PhysState) : (s.modPhys f).clusters = s.clusters := rfl
@[simp] theorem State.modPhys_msgs (f : PhysState → PhysState) : (s.modPhys f).msgs = s.msgs := rfl
@[simp] theorem State.modPhys_waiters (f : PhysState → PhysState) : (s.modPhys f).waiters = s.waiters := rfl
@[simp] theorem State.modPhys_net (f : PhysState → PhysState) : (s.modPhys f).net = s.net := rfl
@[simp] theorem State.modPhys_ext (f : PhysState → PhysState) : (s.modPhys f).ext = s.ext := rfl
@[simp] theorem State.modPhys_trail (f : PhysState → PhysState) : (s.modPhys f).trail = s.trail := rfl
@[simp] theorem State.modPhys_host (f : PhysState → PhysState) : (s.modPhys f).host = s.host := rfl
@[simp] theorem State.modPhys_parts (f : PhysState → PhysState) : (s.modPhys f).parts = s.parts := rfl
@[simp] theorem State.modPhys_time (f : PhysState → PhysState) : (s.modPhys f).time = s.time := rfl
@[simp] theorem State.modPhys_sec (f : PhysState → PhysState) : (s.modPhys f).sec = s.sec := rfl
@[simp] theorem State.modPhys_traces (f : PhysState → PhysState) : (s.modPhys f).traces = s.traces := rfl
@[simp] theorem State.modPhys_notices (f : PhysState → PhysState) : (s.modPhys f).notices = s.notices := rfl
@[simp] theorem State.modPhys_stops (f : PhysState → PhysState) : (s.modPhys f).stops = s.stops := rfl
@[simp] theorem State.modPhys_free (f : PhysState → PhysState) : (s.modPhys f).free = s.free := rfl
@[simp] theorem State.modPhys_pending (f : PhysState → PhysState) : (s.modPhys f).pending = s.pending := rfl

/-! ### modSec -/
@[simp] theorem State.modSec_regs (f : SecState → SecState) : (s.modSec f).regs = s.regs := rfl
@[simp] theorem State.modSec_mem (f : SecState → SecState) : (s.modSec f).mem = s.mem := rfl
@[simp] theorem State.modSec_cores (f : SecState → SecState) : (s.modSec f).cores = s.cores := rfl
@[simp] theorem State.modSec_clusters (f : SecState → SecState) : (s.modSec f).clusters = s.clusters := rfl
@[simp] theorem State.modSec_msgs (f : SecState → SecState) : (s.modSec f).msgs = s.msgs := rfl
@[simp] theorem State.modSec_waiters (f : SecState → SecState) : (s.modSec f).waiters = s.waiters := rfl
@[simp] theorem State.modSec_net (f : SecState → SecState) : (s.modSec f).net = s.net := rfl
@[simp] theorem State.modSec_ext (f : SecState → SecState) : (s.modSec f).ext = s.ext := rfl
@[simp] theorem State.modSec_trail (f : SecState → SecState) : (s.modSec f).trail = s.trail := rfl
@[simp] theorem State.modSec_host (f : SecState → SecState) : (s.modSec f).host = s.host := rfl
@[simp] theorem State.modSec_parts (f : SecState → SecState) : (s.modSec f).parts = s.parts := rfl
@[simp] theorem State.modSec_time (f : SecState → SecState) : (s.modSec f).time = s.time := rfl
@[simp] theorem State.modSec_phys (f : SecState → SecState) : (s.modSec f).phys = s.phys := rfl
@[simp] theorem State.modSec_traces (f : SecState → SecState) : (s.modSec f).traces = s.traces := rfl
@[simp] theorem State.modSec_notices (f : SecState → SecState) : (s.modSec f).notices = s.notices := rfl
@[simp] theorem State.modSec_stops (f : SecState → SecState) : (s.modSec f).stops = s.stops := rfl
@[simp] theorem State.modSec_free (f : SecState → SecState) : (s.modSec f).free = s.free := rfl
@[simp] theorem State.modSec_pending (f : SecState → SecState) : (s.modSec f).pending = s.pending := rfl

/-! ### modPort -/
@[simp] theorem State.modPort_regs (p : Nat) (f : TrailPort → TrailPort) : (s.modPort p f).regs = s.regs := rfl
@[simp] theorem State.modPort_mem (p : Nat) (f : TrailPort → TrailPort) : (s.modPort p f).mem = s.mem := rfl
@[simp] theorem State.modPort_cores (p : Nat) (f : TrailPort → TrailPort) : (s.modPort p f).cores = s.cores := rfl
@[simp] theorem State.modPort_clusters (p : Nat) (f : TrailPort → TrailPort) : (s.modPort p f).clusters = s.clusters := rfl
@[simp] theorem State.modPort_msgs (p : Nat) (f : TrailPort → TrailPort) : (s.modPort p f).msgs = s.msgs := rfl
@[simp] theorem State.modPort_waiters (p : Nat) (f : TrailPort → TrailPort) : (s.modPort p f).waiters = s.waiters := rfl
@[simp] theorem State.modPort_net (p : Nat) (f : TrailPort → TrailPort) : (s.modPort p f).net = s.net := rfl
@[simp] theorem State.modPort_ext (p : Nat) (f : TrailPort → TrailPort) : (s.modPort p f).ext = s.ext := rfl
@[simp] theorem State.modPort_host (p : Nat) (f : TrailPort → TrailPort) : (s.modPort p f).host = s.host := rfl
@[simp] theorem State.modPort_parts (p : Nat) (f : TrailPort → TrailPort) : (s.modPort p f).parts = s.parts := rfl
@[simp] theorem State.modPort_time (p : Nat) (f : TrailPort → TrailPort) : (s.modPort p f).time = s.time := rfl
@[simp] theorem State.modPort_sec (p : Nat) (f : TrailPort → TrailPort) : (s.modPort p f).sec = s.sec := rfl
@[simp] theorem State.modPort_phys (p : Nat) (f : TrailPort → TrailPort) : (s.modPort p f).phys = s.phys := rfl
@[simp] theorem State.modPort_traces (p : Nat) (f : TrailPort → TrailPort) : (s.modPort p f).traces = s.traces := rfl
@[simp] theorem State.modPort_notices (p : Nat) (f : TrailPort → TrailPort) : (s.modPort p f).notices = s.notices := rfl
@[simp] theorem State.modPort_stops (p : Nat) (f : TrailPort → TrailPort) : (s.modPort p f).stops = s.stops := rfl
@[simp] theorem State.modPort_free (p : Nat) (f : TrailPort → TrailPort) : (s.modPort p f).free = s.free := rfl
@[simp] theorem State.modPort_pending (p : Nat) (f : TrailPort → TrailPort) : (s.modPort p f).pending = s.pending := rfl

/-! ### fresh -/
@[simp] theorem State.fresh_regs : (s.fresh).2.regs = s.regs := rfl
@[simp] theorem State.fresh_mem : (s.fresh).2.mem = s.mem := rfl
@[simp] theorem State.fresh_cores : (s.fresh).2.cores = s.cores := rfl
@[simp] theorem State.fresh_clusters : (s.fresh).2.clusters = s.clusters := rfl
@[simp] theorem State.fresh_msgs : (s.fresh).2.msgs = s.msgs := rfl
@[simp] theorem State.fresh_waiters : (s.fresh).2.waiters = s.waiters := rfl
@[simp] theorem State.fresh_net : (s.fresh).2.net = s.net := rfl
@[simp] theorem State.fresh_ext : (s.fresh).2.ext = s.ext := rfl
@[simp] theorem State.fresh_trail : (s.fresh).2.trail = s.trail := rfl
@[simp] theorem State.fresh_host : (s.fresh).2.host = s.host := rfl
@[simp] theorem State.fresh_parts : (s.fresh).2.parts = s.parts := rfl
@[simp] theorem State.fresh_time : (s.fresh).2.time = s.time := rfl
@[simp] theorem State.fresh_sec : (s.fresh).2.sec = s.sec := rfl
@[simp] theorem State.fresh_phys : (s.fresh).2.phys = s.phys := rfl
@[simp] theorem State.fresh_traces : (s.fresh).2.traces = s.traces := rfl
@[simp] theorem State.fresh_notices : (s.fresh).2.notices = s.notices := rfl
@[simp] theorem State.fresh_stops : (s.fresh).2.stops = s.stops := rfl
@[simp] theorem State.fresh_pending : (s.fresh).2.pending = s.pending := rfl
@[simp] theorem State.fresh_free : (s.fresh).2.free = s.free + 1 := rfl

end Sys2Proof.Machine
end

