-- ==== Sys2Proof/Laws/Kept.lean ====
section
/-! SUPPORT. What every operation keeps: the canonical form of the state's maps, and the queue of commands. -/

namespace Sys2Proof.Machine

/-- The queue of commands is the same, and the canonical form is kept. -/
structure Kept (s t : State) : Prop where
  queue : t.pending = s.pending
  form : s.wf = true → t.wf = true

theorem Kept.refl (s : State) : Kept s s := ⟨rfl, id⟩
theorem Kept.trans {s t u : State} (h : Kept s t) (g : Kept t u) : Kept s u := ⟨g.queue.trans h.queue, fun w => g.form (h.form w)⟩

/-- A step that changes no map and not the queue. -/
theorem Kept.of_maps {s t : State} (h0 : t.pending = s.pending) (h1 : t.mem = s.mem) (h2 : t.regs = s.regs) (h3 : t.cores = s.cores)
    (h4 : t.clusters = s.clusters) (h5 : t.msgs = s.msgs) (h6 : t.trail = s.trail) : Kept s t :=
  ⟨h0, fun w => by rw [State.wf_iff] at w ⊢; rwa [h1, h2, h3, h4, h5, h6]⟩

/-- A list of steps, each of which keeps them. -/
theorem Kept.foldl {α : Type} {f : State → α → State} (h : ∀ s x, Kept s (f s x)) (l : List α) (s : State) : Kept s (l.foldl f s) := by
  induction l generalizing s with
  | nil => exact Kept.refl s
  | cons x l ih => exact (h s x).trans (ih (f s x))

theorem Kept.ite {c : Prop} [Decidable c] {s t u : State} (h : c → Kept s t) (g : ¬c → Kept s u) : Kept s (if c then t else u) := by
  by_cases hc : c
  · rw [if_pos hc]; exact h hc
  · rw [if_neg hc]; exact g hc

variable (s : State)

theorem kept_setReg (a : Nat) (v : W64) : Kept s (s.setReg a v) :=
  ⟨rfl, fun w => by
    obtain ⟨h1, h2, h3, h4, h5, h6⟩ := State.wf_iff.1 w
    exact State.wf_iff.2 ⟨h1, Sparse.wf_set h2 a v, h3, h4, h5, h6⟩⟩
theorem kept_setRf (a : Nat) (f : Fld) (v : Nat) : Kept s (s.setRf a f v) := kept_setReg s a _
theorem kept_bump (a : Nat) (f : Fld) (n : Nat) : Kept s (s.bump a f n) := kept_setRf s a f _

theorem kept_setCore (k : Nat) (c : Core) : Kept s (s.setCore k c) :=
  ⟨rfl, fun w => by
    obtain ⟨h1, h2, h3, h4, h5, h6⟩ := State.wf_iff.1 w
    exact State.wf_iff.2 ⟨h1, h2, Sparse.wf_set h3 k c, h4, h5, h6⟩⟩
theorem kept_modCore (k : Nat) (f : Core → Core) : Kept s (s.modCore k f) := kept_setCore s k _
theorem kept_setStrand (k i : Nat) (x : Strand) : Kept s (s.setStrand k i x) := kept_modCore s k _
theorem kept_modStrand (k i : Nat) (f : Strand → Strand) : Kept s (s.modStrand k i f) := kept_setStrand s k i _

theorem kept_modCluster (u : Nat) (f : Cluster → Cluster) : Kept s (s.modCluster u f) :=
  ⟨rfl, fun w => by
    obtain ⟨h1, h2, h3, h4, h5, h6⟩ := State.wf_iff.1 w
    exact State.wf_iff.2 ⟨h1, h2, h3, Sparse.wf_set h4 u _, h5, h6⟩⟩
theorem kept_modMsg (k : Nat) (f : MsgUnit → MsgUnit) : Kept s (s.modMsg k f) :=
  ⟨rfl, fun w => by
    obtain ⟨h1, h2, h3, h4, h5, h6⟩ := State.wf_iff.1 w
    exact State.wf_iff.2 ⟨h1, h2, h3, h4, Sparse.wf_set h5 k _, h6⟩⟩
theorem kept_modQueue (k q : Nat) (f : Queue → Queue) : Kept s (s.modQueue k q f) := kept_modMsg s k _
theorem kept_modPort (p : Nat) (f : TrailPort → TrailPort) : Kept s (s.modPort p f) :=
  ⟨rfl, fun w => by
    obtain ⟨h1, h2, h3, h4, h5, h6⟩ := State.wf_iff.1 w
    exact State.wf_iff.2 ⟨h1, h2, h3, h4, h5, Sparse.wf_set h6 p _⟩⟩

theorem kept_setByte (a : Nat) (b : Byte) : Kept s (s.setByte a b) :=
  ⟨rfl, fun w => by
    obtain ⟨h1, h2, h3, h4, h5, h6⟩ := State.wf_iff.1 w
    exact State.wf_iff.2 ⟨Sparse.wf_set h1 a b, h2, h3, h4, h5, h6⟩⟩
theorem kept_setBytes (a : Nat) (l : List Byte) : Kept s (s.setBytes a l) :=
  ⟨rfl, fun w => by
    obtain ⟨h1, h2, h3, h4, h5, h6⟩ := State.wf_iff.1 w
    exact State.wf_iff.2 ⟨Sparse.wf_setRun h1 a l, h2, h3, h4, h5, h6⟩⟩
theorem kept_setNum (a n x : Nat) : Kept s (s.setNum a n x) := kept_setBytes s a _
theorem kept_zeroRange (a n : Nat) : Kept s (s.zeroRange a n) :=
  ⟨rfl, fun w => by
    obtain ⟨h1, h2, h3, h4, h5, h6⟩ := State.wf_iff.1 w
    exact State.wf_iff.2 ⟨Sparse.wf_clearRange h1 a (a + n), h2, h3, h4, h5, h6⟩⟩

theorem kept_fresh : Kept s s.fresh.2 := .of_maps rfl rfl rfl rfl rfl rfl rfl
theorem kept_modHost (f : HostState → HostState) : Kept s (s.modHost f) := .of_maps rfl rfl rfl rfl rfl rfl rfl
theorem kept_modSession (n : Nat) (f : Session → Session) : Kept s (s.modSession n f) := kept_modHost s _
theorem kept_modPart (p : Nat) (f : Machine.Partition → Machine.Partition) : Kept s (s.modPart p f) := .of_maps rfl rfl rfl rfl rfl rfl rfl
theorem kept_modPhys (f : PhysState → PhysState) : Kept s (s.modPhys f) := .of_maps rfl rfl rfl rfl rfl rfl rfl
theorem kept_modSec (f : SecState → SecState) : Kept s (s.modSec f) := .of_maps rfl rfl rfl rfl rfl rfl rfl
theorem kept_newTag : Kept s s.newTag.2 := .of_maps rfl rfl rfl rfl rfl rfl rfl
theorem kept_tick : Kept s s.tick := by
  unfold State.tick
  exact Kept.ite (fun _ => .of_maps rfl rfl rfl rfl rfl rfl rfl) fun _ => .refl s

/-- Records of bytes written by a trace unit (R461). -/
theorem kept_trace (k i ev : Nat) (pc : W48) (extra : Nat) : Kept s (s.trace k i ev pc extra) := by
  unfold State.trace
  exact Kept.foldl (fun s t => (kept_setBytes s _ _).trans (kept_setRf _ _ _ _)) _ s

theorem kept_countLost (k i t : Nat) : Kept s (s.countLost k i t) := by
  unfold State.countLost
  split
  · exact .refl s
  · exact (kept_bump s _ _ _).trans (kept_modStrand _ _ _ _)
theorem kept_atSlot (k i t : Nat) : Kept s (s.atSlot k i t) := (kept_modCore s k _).trans (kept_countLost _ k i t)
theorem kept_issued (k i t : Nat) : Kept s (s.issued k i t) := (kept_modStrand s k i _).trans (kept_bump _ _ _ _)
theorem kept_setRun (k i : Nat) (r : Run) (l : Option (Nat × Lost)) : Kept s (s.setRun k i r l) := kept_modStrand s k i _

end Sys2Proof.Machine
end

