-- ==== Sys2Proof/WellFormed.lean ====
section
/-! DEFINITION. Well-formed commands: what each names exists on the XM1 (R10, Tables 0-4, 1-4, 8-1, 8-5). Field values that an instruction
or a register refuses are no matter of form: the meaning deals with them. -/

namespace Sys2Proof

/-- A strand of a compute core or of a steward core. -/
def Who.wf (w : Who) : Bool := decide (w.core < 484) && decide (w.strand < 4)

/-- An endpoint code of Table 8-5. -/
def epWf (ep : BitVec 12) : Bool :=
  let site := ep.toNat / 256
  let unit := ep.toNat % 256
  (decide (site < 12) && (decide (unit < 40) || (decide (0x30 ≤ unit) && decide (unit < 0x34))))
    || ((site == 12 || site == 13) && (decide (unit < 9) || (decide (0x10 ≤ unit) && decide (unit < 0x16))))
    || (site == 12 && (unit == 0x20 || unit == 0x21))

def Node.wf : Node → Bool
  | .router c r => decide (c < 12) && decide (r < 40)
  | .hub c => decide (c < 12)
  | .die _ => true

/-- A port that a node has (R236). -/
def Port.wfAt (p : Port) (n : Node) : Bool :=
  match n, p with
  | .router _ _, .n | .router _ _, .s | .router _ _, .e | .router _ _, .w | .router _ _, .tap => true
  | .router _ _, _ => false
  | .hub _, .hubPort x => decide (x < 8)
  | .hub _, .n | .hub _, .s | .hub _, .e | .hub _, .w | .hub _, .units => true
  | .hub c, .io x => x == c % 4
  | .hub _, .tap => false
  | .die _, .io x => decide (x < 4)
  | .die _, .units => true
  | .die _, _ => false

/-- A bank that can be switched (R205): the queue RAM has none. -/
def BankId.wf : BankId → Bool
  | .ls k .ws n | .ls k .as n => decide (k < 484) && decide (n < 16)
  | .ls k .ps n => decide (k < 484) && decide (n < 8)
  | .ls _ .qram _ => false
  | .clm u n => decide (u < 12) && decide (n < 48)

def ExtMem.wf : ExtMem → Bool
  | .hbm n => decide (n < 24)
  | .ddr n => decide (n < 12)

def Failure.wf : Failure → Bool
  | .coreStore k _ | .coreInternal k => decide (k < 480)
  | .clm u b _ => decide (u < 12) && decide (b < 48)
  | .clusterInternal u => decide (u < 12)
  | .poison k pa => decide (k < 480) && decide (pa < 2 ^ 52)

def JtagTarget.wf : JtagTarget → Bool
  | .sram o => decide (o < 2 ^ 22) && decide (o % 4 = 0)
  | .fuse n => decide (n < 11)
  | .coreReg k i _ => decide (k < 484) && decide (i < 4)

def Agent.wf : Agent → Bool
  | .strand k => decide (k < 484)
  | .firmware | .debug => true

/-- Every name in a command is that of something that exists. -/
def Instr.wf (i : Instr) : Bool :=
  match i with
  | .hello _ | .sessionOpen _ _ | .sessionClose _ | .queryInfo _ | .queryHealth _ | .memWrite _ _ _ _ | .memRead _ _ _
  | .memFill _ _ _ _ | .scrub _ _ _ | .partCreate _ _ _ _ | .partDestroy _ _ | .mapPages _ _ | .unmapPages _ _ _ _ _
  | .loadProgram _ _ _ _ _ _ | .loadRoutes _ _ _ | .loadMicrocode _ _ _ _ _ _ _ | .launchStart _ _ _ _ _ | .launchWake _ _ _
  | .signalAdd _ _ _ | .signalSet _ _ _ | .waitCounterWatch _ _ _ _ | .waitCounterTake _ _ _ _ | .waypointTake _ _
  | .waypointRestore _ _ _ | .clusterReset _ _ | .coreRetire _ _ | .timeStatus _ | .scheduleList _ _ | .scheduleCancel _ _ _
  | .attest _ _ | .keyInstallDdr5 _ _ _ | .keyInstallMacsecTx _ _ _ | .keyInstallMacsecRx _ _ _ | .keyRetireDdr5 _ _
  | .keyRetireMacsec _ _ _ | .fwStage _ _ _ | .fwActivate _ _ | .lifecycleProvisioned _ _ | .lifecycleField _ _
  | .lifecycleReturn _ _ | .debugHalt _ _ _ | .debugRead _ _ _ | .debugWrite _ _ _ _ | .traceConfig _ _ | .perfRead _ _ _
  | .linkConfig _ _ _ _ _ _ | .windowOpen _ _ | .windowClose _ _ => true
  | .add w _ | .sub w _ | .and w _ | .or w _ | .xor w _ | .shl w _ | .shr w _ | .sra w _ | .slt w _ | .sltu w _ | .min w _
  | .max w _ | .minu w _ | .maxu w _ | .mul w _ | .mulh w _ | .mulhu w _ | .div w _ | .divu w _ | .rem w _ | .remu w _ | .jr w _
  | .jalr w _ | .addi w _ | .andi w _ | .ori w _ | .xori w _ | .shi w _ | .lui w _ | .cmpi w _ | .bc w _ _ | .jal w _ _
  | .loop w _ | .waitl w _ | .waitm w _ | .csrr w _ _ | .csrw w _ _ | .csrra w _ _ | .csrwa w _ _ | .xret w | .rstop w
  | .rkst w _ | .rkld w _ | .sexit w | .ldl w _ | .stl w _ | .ld w _ | .st w _ | .pref w _ | .prefS w _ | .cinv w _
  | .cinvAll w _ | .dpick w _ | .aaddi w _ _ _ | .amod w _ _ _ | .amov w _ _ _ | .aadd w _ _ _ | .sadd w _ | .saddP w _
  | .stake w _ | .swatch w _ | .sset w _ | .sread w _ | .roll w _ | .sendv w _ | .sendf w _ | .sendfG w _ | .sendAccept w
  | .sendStalled w | .recvv w _ | .recvf w _ | .qrel w _ | .qpoll w _ | .vadd w _ | .vsub w _ | .vmul w _ | .vfma w _ | .vfms w _
  | .vneg w _ | .vabs w _ | .vmin w _ | .vmax w _ | .vrcpe w _ | .vrsqe w _ | .vcmpEq w _ | .vcmpNe w _ | .vcmpLt w _
  | .vcmpLe w _ | .vcmpUn w _ | .vsel w _ | .viadd w _ | .visub w _ | .viadds w _ | .visubs w _ | .vimul w _ | .vimin w _
  | .vimax w _ | .vand w _ | .vor w _ | .vxor w _ | .vshl w _ | .vshrl w _ | .vshra w _ | .vmov w _ | .vbcast w _ | .vdup w _
  | .vperm w _ | .vslide w _ | .vmovg w _ | .vrsum w _ | .vrmax w _ | .vrmin w _ | .vrssq w _ | .vrssqA w _ | .vmom w _
  | .vmomA w _ | .vmmrg w _ | .vmred w _ | .vmvar w _ | .vact w _ | .vtload w _ | .vepc w _ | .vfctlR w _ | .vfctlW w _
  | .vfflag w _ | .vfflagC w _ | .vrseed w _ | .vrctr w _ | .vrgetS w _ | .vrgetC w _ | .vcvt w _ | .vepx w _ | .mma w _
  | .mmaG w _ | .mdrain w _ | .mdrainG w _ | .tload w _ | .tstore w _ | .tileRow w => w.wf
  | .runTransfer core | .matrixComplete core => decide (core < 480)
  | .custom w _ | .microOp w => w.wf
  | .loadComplete core strand _ => decide (core < 484) && decide (strand < 4)
  | .lineFill core line => decide (core < 484) && decide (line % 128 = 0) && decide (line < 2 ^ 52)
  | .instructionFill w _ => w.wf
  | .storeQueueSend core => decide (core < 484)
  | .signalFenceRelease core strand => decide (core < 484) && decide (strand < 4)
  | .pageWalkEnd cluster _ => decide (cluster < 12)
  | .exceptionEntry w | .restStopEntry w => w.wf
  | .timerInterrupt core strand _ | .xirqSet core strand | .resumeGo core strand _ _ | .vfpCtlWrite core strand _ => decide (core < 484) && decide (strand < 4)
  | .bankEnable b | .bankDisable b | .bankStopping b | .bankOff b | .bankOn b => b.wf
  | .dinv core | .iinv core => decide (core < 484)
  | .ucDecWrite cluster e _ => decide (cluster < 12) && decide (e < 16)
  | .queueTableWrite core q _ _ => decide (core < 480) && decide (q < 32)
  | .mmuInvAll cluster | .mmuInvVa cluster _ | .invalidationDone cluster | .fqRetry cluster | .fqReject cluster => decide (cluster < 12)
  | .synValWrite n _ => decide (n < 16384)
  | .shomeWrite g hub => decide (g < 12) && decide (hub.toNat < 12)
  | .channelEnable cluster n | .channelDisable cluster n | .channelOn cluster n | .channelOff cluster n | .dmaGo cluster n _
  | .descriptorRead cluster n => decide (cluster < 12) && decide (n < 64)
  | .burstStart cluster | .burstComplete cluster _ => decide (cluster < 12)
  | .descriptorBad cluster n => decide (cluster < 12) && decide (n < 64)
  | .chkInit cluster u => decide (cluster < 12) && decide (u < 4)
  | .routerArrival node out => node.wf && out.wfAt node
  | .rd ep _ | .wr ep _ | .amoAdd ep | .amoSet ep | .amoTake ep | .amoWatch ep | .amoRead ep | .amoCancel ep | .amoDpick ep
  | .sigAdd ep | .sigSet ep | .tok ep | .msg ep | .htl ep => epWf ep
  | .hamperFetch core q => decide (core < 480) && decide (q < 32)
  | .rdr ep | .wrr ep | .err ep | .crd ep | .rls ep | .red ep => epWf ep
  | .patrolPass m _ => m.wf
  | .hbmScrubGo n first count => decide (n < 24) && decide (first < 2 ^ 20) && decide (count < 2 ^ 21)
  | .ddrScrubGo n first count => decide (n < 12) && decide (first < 2 ^ 23) && decide (count < 2 ^ 24)
  | .scrubComplete m => m.wf
  | .ddrMoveGo n hpage dpage _ => decide (n < 12) && decide (hpage < 24 * 2 ^ 20) && decide (dpage < 2 ^ 23)
  | .moveComplete n => decide (n < 12)
  | .tagAssign n first count slot => decide (n < 12) && decide (first < 2 ^ 23) && decide (count < 2 ^ 24) && decide (slot < 64)
  | .tagRelease n first count => decide (n < 12) && decide (first < 2 ^ 23) && decide (count < 2 ^ 24)
  | .tagCommandDone n => decide (n < 12)
  | .rekeyGo src dst rate => decide (src < 64) && decide (dst < 64) && decide (rate < 65536)
  | .rekeyPage n => decide (n < 12)
  | .keySlotRetire slot => decide (slot < 64)
  | .tieringMoveOut part _ ddr dpage key => decide (part < 12) && decide (ddr < 12) && decide (dpage < 2 ^ 23) && decide (key < 64)
  | .pageBringBack cluster hpage => decide (cluster < 12) && decide (hpage < 24 * 2 ^ 20)
  | .pageRetirement pa => decide (pa < 2 ^ 52)
  | .trailPortEnable p | .trailPortDisable p | .trailPortStarted p | .trailPortStopped p | .trainingAttempt p
  | .trainingDone p _ _ | .linkDown p | .linkSilence p => decide (p < 18)
  | .laneFailure p lane => decide (p < 18) && decide (lane < 4)
  | .retrainDone p _ | .flitSend p => decide (p < 18)
  | .dataFlit p f | .idleFlit p f | .retryRequest p f => decide (p < 18) && decide (f.bytes.length = 256)
  | .endOfLink p | .trailWr p | .trailRd p | .trailSig p | .trailMsg p | .trailRdr p | .wack p | .nak p | .trailCrd p
  | .trailRls p | .trailRed p | .trailTok p => decide (p < 18)
  | .hostPortEnable | .hostPortDisable | .hostPortStarted | .hostPortStopped | .hostTrainingRetry | .hostLinkUp | .hostFrame _
  | .acknowledgement _ | .kilperRetransmit _ _ | .keepExpiry _ | .scheduledStart _ | .waitCounterTimeout _ => true
  | .clusterStopTimeout cluster | .clusterOn cluster => decide (cluster < 12)
  | .spdmSessionTimeout _ | .handOver | .imageCommit | .deadlineExpiry | .firmwareWatchdog | .ppsInEdge | .sampleTimeout
  | .ppsOutRise | .ppsOutFall => true
  | .timeNowRead ep => epWf ep
  | .alarmFire n => decide (n < 64)
  | .waypointCapture part | .captureAbandon part | .captureDrained part _ | .waypointLocal part | .waypointMirrored part => decide (part < 12)
  | .failureRecovery f => f.wf
  | .stackFailure n => decide (n < 24)
  | .pwrGoodRise | .pwrGoodFall | .resetNFall | .resetNRise | .resetEnd _ _ | .stageHostPort | .reducedService | .fullService
  | .trainingDeadline => true
  | .stackTrained n => decide (n < 24)
  | .sensorSample temps => decide (temps.length = 56)
  | .hbmTempRead n _ => decide (n < 24)
  | .thermalEvaluation | .powerEvaluation _ | .railFault | .refclkLoss | .hstrefLoss | .trlrefLoss _ | .i3cPrivateWrite _
  | .i3cPrivateRead _ | .setdasa _ | .enec | .tapReset | .bypass _ | .samplePreload _ _ | .extest _ _ | .clamp | .highz
  | .extestPulse _ | .extestTrain _ => true
  | .internalDebug t => t.wf
  | .registerWrite agent addr _ => agent.wf && decide (addr % 8 = 0) && decide (addr < 2 ^ 48)
  | .hostLinkDown => true

end Sys2Proof
end

