-- ==== Sys2Proof/Tests/Slice0.lean ====
section
/-! SUPPORT. Tests: what WellFormed refuses, the words that spell commands, results worked out from the spec, and for each obligation
with hypotheses a state and operands that meet them. -/

namespace Sys2Proof.Tests

open Sys2Proof.Machine Host

set_option Elab.async false

/-! ### States -/

/-- A strand of core 0, or of a steward core, in cycle 8. -/
def me : Who := { core := 0, strand := 0, cycle := 8 }
def boss : Who := { core := 480, strand := 0, cycle := 8 }

/-- Right after reset, with one strand Running. -/
def run (f : Strand → Strand := id) : State := State.reset.modStrand 0 0 fun x => f { x with run := .running }
def runBoss (f : Strand → Strand := id) : State := State.reset.modStrand 480 0 fun x => f { x with run := .running }

/-- A strand in S mode. -/
def sMode (x : Strand) : Strand := { x with status := 0x13#32 }

/-- What `Barred` asks, as a test. -/
def barredB (w : Who) (info : Info) (s : State) : Bool :=
  whoOk w && (s.strand w.core w.strand).ready && !s.heldByPause w.core w.strand
    && !((strandAt w s).haltReq && (strandAt w s).boundary)
    && ((atIssue w s).tryDeferrable w.core w.strand (slotOf w s)).isNone && (strandAt w s).forbids info w

theorem barred_of {w : Who} {info : Info} {s : State} (h : barredB w info s = true) : Barred w info s := by
  simp only [barredB, Bool.and_eq_true, Bool.not_eq_true', Option.isNone_iff_eq_none] at h
  obtain ⟨⟨⟨⟨⟨h1, h2⟩, h3⟩, h4⟩, h5⟩, h6⟩ := h
  exact ⟨h1, h2, h3, h4, h5, h6⟩

/-- What `Issues` asks, as a test. -/
def issuesB (w : Who) (info : Info) (s : State) : Bool :=
  whoOk w && (s.strand w.core w.strand).ready && !s.heldByPause w.core w.strand
    && !((strandAt w s).haltReq && (strandAt w s).boundary)
    && ((atIssue w s).tryDeferrable w.core w.strand (slotOf w s)).isNone && !(strandAt w s).forbids info w

theorem issues_of {w : Who} {info : Info} {s : State} (h : issuesB w info s = true) : Issues w info s := by
  simp only [issuesB, Bool.and_eq_true, Bool.not_eq_true', Option.isNone_iff_eq_none] at h
  obtain ⟨⟨⟨⟨⟨h1, h2⟩, h3⟩, h4⟩, h5⟩, h6⟩ := h
  exact ⟨h1, h2, h3, h4, h5, h6⟩

/-- The state of an outcome, right after reset when there is none. -/
def next (o : Outcome State Fault Refusal) : State :=
  match o with
  | .next t => t
  | _ => State.reset

/-- Core 0 with a strand Running, and 64 KiB of its cluster's CLM mapped at virtual address 0, readable, writable and executable. -/
def clmLeaf : TlbEnt := ⟨0, 16, 0x200000000000FF#64, 0⟩
def mapped (f : Strand → Strand := id) : State :=
  ((run f).setRf (Reg.MMU_ROOT 0) Reg.MMU_ROOT.EN 1).modCore 0 fun c => { c with dtlb := [clmLeaf], itlb := [clmLeaf] }

/-- The physical address that a translation gives. -/
def xlated (r : XRes × State) : Option Nat :=
  match r.1 with
  | .ok pa _ _ => some pa
  | _ => none

/-- One packet at its endpoint, and nothing at any other. -/
def atSink (ep : Nat) (p : Packet) (s : State) : State := { s with net := { s.net with sinks := [(ep, p)] } }
def noSink (s : State) : State := { s with net := { s.net with sinks := [] } }

theorem arrives_atSink (ep : Nat) (p : Packet) (s : State) : arrives (atSink ep p s) ep p (noSink s) :=
  ⟨0, by simp [atSink], rfl, rfl⟩

/-- Queue 0 of core 0, enabled, two places, for channel 7: for vectors, or for fragments. -/
def qOf (frag : Bool) (s : State) : State :=
  let a := qaReg 0 0
  ((((s.setRf a Reg.CLU_RT_QA.EN 1).setRf a Reg.CLU_RT_QA.CHID 7).setRf a Reg.CLU_RT_QA.NPL 2).setRf a Reg.CLU_RT_QA.MSZ (bit frag))

/-- Send channel 0 of core 0, valid, for vectors. -/
def sendsOf (s : State) : State := (s.setRf (sendReg 0 0) Reg.CLU_RT_SEND.VALID 1).setRf (sendReg 0 0) Reg.CLU_RT_SEND.MSZ 0

/-! ### Ill-formed commands are refused -/

theorem test_wf_strand : (Instr.rstop ⟨484, 0, 0, 0, false, none⟩).wf = false ∧ (Instr.rstop ⟨483, 4, 0, 0, false, none⟩).wf = false
    ∧ (Instr.rstop ⟨483, 3, 0, 0, false, none⟩).wf = true := by decide
theorem test_wf_endpoint : epWf 0x028 = false ∧ epWf 0xB33 = true ∧ epWf 0xB34 = false ∧ epWf 0xC09 = false ∧ epWf 0xC21 = true
    ∧ epWf 0xD21 = false ∧ epWf 0xE00 = false := by decide
theorem test_wf_node : (Instr.routerArrival (.router 0 40) .n).wf = false ∧ (Instr.routerArrival (.hub 12) .n).wf = false
    ∧ (Instr.routerArrival (.router 11 39) .tap).wf = true := by decide
theorem test_wf_port : (Instr.routerArrival (.router 0 0) (.hubPort 0)).wf = false ∧ (Instr.routerArrival (.hub 1) (.io 2)).wf = false
    ∧ (Instr.routerArrival (.hub 1) (.hubPort 8)).wf = false ∧ (Instr.routerArrival (.hub 1) .tap).wf = false
    ∧ (Instr.routerArrival (.die true) (.io 4)).wf = false ∧ (Instr.routerArrival (.die true) .n).wf = false := by decide
theorem test_wf_bank : (Instr.bankOn (.ls 0 .ws 16)).wf = false ∧ (Instr.bankOn (.ls 0 .ps 8)).wf = false
    ∧ (Instr.bankOn (.ls 0 .qram 0)).wf = false ∧ (Instr.bankOn (.ls 484 .as 0)).wf = false ∧ (Instr.bankOn (.clm 11 48)).wf = false
    ∧ (Instr.bankOn (.clm 11 47)).wf = true := by decide
theorem test_wf_memory : (Instr.scrubComplete (.hbm 24)).wf = false ∧ (Instr.scrubComplete (.ddr 12)).wf = false := by decide
theorem test_wf_failure : (Instr.failureRecovery (.coreInternal 480)).wf = false ∧ (Instr.failureRecovery (.clm 0 48 true)).wf = false
    ∧ (Instr.failureRecovery (.clusterInternal 12)).wf = false ∧ (Instr.failureRecovery (.poison 0 (2 ^ 52))).wf = false := by decide
theorem test_wf_jtag : (Instr.internalDebug (.sram 2)).wf = false ∧ (Instr.internalDebug (.sram 0x400000)).wf = false
    ∧ (Instr.internalDebug (.fuse 11)).wf = false ∧ (Instr.internalDebug (.coreReg 483 4 0)).wf = false := by decide
theorem test_wf_agent : (Instr.registerWrite (.strand 484) 0 0).wf = false ∧ (Instr.registerWrite (.strand 483) 0 0).wf = true := by decide
theorem test_wf_core_events : (Instr.runTransfer 480).wf = false ∧ (Instr.loadComplete 484 0 0).wf = false
    ∧ (Instr.lineFill 0 64).wf = false ∧ (Instr.storeQueueSend 484).wf = false ∧ (Instr.queueTableWrite 0 32 false 0).wf = false
    ∧ (Instr.hamperFetch 480 0).wf = false := by decide
theorem test_wf_cluster_events : (Instr.pageWalkEnd 12 0).wf = false ∧ (Instr.ucDecWrite 0 16 0).wf = false ∧ (Instr.synValWrite 16384 0).wf = false
    ∧ (Instr.shomeWrite 12 0).wf = false ∧ (Instr.shomeWrite 0 12).wf = false ∧ (Instr.channelEnable 0 64).wf = false
    ∧ (Instr.chkInit 0 4).wf = false ∧ (Instr.burstStart 12).wf = false := by decide
theorem test_wf_memory_jobs : (Instr.hbmScrubGo 24 0 0).wf = false ∧ (Instr.ddrScrubGo 0 0x800000 0).wf = false
    ∧ (Instr.ddrMoveGo 0 0 0x800000 false).wf = false ∧ (Instr.tagAssign 0 0 0 64).wf = false ∧ (Instr.rekeyGo 64 0 0).wf = false
    ∧ (Instr.keySlotRetire 64).wf = false ∧ (Instr.pageRetirement (2 ^ 52)).wf = false ∧ (Instr.stackFailure 24).wf = false := by decide
theorem test_wf_links : (Instr.trailPortEnable 18).wf = false ∧ (Instr.laneFailure 0 4).wf = false ∧ (Instr.dataFlit 0 ⟨[]⟩).wf = false
    ∧ (Instr.alarmFire 64).wf = false ∧ (Instr.waypointCapture 12).wf = false := by decide

/-! ### Results worked out from the spec -/

/-- No row of the opcode table gives a command any bits. -/
theorem test_no_word_spells_a_command : decodeTableWord 32 0 = none := rfl
/-- R140: 2^31 - 1 and 1. -/
theorem test_flags_of_a_sum :
    ((next (exec (.add me ⟨1, 2, 3, true⟩) (run fun x => { x with g := vset (vset x.g 2 0x7FFFFFFF#32) 3 1#32 }))).strand 0 0).flags
      = ⟨false, true, false, true⟩ := by decide +kernel
/-- R141: REM by zero writes the dividend. -/
theorem test_division_by_zero : ((next (exec (.rem me ⟨1, 2, 3, false⟩) (run fun x => { x with g := vset x.g 2 9#32 }))).strand 0 0).pend.map (·.eff)
    = [.g 1 9#32] := by decide +kernel
/-- R151: a taken branch goes on in its delay slot, and then at its target. -/
theorem test_delay_slot :
    let s := next (exec (.bc me 14 100) run)
    (s.strand 0 0).pc = 4 ∧ ((next (exec (.andi { me with cycle := 12 } ⟨1, 1, 0⟩) s)).strand 0 0).pc = 400 := by decide +kernel
/-- The second example of R158: eight reads in bit-reversed order. -/
theorem test_bit_reversed : let ctl : W32 := 0x6A#32
    (List.range 8).map (fun n => ((List.range n).foldl (fun a _ => updateAddr a 0x4000#32 ctl 16) (0x4000#48)).toNat - 0x4000)
      = [0, 16, 8, 24, 4, 20, 12, 28] := by decide +kernel
/-- Table 9-1: shared counter 13 is of group 1, whose home hub after reset is hub 1; core 479 is of cluster 11. -/
theorem test_counter_hub : State.reset.counterHub (.shared 13) = some 1 ∧ State.reset.counterHub (.core 479 31) = some 11 := by decide +kernel
/-- R2, Table 1-5: the identity register. -/
theorem test_id_part : (State.reset.regLoad epCheter 0x10900000).1 = 0x5956584D31413100 := by decide +kernel
/-- R103: VCVT from FP32 to BF16 with P = 1 writes elements 32 to 63 (1.0 is 0x3F80). -/
theorem test_vcvt_group :
    let v := ((next (exec (.vcvt me ⟨2, 1, 8, 0, 0, false, 1, false⟩) (run fun x => { x with v := vset x.v 1 (BitVec.ofNat 1024 0x3F800000) }))).strand 0 0).pend
    v.any (fun p => match p.eff with | .v 2 x m => elt 16 x.toNat 32 == 0x3F80 && elt 16 m.toNat 32 == 0xFFFF && elt 16 m.toNat 31 == 0 | _ => false) = true := by
  decide +kernel
/-- R435: before stage 3 no command is answered. -/
theorem test_no_reply_before_stage_3 : next (exec (.hello ⟨0, 1, none⟩) State.reset) = State.reset := by decide +kernel

/-! ### States and operands that meet the hypotheses of the obligations -/

theorem witness_EmptyQueue : State.reset.pending = [] := rfl

theorem witness_ScalarResults :
    Issues me (aluInfo ⟨1, 2, 3, true⟩) run ∧ Issues me (aluInfo ⟨1, 2, 3, false⟩) run := ⟨issues_of (by decide +kernel), issues_of (by decide +kernel)⟩

/-- On a steward core with OV and DZ enabled: a sum and a product that fit, a divisor that is not zero. -/
theorem witness_ScalarResults_traps :
    let s := runBoss fun x => { x with sxen := 3, g := vset x.g 3 7#32 }
    Issues boss (aluInfo ⟨1, 2, 3, false⟩) s ∧ tb (strandAt boss s).sxen 1 = true ∧ tb (strandAt boss s).sxen 0 = true
      ∧ (strandAt boss s).rg 3 ≠ 0 := ⟨issues_of (by decide +kernel), by decide +kernel⟩

theorem witness_ImmediateResults :
    Issues me { writes := [1] } run ∧ Issues me { setsFlags := true } run
      ∧ (fld (0x001F#16) 15 14 = 0 ∧ fld (0x001F#16) 13 5 = 0) ∧ (fld (0x401F#16) 15 14 = 1 ∧ fld (0x401F#16) 13 5 = 0)
      ∧ (fld (0x801F#16) 15 14 = 2 ∧ fld (0x801F#16) 13 5 = 0) :=
  ⟨issues_of (by decide +kernel), issues_of (by decide +kernel), by decide⟩

theorem witness_BranchesGoOnInTheDelaySlot :
    Issues me { branch := true } run ∧ Issues me { branch := true, writes := [1] } run ∧ ((strandAt me run).rg 2).toNat % 4 = 0 :=
  ⟨issues_of (by decide +kernel), issues_of (by decide +kernel), by decide +kernel⟩

/-- WAITL 0 with a load outstanding waits; WAITL 8 and WAITM 2 go on. -/
theorem witness_LoopsAndCountedWaits :
    let s := run fun x => { x with loads := [{ issuing := true }] }
    Issues me { noDelay := true } s ∧ Issues me {} s ∧ ¬ (strandAt me s).loads.length ≤ 0 ∧ (strandAt me s).loads.length ≤ 8
      ∧ (strandAt me s).matrix ≤ 2 := ⟨issues_of (by decide +kernel), issues_of (by decide +kernel), by decide +kernel⟩

/-- A register for every strand, and an S register in S mode. -/
theorem witness_ControlRegisters :
    csrOf 0 0x001 = some .cycleLo ∧ Csr.cycleLo.sLevel = false ∧ csrOf 0 0x103 = some .xtval ∧ Csr.xtval.readOnly = false
      ∧ (strandAt me (run sMode)).handler 0 = true ∧ Issues me { writes := [1] } (run sMode) ∧ Issues me {} (run sMode) :=
  ⟨by decide, by decide, by decide, by decide, by decide +kernel, issues_of (by decide +kernel), issues_of (by decide +kernel)⟩

theorem witness_SystemInstructions :
    Issues me { noDelay := true, noLast := true } (run sMode) ∧ (strandAt me (run sMode)).handler 0 = true
      ∧ rkBad ⟨2, 3, 0x7FF⟩ = false ∧ (atIssue me (run sMode)).storeFault 0 .as (rkOff me (run sMode) ⟨2, 3, 0x7FF⟩) 128 = none
      ∧ Issues me { noDelay := true } (run sMode) :=
  ⟨issues_of (by decide +kernel), by decide +kernel, by decide, by decide +kernel, issues_of (by decide +kernel)⟩

theorem witness_LocalStoreAccess :
    let o : OpM := ⟨1, 0, 0, 1, 4, 5⟩
    let s := run
    sizeBad o = false ∧ noStore 0 o.st = false ∧ (eaOf me s o (accessSize o.sz)).1.toNat % accessSize o.sz = 0
      ∧ (atIssue me s).storeFault 0 (storeOf o.st) (eaOf me s o (accessSize o.sz)).1.toNat (accessSize o.sz) = none
      ∧ Issues me {} s ∧ Issues me { writes := loadWrites o } s :=
  ⟨by decide, by decide, by decide +kernel, by decide +kernel, issues_of (by decide +kernel), issues_of (by decide +kernel)⟩

/-- A register of the window, from S mode, and a mapped page. -/
theorem witness_MemoryAccess_window :
    let s := (run fun x => { sMode x with a := vset x.a 0 0xFFFF10900000#48 }).setRf Reg.ID_CLU_ASSIGN ⟨3, 0⟩ 0
    let o : OpM := ⟨1, 0, 0, 0, 5, 0⟩
    let ea := (eaOf me s o 8).1
    sizeBad o = false ∧ accessSize o.sz = 8 ∧ ea.toNat % 8 = 0 ∧ inWindow ea = true ∧ 1 ≤ (strandAt me s).priv
      ∧ (atIssue me s).windowAllows 0 false (windowOffset ea) = true
      ∧ (atIssue me s).windowAllows 0 true 0 = true ∧ ((atIssue me s).core 0).storeq.length < 16 := by decide +kernel

theorem witness_MemoryAccess_page :
    let s := mapped
    let o : OpM := ⟨1, 0, 0, 0, 5, 3⟩
    let ea := (eaOf me s o 4).1
    Issues me { writes := loadWrites o } s ∧ Issues me {} s ∧ (strandAt me s).loads.length < 8 ∧ inWindow ea = false
      ∧ xlated ((atIssue me s).xlateFor 0 0 .load ea.toNat) = some 0x200000000000C
      ∧ xlated ((atIssue me s).xlateFor 0 0 .store ea.toNat) = some 0x200000000000C
      ∧ xlated ((atIssue me s).xlateFor 0 0 .pick ea.toNat) = some 0x200000000000C
      ∧ s.site 0x200000000000C = .clm 0 12 :=
  ⟨issues_of (by decide +kernel), issues_of (by decide +kernel), by decide +kernel, by decide +kernel, by decide +kernel,
    by decide +kernel, by decide +kernel, by decide +kernel⟩

theorem witness_CacheInstructions :
    Issues me {} mapped ∧ formBad 0 0 = false ∧ formBad 1 2 = false ∧ (strandAt me mapped).invDrop = false
      ∧ inWindow (eaOf me mapped ⟨2, 0, 0, 0, 0, 1⟩ 128).1 = false
      ∧ xlated ((atIssue me mapped).xlateFor 0 0 .inv (eaOf me mapped ⟨2, 0, 0, 0, 0, 1⟩ 128).1.toNat) = some 0x2000000000080 :=
  ⟨issues_of (by decide +kernel), by decide, by decide, by decide +kernel, by decide +kernel, by decide +kernel⟩

/-- The example of R158: a buffer of 1,920 bytes at 0x1_2000. -/
theorem witness_AddressArithmetic :
    let ctl : W32 := 0xF0001#32
    let lo := (bufferBase (0x1277C#48) (0x00012000#32)).toNat
    actlMode (0#32) = 0 ∧ actlMode ctl = 1 ∧ actlLen ctl = 1920 ∧ lo = 0x12000 ∧ 1920 ≤ lo ∧ lo + 2 * 1920 < 281474976710656
      ∧ lo ≤ (0x1277C#48).toNat ∧ (0x1277C#48).toNat < lo + 1920 ∧ -(1920 : Int) < 4 ∧ (4 : Int) < 1920 := by decide

/-- The same example: a post-modify by 4 from the newest sample wraps to the buffer's base. -/
theorem test_modulo_update : updateAddr (0x1277C#48) (0x00012000#32) (0xF0001#32) 4 = 0x12000#48 := by decide

/-- A counter of the strand's own core, one of another core, and a store still in the queue. -/
theorem witness_CounterInstructions :
    let s := run fun x => { x with g := vset x.g 4 32#32 }
    let r := atIssue me s
    Issues me {} s ∧ Issues me { writes := [3] } s
      ∧ counterOfNum ((strandAt me s).rg 0).toNat = some (.core 0 0) ∧ ownCounter 0 (.core 0 0) = true
      ∧ counterOfNum ((strandAt me s).rg 4).toNat = some (.core 1 0) ∧ ownCounter 0 (.core 1 0) = false
      ∧ r.fenceTags 0 = [] ∧ (r.ctrAdd (.core 0 0) 1).1 = (false, false) ∧ (r.ctrAssign (.core 0 0) 4294967295).1.1 = false
      ∧ (r.core 0).storeq.length < 16
      ∧ (r.ctrWait ⟨.core 0 0, true, 0, some 0, epCore 0, 0, 0⟩).1 = true
      ∧ (r.ctrWait ⟨.core 0 0, true, 1, some 0, epCore 0, 0, 0⟩).1 = false :=
  ⟨issues_of (by decide +kernel), issues_of (by decide +kernel), by decide +kernel⟩

theorem witness_CounterInstructions_fence :
    let s := run.modCore 0 fun c => { c with storeq := [⟨0, .mem 0 none, [1], 9⟩] }
    Issues me {} s ∧ (atIssue me s).fenceTags 0 ≠ [] := ⟨issues_of (by decide +kernel), by decide +kernel⟩

/-- SIGNAL_FENCE_RELEASE: the store that the signal waited for has been accepted. -/
theorem witness_CounterInstructions_release :
    let o : SyncOp := ⟨.add, .core 0 0, 1, 0, false, none, [9], none⟩
    let s := State.reset.modStrand 0 0 fun x => { x with run := .waiting .fence, syncOp := some o }
    (s.strand 0 0).run = .waiting .fence ∧ (s.strand 0 0).syncOp = some o ∧ s.fenceTags 0 = [] ∧ (s.applySignal o).1.isNone = true
      ∧ ownCounter 0 (.core 1 0) = false := by decide +kernel

theorem witness_CounterValuesAndPackets_values :
    (5 ≤ 7 ∧ (7 : Int) < 5 + 3 ∧ (5 : Int) + -6 < 0 ∧ (0 : Int) ≤ 5 + 2 ∧ (5 : Int) + 2 ≤ 7 ∧ 7 < 8) ∧ 7 < 4294967296 := by decide

/-- An AMO and a SIG at the hub that serves a shared counter, and a DPICK at a CLM slice. -/
theorem witness_CounterValuesAndPackets :
    let c : CounterId := .shared 0
    let amo (op : Nat) : Packet := { kind := .amo, part := 0xF, dst := 0x30, src := epCheter, addr := c.addr, size := 8, payload := toBytes 8 op }
    counterOfAddr c.addr = some c ∧ isTrailEp 0x30 = false ∧ unitOfEp 0x30 ≠ 0x31
      ∧ (∀ op, op ∈ [0, 1, 2, 3, 4, 5] → (amo op).ctrOp = op ∧ State.reset.ctrRefusal (hubOfEp 0x30) (amo op) = none)
      ∧ arrives (atSink 0x30 (amo 0) State.reset) 0x30 (amo 0) (noSink State.reset) := by
  refine ⟨by decide +kernel, by decide, by decide, by decide +kernel, arrives_atSink _ _ _⟩

theorem witness_CounterValuesAndPackets_pick :
    (State.reset.physRead 0x2000000000000 8 none).1.isRight = true := by decide +kernel

theorem witness_SendsLeaveWaitOrEnd :
    let s := sendsOf (run id)
    let x : SendRun := ⟨0, 1, 0, 0, slotOf me s⟩
    Issues me {} s ∧ (atIssue me s).sendBad 0 0 x = false ∧ (trySends 0 ((atIssue me s).sendMsgs 0 0 x) (atIssue me s)).isRight = true :=
  ⟨issues_of (by decide +kernel), by decide +kernel, by decide +kernel⟩

/-- A send that waits, in a slot before its timeout with the window open, and with the window of one message closed. -/
theorem witness_SendsLeaveWaitOrEnd_waits :
    let x : SendRun := ⟨0, 1, 0, 0, 0⟩
    let s := (sendsOf State.reset).modStrand 0 0 fun y => { y with run := .waiting .send, send := some x }
    let t := s.modMsg 0 fun m => { m with dir := [(0, 1)] }
    whoOk me = true ∧ (s.strand 0 0).run = .waiting .send ∧ (s.strand 0 0).send = some x ∧ s.heldByPause 0 0 = false
      ∧ slotOf me s < x.first + s.sendTimeout 0 ∧ (sendState me s).sendBad 0 0 x = false
      ∧ (trySends 0 ((sendState me s).sendMsgs 0 0 x) (sendState me s)).isRight = true
      ∧ (let late : Who := { me with cycle := max me.cycle (x.first + t.sendTimeout 0) }
         (trySends 0 ((sendState late t).sendMsgs 0 0 x) (sendState late t)).isLeft = true)
      ∧ (trySends 0 (t.sendMsgs 0 0 x) t).isLeft = true := by decide +kernel

theorem witness_ReceivesTakeTheOldestMessage :
    let s := qOf false run
    let t := s.modQueue 0 0 fun x => { x with ready := [0] }
    Issues me {} s ∧ Issues me {} t ∧ Issues me { writes := [1] } t ∧ queueUsable me s 0
      ∧ (atIssue me s).rbit (qaReg 0 0) Reg.CLU_RT_QA.MSZ = false ∧ ((atIssue me s).queue 0 0).pickFor 0 = none
      ∧ ((atIssue me t).queue 0 0).pickFor 0 = some 0 ∧ (atIssue me t).qReduces 0 0 = false :=
  ⟨issues_of (by decide +kernel), issues_of (by decide +kernel), issues_of (by decide +kernel), ⟨by decide, by decide +kernel⟩,
    by decide +kernel⟩

theorem witness_ReceivesTakeTheOldestMessage_fragments :
    let s := (qOf true run).modQueue 0 0 fun x => { x with ready := [1], claimed := [0] }
    Issues me { writes := [1] } s ∧ (atIssue me s).rbit (qaReg 0 0) Reg.CLU_RT_QA.MSZ = true
      ∧ ((atIssue me s).queue 0 0).pickFor 0 = some 1 ∧ ((atIssue me s).queue 0 0).claimed = [0] :=
  ⟨issues_of (by decide +kernel), by decide +kernel⟩

theorem witness_QueueTables :
    State.reset.rbit (qaReg 479 31) Reg.CLU_RT_QA.EN = false ∧ (qOf false run).rbit (qaReg 0 0) Reg.CLU_RT_QA.EN = true
      ∧ (let s := ((qOf false run).setRf (qaReg 0 0) Reg.CLU_RT_QA.HEN 1).setRf (Reg.CORE_MSG_QSB 0 0) Reg.CORE_MSG_QSB.TPOS 1
         s.qEnabled 0 0 = true ∧ s.qReduces 0 0 = false ∧ s.rbit (qaReg 0 0) Reg.CLU_RT_QA.HEN = true
         ∧ (s.queue 0 0).fetch.isNone = true ∧ s.freePlaces 0 0 = [0, 1]
         ∧ s.rf (Reg.CORE_MSG_QSB 0 0) Reg.CORE_MSG_QSB.HPOS ≠ s.rf (Reg.CORE_MSG_QSB 0 0) Reg.CORE_MSG_QSB.TPOS) := by decide +kernel

/-- A message at the TAP of core 0, at trail port 0 and at the Cheter controller. -/
theorem witness_MessagesAndCredits :
    let p : Packet := { kind := .msg, part := 0, dst := 0, src := 1, chid := 7, payload := List.replicate 128 0xA5#8 }
    let s := qOf false run
    arrives (atSink 0 p s) 0 p (noSink s) ∧ coreOfEp 0 = some 0 ∧ isTrailEp 0 = false ∧ isTrailEp 0xC00 = true ∧ isTrailEp epCheter = false
      ∧ s.queueOf 0 p.chid = some 0 ∧ s.qReduces 0 0 = false ∧ s.qSize 0 0 = p.payload.length ∧ s.freePlaces 0 0 = [0, 1]
      ∧ s.wf = true ∧ s.qOffset 0 0 0 + 128 ≤ 0x20000 :=
  ⟨arrives_atSink _ _ _, by decide +kernel⟩

/-- A packet of core 0 waits in its router; a read and a write at a CLM slice. -/
theorem witness_PacketsPassAndAreServed :
    let p : Packet := { kind := .wr, part := 0, dst := 0x31, src := 0, addr := 0x2000000000000, payload := [1] }
    let s : State := { State.reset with net := { State.reset.net with flight := [⟨p, .router 0 0, .tap, [.s]⟩] } }
    (s.arbitrate (.router 0 0) .s 0).isSome = true ∧ isTrailEp 0x31 = false ∧ servesNone 0x31 = false
      ∧ arrives (atSink 0x31 p State.reset) 0x31 p (noSink State.reset)
      ∧ (State.reset.memRead 0x2000000000000 8 none ⟨[], []⟩).1.isRight = true
      ∧ (State.reset.memRead 0x5000000000000 8 none ⟨[], []⟩).1.isLeft = true
      ∧ ((State.reset.memWrite 0x2000000000000 [1] none ⟨[], []⟩).map (·.1)) = some none
      ∧ ((State.reset.memWrite 0x5000000000000 [1] none ⟨[], []⟩).map (·.1.isSome)) = some true :=
  ⟨by decide +kernel, by decide, by decide, arrives_atSink _ _ _, by decide +kernel⟩

/-- The codes of Table 2-1: BF16, FP16, FP32, FP64, S8, U8 and S32. -/
theorem witness_VectorFloatArithmetic :
    Issues me (vTyped3 ⟨1, 2, 3, 9, true⟩) run ∧ (∀ c ∈ [0#4, 1, 8, 9], ((Fmt.ofCode c).bind Fmt.float?).isSome = true)
      ∧ (∀ c ∈ [2#4, 3, 10], ((Fmt.ofCode c).bind Fmt.int?).isSome = true) := ⟨issues_of (by decide +kernel), by decide, by decide⟩

/-- Every kind of operand of an estimate, read from an FP32 pattern. -/
theorem witness_VectorSignsPicksAndEstimates :
    let r (n : Nat) : Val := (FFmt.fp32.read true n).1
    Issues me (vTyped3 ⟨1, 2, 3, 8, false⟩) run ∧ Issues me (vTyped2 ⟨1, 2, 0, 8, false⟩) run ∧ (r 0x7FC00000).isNan = true ∧ (r 0x80000000).isZero = true ∧ r 0x7F800000 = .inf false ∧ r 0xFF800000 = .inf true
      ∧ (match r 0xBF800000 with | .fin true m _ => decide (m ≠ 0) | _ => false) = true
      ∧ (match r 0x3F800000 with | .fin false m _ => decide (m ≠ 0) | _ => false) = true :=
  ⟨issues_of (by decide +kernel), issues_of (by decide +kernel), by decide +kernel⟩

theorem witness_VectorComparesAndIntegers :
    Issues me (vTyped3 ⟨1, 2, 3, 8, false⟩) run ∧ Issues me (vBare3 ⟨1, 2, 3, 0, false⟩) run ∧ (Fmt.ofCode 8#4).bind Fmt.float? ≠ none
      ∧ (∀ t ∈ [Fmt.s8, .u8, .s32], t.int?.isSome = true ∧ vcount t ≠ 0) :=
  ⟨issues_of (by decide +kernel), issues_of (by decide +kernel), by decide, by decide⟩

/-- Element 0 and one past the last, byte 127 and 128. -/
theorem witness_VectorMovement :
    let s := run fun x => { x with g := vset (vset x.g 3 127#32) 4 128#32, v := vset x.v 5 (BitVec.ofNat 1024 128) }
    Issues me (vBare2 ⟨1, 2, 0, 0, false⟩) s ∧ Issues me (vTyped2 ⟨1, 2, 0, 8, false⟩) s ∧ Issues me (vTyped3 ⟨1, 2, 3, 8, false⟩) s
      ∧ Issues me (vMovG ⟨1, 2, 3, 8, false⟩) s ∧ Issues me (vBare3 ⟨1, 2, 3, 0, false⟩) s ∧ vcount .fp32 = 32 ∧ ((strandAt me s).rg 0).toNat < vcount .fp32
      ∧ vcount .fp32 ≤ ((strandAt me s).rg 3).toNat ∧ ((strandAt me s).rg 3).toNat < 128 ∧ 128 ≤ ((strandAt me s).rg 4).toNat
      ∧ (List.range 128).all (fun i => decide (elt 8 ((strandAt me s).rv 0).toNat i < 128)) = true
      ∧ 128 ≤ elt 8 ((strandAt me s).rv 5).toNat 0 :=
  ⟨issues_of (by decide +kernel), issues_of (by decide +kernel), issues_of (by decide +kernel), issues_of (by decide +kernel),
    issues_of (by decide +kernel), by decide +kernel⟩

/-- A moment record of the largest count, and of one too many. -/
theorem witness_VectorReductionsAndMoments :
    let s := run fun x => { x with g := vset (vset x.g 3 32#32) 4 33#32 }
    Issues me {} s ∧ Issues me (vTyped2 ⟨1, 2, 0, 8, false⟩) s ∧ Issues me (vBare3 ⟨1, 2, 3, 0, false⟩) s
      ∧ Issues me (vBare2 ⟨1, 2, 0, 0, false⟩) s ∧ Fmt.fp32.float?.isSome = true ∧ ((strandAt me s).rg 3).toNat ≤ vcount .fp32 ∧ vcount .fp32 < ((strandAt me s).rg 4).toNat
      ∧ Fmt.s32.int?.isSome = true ∧ vcount .s32 ≠ 0 :=
  ⟨issues_of (by decide +kernel), issues_of (by decide +kernel), issues_of (by decide +kernel), issues_of (by decide +kernel),
    by decide +kernel⟩

/-- VCVT from FP32 to BF16 in group 1, the last one, and in group 2; VEPX to BF16 in group 1. -/
theorem witness_VectorConversions :
    Issues me {} run ∧ Issues me (vTyped3 ⟨1, 2, 7, 8, false⟩) run ∧ Rm.ofField 0 (strandAt me run).rm = some .rne ∧ min (vcount .fp32) (vcount .bf16) = 32
      ∧ (1 + 1) * 32 ≤ max (vcount .fp32) (vcount .bf16) ∧ max (vcount .fp32) (vcount .bf16) < (2 + 1) * 32
      ∧ (1 + 1) * 32 ≤ vcount .bf16 ∧ Fmt.ofCode 8#4 = some .fp32 :=
  ⟨issues_of (by decide +kernel), issues_of (by decide +kernel), by decide +kernel⟩

theorem witness_VectorControl :
    let s := run
    Issues me (vBare2 ⟨7, 0, 0, 0, false⟩) s ∧ Issues me (vFromG ⟨0, 1, 0, 0, false⟩) s ∧ Issues me (vFromPair ⟨0, 1, 2, 0, false⟩) s
      ∧ Issues me (vToG ⟨1, 0, 0, 0, false⟩) s ∧ Issues me (vClearG ⟨1, 0, 2, 0, false⟩) s ∧ Issues me (vToPair ⟨1, 0, 2, 0, false⟩) s
      ∧ (atIssue me s).storeFault 0 .as ((strandAt me s).ra 0).toNat 1056 = none :=
  ⟨issues_of (by decide +kernel), issues_of (by decide +kernel), issues_of (by decide +kernel), issues_of (by decide +kernel),
    issues_of (by decide +kernel), issues_of (by decide +kernel), by decide +kernel⟩

/-- VADD of FP32 with H set, VMOV with vb set, a branch in a delay slot, and a branch at the end of a loop. -/
theorem witness_VectorControl_barred :
    Barred me (vTyped3 ⟨1, 2, 3, 8, true⟩) run ∧ Barred me (vBare2 ⟨1, 2, 3, 0, false⟩) run
      ∧ Barred me { branch := true } (run fun x => { x with delay := some ⟨0, none, none, []⟩ })
      ∧ Barred me { branch := true } (run fun x => { x with l0 := ⟨0, x.pc, 2⟩ }) :=
  ⟨barred_of (by decide +kernel), barred_of (by decide +kernel), barred_of (by decide +kernel), barred_of (by decide +kernel)⟩

/-- An MMA of BF16 by BF16 in one strand, 16 × 64 × 32 deep, and a drain of its totals to the AS. -/
def anMma : OpMma := ⟨false, 0, 0, 0, 15, 63, 31, 1, 0, 0, 0, 0⟩
def aDrain : OpDrain := ⟨false, false, 0, 0, true, 0, false, 15, 63, 0, 0, 0, 0, 0, 0, 0, false, false, false⟩

theorem witness_MatrixInstructionsJoinTheQueue :
    let s := run
    let r := atIssue me s
    Issues me { len := 8 } s ∧ isSteward 0 = false ∧ (strandAt me s).matrix < 2
      ∧ mmaShape (r.core 0) false 0 anMma = none ∧ r.mxRefused 0 (mmaTaken me s false anMma).ranges = none
      ∧ mmaShape (r.core 0) true 0 { anMma with dest := 3 } = some 6
      ∧ Rm.ofField 0 (strandAt me s).rm = some .rne
      ∧ drainShape (r.core 0) false 0 aDrain = none ∧ r.mxRefused 0 (drainTaken me s false aDrain .rne).ranges = none
      ∧ drainShape (r.core 0) true 0 { aDrain with fuse := 3 } = some 6 :=
  ⟨issues_of (by decide +kernel), by decide +kernel⟩

/-- Two matrix instructions outstanding: the third waits. -/
theorem witness_MatrixInstructionsJoinTheQueue_full :
    let s := run fun x => { x with matrix := 2 }
    Issues me { len := 8 } s ∧ 2 ≤ (strandAt me s).matrix := ⟨issues_of (by decide +kernel), by decide +kernel⟩

theorem witness_MatrixQueueAdvances :
    let r : MmaRun := ⟨⟨0, 0, false, 0, none, []⟩, anMma, 0, 0, [⟨0, 0, 0, 0⟩], 0⟩
    let d : DrainRun := ⟨⟨0, 0, false, 0, none, []⟩, aDrain, .rne, [⟨0, 0, 0, 0, 0⟩], Vector.replicate 8 ⟨none⟩, true⟩
    r.step < mmaSteps r.o ∧ (MxRun.drain d).worked = true := by decide +kernel

theorem witness_IntegerRunsAreExact :
    Fmt.yb8.int?.isSome = false ∧ Fmt.s8.int?.isSome = true ∧ Fmt.u4.int?.isSome = true ∧ ([5, -7] : List Int)[1]? = some (-7) := by decide

/-- A TLOAD of two rows of 32 bytes from a mapped page: its first row, and its last one in progress. -/
def aTile : OpTile := ⟨false, 0, 0, 0, 1, 0, 0⟩
def rowIssued (r : RowRes) : Bool :=
  match r with
  | .issued _ => true
  | _ => false
theorem witness_TileRowsIssueOneByOne :
    Issues me { len := 8 } mapped ∧ tileBad aTile = false ∧ (strandAt me mapped).lcnt < 8 ∧ (strandAt me mapped).tstart.toNat ≤ aTile.rows.toNat
      ∧ rowIssued (rowIssue (tileRunOf me mapped false aTile) (envOf me mapped) (tileStarted me mapped false aTile)) = true
      ∧ (let s := mapped fun x => { x with tstart := 1, tile := some ⟨false, aTile, 0, 0, false⟩, loads := [{ issuing := true }] }
         (s.strand 0 0).run = .running ∧ ((strandAt me s).haltReq && (strandAt me s).boundary) = false
         ∧ ((atIssue me s).tryDeferrable 0 0 (slotOf me s)).isNone = true
         ∧ rowIssued (rowIssue ⟨false, aTile, 0, 0, false⟩ (envOf me s) (atIssue me s)) = true) :=
  ⟨issues_of (by decide +kernel), by decide +kernel⟩

/-- Entry 3 unprogrammed, programmed for S mode, and programmed for U mode with an ADD as its one micro-op. -/
def withEntry (umode : Nat) (s : State) : State :=
  (((s.setRf (Reg.CLU_UC_DEC 0 3) Reg.CLU_UC_DEC.VALID 1).setRf (Reg.CLU_UC_DEC 0 3) Reg.CLU_UC_DEC.UMODE umode).setReg (Reg.CLU_UC_OPA 0 0) 0x1)
theorem witness_CustomRunsItsMicroOps :
    let a := Reg.CLU_UC_DEC 0 3
    let m : MicroRun := ⟨3, false, 0, 0, 0, ⟨3, 1, 2, 3, 4⟩⟩
    let s := withEntry 1 (run fun x => { x with micro := some m })
    let word := substitute (0x1#32) 0 m.o
    Issues me { noDelay := true } run ∧ (atIssue me run).rbit a Reg.CLU_UC_DEC.VALID = false
      ∧ (atIssue me (withEntry 0 run)).rbit a Reg.CLU_UC_DEC.VALID = true ∧ (atIssue me (withEntry 0 run)).rbit a Reg.CLU_UC_DEC.UMODE = false
      ∧ (strandAt me (withEntry 0 (run fun x => { x with status := 0 }))).priv = 0 ∧ (atIssue me (withEntry 1 run)).rbit a Reg.CLU_UC_DEC.UMODE = true
      ∧ (s.strand 0 0).run = .running ∧ (strandAt me s).micro = some m ∧ (atIssue me s).reg (Reg.CLU_UC_OPA 0 0) = 0x1
      ∧ (atIssue me s).reg (Reg.CLU_UC_OPB 0 0) = 0 ∧ m.start + m.len ≤ 255
      ∧ decodeMicro word 0 { me with word := word } = some (.add { me with word := word } ⟨0, 0, 0, false⟩)
      ∧ (bodyOf (.add me ⟨0, 0, 0, false⟩)).isSome = true ∧ (strandAt me s).forbids (aluInfo ⟨0, 0, 0, false⟩) me = false :=
  ⟨issues_of (by decide +kernel), by decide +kernel, by decide +kernel, by decide +kernel, by decide +kernel, by decide +kernel,
    by decide +kernel, by decide +kernel, by decide +kernel, by decide +kernel, by decide, by decide +kernel, by decide +kernel,
    by decide +kernel⟩

/-- A load whose data is here, a line that has arrived, and a store of each destination at the head of the queue. -/
theorem witness_MemoryDataArrives :
    let p : Part := ⟨0x80, 4, .g 1 false, none, .ready 7⟩
    let f : Fetch := ⟨1, true, true, true, none, 70, [], some 0, false⟩
    let s := (State.reset.modStrand 0 0 fun x => { x with run := .running, loads := [{ parts := [p] }] }).modCore 0 fun c =>
      { c with fetches := [f], storeq := [⟨0, .mem 0x2000000000000 none, [1], 71⟩] }
    (s.strand 0 0).loads[0]? = some { parts := [p] }
      ∧ ((s.core 0).fetches.find? fun g => g.line == 1 && (g.data.isSome || g.failed)) = some f
      ∧ (s.core 0).mayLeave ⟨0, .mem 0x2000000000000 none, [1], 71⟩ = true ∧ (s.core 0).mayLeave ⟨0, .reg 0, [1], 71⟩ = true
      ∧ (s.core 0).mayLeave ⟨0, .sig (.core 0 0) 1, [], 71⟩ = true ∧ ownCounter 0 (.core 0 0) = true := by decide +kernel

/-- A fetch from a mapped page misses the instruction cache; walks that end stale, in a fault and in the firmware's queue. -/
theorem witness_WalksAndFetchesEnd :
    let r := (mapped.modCore 0 (Core.advance (slotOf me mapped))).xlateFor 0 0 .fetch 0
    whoOk me = true ∧ (mapped.strand 0 0).run = .running ∧ (mapped.strand 0 0).pc = 0 ∧ inWindow 0 = false
      ∧ xlated r = some 0x2000000000000 ∧ (cacheFind 2 (r.2.core 0).icache (0x2000000000000 / 128)).isNone = true
      ∧ ((r.2.bump (Reg.CORE_IC_MISSES 0) Reg.CORE_IC_MISSES.MISSES 1).physRead 0x2000000000000 128 (some 0)).1.isRight = true
      ∧ (let s := State.reset.modCluster 0 fun c => { c with walks := [⟨1, [], true⟩, ⟨2, [], false⟩] }
         (s.cluster 0).walks[0]? = some ⟨1, [], true⟩ ∧ (s.cluster 0).walks[1]? = some ⟨2, [], false⟩
         ∧ (s.walk 0 (2 * 65536)).1 = .fault ∧ ((s.walk 0 (2 * 65536)).2.cluster 0).walks = (s.cluster 0).walks) := by decide +kernel
theorem witness_WalksAndFetchesEnd_firmware :
    let s := ((State.reset.modCluster 0 fun c => { c with walks := [⟨2, [], false⟩] }).setRf (Reg.MMU_ROOT 0) Reg.MMU_ROOT.ROOT 0x2000000000).setBytes
      0x2000000000001 [2]
    (s.walk 0 (2 * 65536)).1 = .firmware ∧ ((s.walk 0 (2 * 65536)).2.cluster 0).walks = (s.cluster 0).walks
      ∧ (s.cluster 0).fq.all (·.page != 2) = true ∧ (s.cluster 0).fq.length < 64 := by decide +kernel

/-- A timer interrupt enabled and due; a halt asked for; a rest stop. -/
theorem witness_CausesHaltsAndResumes :
    let s := run fun x => { x with status := 0, ienable := 1, timecmp := 0 }
    let h := run fun x => { x with haltReq := true }
    whoOk me = true ∧ s.heldByPause 0 0 = false ∧ (strandAt me s).run = .running
      ∧ ((atIssue me s).tryDeferrable 0 0 (slotOf me s)).isSome = true
      ∧ (strandAt me h).run = .running ∧ (strandAt me h).haltReq = true ∧ (strandAt me h).boundary = true
      ∧ ((State.reset.modStrand 0 0 fun x => { x with run := .restStop }).strand 0 0).run = .restStop ∧ State.reset.wf = true := by decide +kernel

theorem witness_TakingACause :
    let x : Strand := {}
    let c : Cause := { code := 31, xtval := 2 ^ 48 - 1 }
    x.shadow = [] ∧ x.tile = none ∧ x.loads = [] ∧ c.code < 32 ∧ c.xtval < 2 ^ 48 := by decide +kernel

/-- A bank in each state, asked to stop and held by nothing. -/
theorem witness_BankPower :
    let b : BankId := .ls 0 .as 15
    bankThere b = true ∧ State.reset.bankState b = .on ∧ (State.reset.setBankState b .off).bankState b = .off
      ∧ (State.reset.setBankState b .starting).bankState b = .starting ∧ (State.reset.setBankState b .starting).wf = true
      ∧ ((State.reset.setBankState b .stopping).setBankPending b true).bankState b = .stopping
      ∧ ((State.reset.setBankState b .stopping).setBankPending b true).bankPending b = true
      ∧ (State.reset.setBankState b .stopping).bankPending b = false ∧ State.reset.bankHeld b = false := by decide +kernel

theorem witness_InvalidationsAndFaultQueue :
    let s := State.reset.modCluster 11 fun c => { c with inv := some (70, []), fq := [⟨2, []⟩] }
    State.reset.wf = true ∧ (State.reset.cluster 0).inv = none ∧ (s.cluster 11).inv = some (70, []) ∧ (s.cluster 11).walks.any (·.stale) = false
      ∧ (s.cluster 11).bursts.any (·.accessOpen 70 []) = false ∧ (clusterCores 11).any (fun k => (s.core k).accessOpen 70 []) = false
      ∧ (s.cluster 11).fq = [⟨2, []⟩] ∧ counterOfNum 16383 = some (.shared 1023) := by decide +kernel

/-- A descriptor that moves two lines of 0x180 bytes: VALID, END. -/
def aDesc : Desc := ⟨1, 1, 0x1000, 0x180, 2, 0x2000, 0x300, 1⟩
theorem witness_DmaChannelsAndDescriptors :
    let s := State.reset
    let on := s.setChanState 11 63 .on
    let reads := (on.modChan 11 63 fun c => { c with next := some 64 })
    (s.setChanState 0 0 .off).chanState 0 0 = .off ∧ (s.setChanState 0 0 .stopping).chanState 0 0 = .stopping ∧ on.chanState 11 63 = .on
      ∧ (s.setChanState 0 0 .starting).chanState 0 0 = .starting ∧ ((s.cluster 0).chan 0).stop = false
      ∧ (s.cluster 0).bursts.any (·.chan == 0) = false ∧ ((s.cluster 0).chan 0).runs = []
      ∧ ((s.modChan 0 0 fun _ => {}).settleBusy 0 0).rbit (Reg.DMA_CH_STAT 0 0) Reg.DMA_CH_STAT.PENDING_ON = false
      ∧ (((s.setChanPending 0 0 true).modChan 0 0 fun _ => {}).settleBusy 0 0).rbit (Reg.DMA_CH_STAT 0 0) Reg.DMA_CH_STAT.PENDING_ON = true
      ∧ on.rbit (Reg.DMA_CH_STAT 11 63) Reg.DMA_CH_STAT.BUSY = false
      ∧ ((reads.cluster 11).chan 63).next = some 64 ∧ ((reads.cluster 11).chan 63).runs.getLast? = none
      ∧ (reads.physRead (clmAddr 11 64) 64 none).1.isRight = true
      ∧ aDesc.valid = true ∧ aDesc.isEnd = true ∧ aDesc.malformed = false ∧ aDesc.fence = false
      ∧ ({ aDesc with sl := 0 } : Desc).malformed = true ∧ ({ aDesc with w1 := 0 } : Desc).valid = false := by decide +kernel

/-- The last byte of the transfer. -/
theorem witness_DmaBurstsStayInTheirLines : aDesc.malformed = false ∧ 0x2FF < aDesc.total := by decide

theorem witness_DmaBurstsAndCheckUnits :
    let r : DescRun := { id := 1, off := 64, d := aDesc, bad := some 8 }
    let b (j : Option Nat) : Burst := ⟨0, 2, 0, 64, 0, 0, none, none, 70, 70, .answered j, []⟩
    let s := (State.reset.modCluster 0 fun c => { c with bursts := [b (some 1), b none] }).modChan 0 0 fun c => { c with runs := [r] }
    s.net.paused.contains 0 = false ∧ s.wf = true ∧ (s.cluster 0).bursts[0]? = some (b (some 1)) ∧ (s.cluster 0).bursts[1]? = some (b none)
      ∧ ((s.cluster 0).chan 0).runs = [r] ∧ (s.cluster 0).bursts.any (fun b => b.chan == 0 && b.run == r.id) = false := by decide +kernel

/-- Stack 0 and DDR5 channel 0 live, with tags at page 0 of HBM and key slot 3 valid. -/
def memLive : State :=
  ((((((State.reset.setReg Reg.ID_MEM_LIVE 0x1000001).setRf (Reg.DDR_STAT 0) Reg.DDR_STAT.DIMMS 1).setRf (Reg.DDR_STAT 0) Reg.DDR_STAT.CAP 1).setRf
    Reg.DDR_TAG_BASE Reg.DDR_TAG_BASE.EN 1).setRf (Reg.KEY_CTL 3) Reg.KEY_CTL.VALID 1))

theorem witness_ScrubsMovesAndPatrol :
    let s := memLive
    let job : ScrubJob := ⟨70, .ddr 0, 0, 0⟩
    let t : State := { s with ext := { s.ext with scrubs := [job], moves := [⟨0, 9, 8, true⟩] } }
    let u := t.writeTag 0 8 (some 3)
    s.extLive (.hbm 0) = true ∧ s.extLive (.ddr 0) = true ∧ s.scrubBusy (.hbm 23) = false ∧ s.scrubBusy (.ddr 11) = false
      ∧ (s.scrubEnd (.ddr 0)).isNone = true ∧ ((t.scrubEnd (.ddr 0)).map (·.1)) = some 70 ∧ s.parts = [] ∧ s.host.pending = [] ∧ s.wf = true
      ∧ (s.setRf (Reg.DDR_MOVE 0) Reg.DDR_MOVE.HPAGE 1).rbit (Reg.DDR_MOVE 0) Reg.DDR_MOVE.BUSY = false
      ∧ u.ext.moves.find? (·.n == 0) = some ⟨0, 9, 8, true⟩ ∧ u.pageSlot (4294967296 + 8) = some 3 ∧ u.pageThere (4294967296 + 8) = true
      ∧ u.pageThere 9 = true ∧ (u.asidesOfPages [9]).isSome = true := by decide +kernel

theorem witness_TagsAndKeys :
    let s := memLive
    let rk := (s.writeTag 0 8 (some 3)).setRf Reg.DDR_RK_CTL Reg.DDR_RK_CTL.FROM 3
    let t : State := { rk with ext := { rk.ext with rekey := [(0, 0)] } }
    let cmd := s.setTagCmd 0 0 8388608 (some 3)
    cmd.rbit (Reg.DDR_TAG_CMD 0) Reg.DDR_TAG_CMD.BUSY = false ∧ cmd.keyValid 3 = true ∧ cmd.rekeyFrom 3 = false
      ∧ (s.setTagCmd 0 0 8388608 (some 4)).keyValid 4 = false
      ∧ s.rbit Reg.DDR_RK_CTL Reg.DDR_RK_CTL.BUSY = false
      ∧ (((s.setRf Reg.DDR_RK_CTL Reg.DDR_RK_CTL.FROM 5).setRf Reg.DDR_RK_CTL Reg.DDR_RK_CTL.TO 3).setRf Reg.DDR_RK_CTL Reg.DDR_RK_CTL.RATE 1).keyValid 3 = true
      ∧ t.ext.rekey.find? (·.1 == 0) = some (0, 0) ∧ t.nextTagged 0 0 3 = some 8
      ∧ s.keyHeld 63 = false ∧ ((memLive.writeTag 0 8 (some 3)).setRf (Reg.KEY_CTL 3) Reg.KEY_CTL.PAGES 1).keyHeld 3 = true := by decide +kernel

/-- Partition 0 on cluster 0 with one 64 KiB page at virtual address 0, and its page tables in HBM page 16. -/
def paged (leaf : W64) (l : Leaf) : State :=
  let s := (((memLive.setNum 0x100000 8 0x101000001).setNum 0x101000 8 0x102000001).setNum 0x102000 8 0x103000001).setNum 0x103000 8 leaf.toNat
  { s with parts := [{ num := 0, clusters := [0], tables := [16], leaves := [l] }] }

theorem witness_PagesMoveAndRetire_out :
    let l : Leaf := ⟨0, 3, 5 * 65536, 0, false, none⟩
    let s := paged 0x50002F#64 l
    let d := 4294967296 + 8
    s.pageThere d = true ∧ s.pageFree d = true ∧ s.keyValid 3 = true ∧ s.rekeyFrom 3 = false
      ∧ s.rbit Reg.DDR_TAG_BASE Reg.DDR_TAG_BASE.EN = true ∧ (s.smallLeaf 0 0).map (·.1) = some l ∧ (s.smallLeaf 0 0).isSome = true
      ∧ ddrPage (l.pa / 65536) = none ∧ s.pageOpen 0 l.pa = false ∧ s.partEntry 0 l.va = some (0x103000, 3, 0x50002F#64) := by decide +kernel

/-- The same page in DDR5, and an access waiting for it. -/
theorem witness_PagesMoveAndRetire_back :
    let l : Leaf := ⟨0, 3, (4294967296 + 8) * 65536, 0, true, none⟩
    let e : W64 := 0x10000000800322E#64
    let s := ((paged e l).modCluster 0 fun c => { c with fq := [⟨0, []⟩] }).setReg Reg.ID_CLU_ASSIGN 0
    (s.cluster 0).fq = [⟨0, []⟩] ∧ s.partEntry (s.partOf 0) 0 = some (0x103000, 3, e)
      ∧ ((s.part? (s.partOf 0)).bind fun x => x.leaves.find? fun l => l.out && l.covers 0) = some l
      ∧ s.pageThere 5 = true ∧ (s.pageFree 5) = true := by decide +kernel

theorem witness_PagesMoveAndRetire_worn :
    let s : State := { memLive with ext := { memLive.ext with poison := [5 * 1024] } }
    5 ∉ s.ext.retired ∧ s.pageThere 5 = true ∧ s.pageWorn 5 = true ∧ s.parts = [] := by decide +kernel

/-- A port On with its link UP, its device ID valid. -/
def portUp : State :=
  (((State.reset.setPortState 17 .on).setLink 17 2).setRf Reg.TRL_DEVID Reg.TRL_DEVID.DEVID 7).setRf Reg.TRL_DEVID Reg.TRL_DEVID.VALID 1

theorem witness_TrailPortsAndTraining :
    let s := State.reset
    let t := portUp.modPort 17 fun x => { x with retrain := true }
    (s.setPortState 17 .off).portState 17 = .off ∧ (s.setPortState 17 .stopping).portState 17 = .stopping ∧ portUp.portState 17 = .on
      ∧ (s.setPortState 17 .starting).portState 17 = .starting ∧ (s.port 17).stop = false ∧ s.link 17 = 0
      ∧ s.rbit (Reg.TRL_STAT 17) Reg.TRL_STAT.PENDING_ON = false
      ∧ (s.setRf (Reg.TRL_STAT 17) Reg.TRL_STAT.PENDING_ON 1).rbit (Reg.TRL_STAT 17) Reg.TRL_STAT.PENDING_ON = true
      ∧ (portUp.setLink 17 1).link 17 = 1 ∧ widthFor 0 (s.maxWidth 17) = 3 ∧ widthFor 15 (s.maxWidth 17) ≠ 3
      ∧ s.rbit Reg.TRL_DEVID Reg.TRL_DEVID.VALID = false ∧ portUp.rbit Reg.TRL_DEVID Reg.TRL_DEVID.VALID = true
      ∧ (portUp.port 17).reqs = [] ∧ (portUp.port 17).tx = [] ∧ portUp.link 17 ≠ 0 ∧ portUp.portFlits 17 = true
      ∧ 3 ∈ lanesUsed 15 0 ∧ (3 : Nat) ∉ lanesUsed 3 1 ∧ (portUp.port 17).retrain = false ∧ (t.port 17).retrain = true := by decide +kernel

/-- A flit of a header and 240 zero bytes, with its CRC. -/
def zeros24 : List Byte := List.replicate 24 0#8
def flitOf (head crc : Nat) : Flit := ⟨toBytes 12 head ++ (toBytes 4 crc ++ (zeros24 ++ (zeros24 ++ (zeros24 ++ (zeros24 ++ (zeros24
  ++ (zeros24 ++ (zeros24 ++ (zeros24 ++ (zeros24 ++ zeros24))))))))))⟩

/-- The CRC of such a flit, worked out in eleven parts. -/
theorem crc_flitOf {head crc v0 v1 v2 v3 v4 v5 v6 v7 v8 v9 v10 : Nat} (h0 : crcBytes 0x82F63B78 0xFFFFFFFF (toBytes 12 head) = v0)
    (h1 : crcBytes 0x82F63B78 v0 zeros24 = v1) (h2 : crcBytes 0x82F63B78 v1 zeros24 = v2) (h3 : crcBytes 0x82F63B78 v2 zeros24 = v3)
    (h4 : crcBytes 0x82F63B78 v3 zeros24 = v4) (h5 : crcBytes 0x82F63B78 v4 zeros24 = v5) (h6 : crcBytes 0x82F63B78 v5 zeros24 = v6)
    (h7 : crcBytes 0x82F63B78 v6 zeros24 = v7) (h8 : crcBytes 0x82F63B78 v7 zeros24 = v8) (h9 : crcBytes 0x82F63B78 v8 zeros24 = v9)
    (h10 : crcBytes 0x82F63B78 v9 zeros24 = v10) (hc : v10.xor 0xFFFFFFFF = crc) : flitCrc (flitOf head crc).bytes = crc := by
  have ht : (flitOf head crc).bytes.take 12 = toBytes 12 head := by
    simp only [flitOf]; exact List.take_left' (by simp [toBytes])
  have hd : (flitOf head crc).bytes.drop 16 = zeros24 ++ (zeros24 ++ (zeros24 ++ (zeros24 ++ (zeros24 ++ (zeros24 ++ (zeros24 ++ (zeros24
      ++ (zeros24 ++ zeros24)))))))) := by
    simp only [flitOf]; rw [← List.append_assoc]; exact List.drop_left' (by simp [toBytes])
  simp only [flitCrc, ht, hd, crcBytes_append, h0, h1, h2, h3, h4, h5, h6, h7, h8, h9, h10, hc]

theorem good_idle : flitGood (flitOf 0 1743147809) 0 :=
  ⟨by decide +kernel, (by decide +kernel : flitHeader (flitOf 0 1743147809) / 2 ^ 96 = 1743147809).trans (crc_flitOf (v0 := 3567209122) (v1 := 98162989) (v2 := 2784295630) (v3 := 203975781) (v4 := 3019410457)
    (v5 := 73192541) (v6 := 2493348528) (v7 := 3360675449) (v8 := 769412765) (v9 := 3610602582) (v10 := 2551819486) (by decide +kernel) (by decide +kernel)
    (by decide +kernel) (by decide +kernel) (by decide +kernel) (by decide +kernel) (by decide +kernel) (by decide +kernel)
    (by decide +kernel) (by decide +kernel) (by decide +kernel) (by decide)).symm, by decide +kernel⟩
theorem good_first : flitGood (flitOf 1 1942027060) 1 :=
  ⟨by decide +kernel, (by decide +kernel : flitHeader (flitOf 1 1942027060) / 2 ^ 96 = 1942027060).trans (crc_flitOf (v0 := 3857620626) (v1 := 907371153) (v2 := 3494862485) (v3 := 275428902) (v4 := 633794004)
    (v5 := 1630234136) (v6 := 2874937654) (v7 := 1688416093) (v8 := 2061127359) (v9 := 3663183861) (v10 := 2352940235) (by decide +kernel) (by decide +kernel)
    (by decide +kernel) (by decide +kernel) (by decide +kernel) (by decide +kernel) (by decide +kernel) (by decide +kernel)
    (by decide +kernel) (by decide +kernel) (by decide +kernel) (by decide)).symm, by decide +kernel⟩
theorem good_retry : flitGood (flitOf 2 1336607499) 2 :=
  ⟨by decide +kernel, (by decide +kernel : flitHeader (flitOf 2 1336607499) / 2 ^ 96 = 1336607499).trans (crc_flitOf (v0 := 3061637826) (v1 := 1648406101) (v2 := 1317253752) (v3 := 883808483) (v4 := 2590521714)
    (v5 := 3467882711) (v6 := 3944721852) (v7 := 2491044544) (v8 := 2211466969) (v9 := 3455109904) (v10 := 2958359796) (by decide +kernel) (by decide +kernel)
    (by decide +kernel) (by decide +kernel) (by decide +kernel) (by decide +kernel) (by decide +kernel) (by decide +kernel)
    (by decide +kernel) (by decide +kernel) (by decide +kernel) (by decide)).symm, by decide +kernel⟩
theorem good_second : flitGood (flitOf 65537 1492700410) 1 :=
  ⟨by decide +kernel, (by decide +kernel : flitHeader (flitOf 65537 1492700410) / 2 ^ 96 = 1492700410).trans (crc_flitOf (v0 := 783869239) (v1 := 1222764864) (v2 := 1698332769) (v3 := 1964371906) (v4 := 4056439367)
    (v5 := 2916335484) (v6 := 652921570) (v7 := 2520056043) (v8 := 481459920) (v9 := 557731851) (v10 := 2802266885) (by decide +kernel) (by decide +kernel)
    (by decide +kernel) (by decide +kernel) (by decide +kernel) (by decide +kernel) (by decide +kernel) (by decide +kernel)
    (by decide +kernel) (by decide +kernel) (by decide +kernel) (by decide)).symm, by decide +kernel⟩

/-- What a port sends, and what arrives: an idle flit, a data flit of the wrong and of the right SEQ, a retry request, and a flit that is
cut short. -/
theorem witness_TrailFlits :
    let s := portUp.modPort 17 fun x => { x with seq := 5, replay := [(4, List.replicate 256 0#8)], resend := [4] }
    let t := portUp.modPort 17 fun x => { x with tx := [{ kind := .tok, ddev := 8, sdev := 7, hops := 8, sep := 0 }], credit := #v[8, 8, 8, 8] }
    s.portFlits 17 = true ∧ (s.port 17).owed = false ∧ (s.port 17).resend = [4]
      ∧ (s.port 17).replay.find? (·.1 == 4) = some (4, List.replicate 256 0#8)
      ∧ (t.port 17).resend = [] ∧ (t.port 17).replay.length < 512
      ∧ ([3, 1, 2, 0].find? fun c => !((t.port 17).rest c).isEmpty || (t.portState 17 == .on && ((t.port 17).ready c).isSome)) = some 3
      ∧ flitHeader (flitOf 1 1942027060) / 65536 % 65536 = ((portUp.port 17).lastRx + 1) % 65536
      ∧ flitHeader (flitOf 65537 1492700410) / 65536 % 65536 ≠ ((portUp.port 17).lastRx + 1) % 65536
      ∧ (⟨[]⟩ : Flit).bytes.length ≠ 256 := by decide +kernel
theorem witness_TrailFlits_types :
    flitGood (flitOf 0 1743147809) 0 ∧ flitGood (flitOf 1 1942027060) 1 ∧ flitGood (flitOf 2 1336607499) 2 := ⟨good_idle, good_first, good_retry⟩

theorem witness_TrailFormatsRoundTrip :
    (2 ^ 96 - 1 < 2 ^ 96 ∧ (List.replicate 240 0#8).length ≤ 240)
      ∧ (let t : TPkt := { kind := .wr, size := 8, ddev := 65535, sdev := 65535, hops := 255, sep := 4095, off := 2 ^ 38 - 1,
                           payload := List.replicate 8 0xFF#8 }
         t.size ∈ [0, 8, 16, 64, 128, 512, 2048] ∧ t.payload.length = t.size ∧ t.off < 2 ^ 38) := by decide +kernel

/-- One packet in the receive buffer of port 17. -/
def received1 (t : TPkt) (s : State) : State := s.modPort 17 fun x => { x with rx := [t] }
theorem witness_TrailPackets :
    let t : TPkt := { kind := .wr, size := 8, ddev := 7, sdev := 9, hops := 8, sep := 0, win := 63, payload := List.replicate 8 1#8 }
    let s := received1 t portUp
    let opened := ((s.setRf (Reg.TRL_WINA 63) Reg.TRL_WINA.OPEN 1).setRf (Reg.TRL_WINA 63) Reg.TRL_WINA.WR 1).setRf (Reg.TRL_WINC 63) Reg.TRL_WINC.SIZE 1
    trailHead s 17 t (s.modPort 17 fun x => { x with
        rx := x.rx.eraseIdx 0, freed := vset x.freed t.kind.cls (vget x.freed t.kind.cls + t.slots) })
      ∧ t.ddev = s.devId ∧ s.windowRefuses t = some 1 ∧ opened.windowRefuses t = none
      ∧ opened.windowRefuses { t with off := 65529 } = some 2 ∧ opened.windowRefuses { t with off := 65528 } = none
      ∧ (s.port 17).held = [] ∧ (s.port 17).serve = [] := by
  refine ⟨⟨0, by decide +kernel, by decide +kernel, rfl⟩, by decide +kernel⟩
theorem witness_TrailPackets_forwarded :
    let s := portUp.setReg (Reg.TRL_ROUTE 1) 17
    8 ≠ s.devId ∧ s.routePort 8 = some 17 := by decide +kernel

/-! The commands of the host: a state in which each starts. -/

/-- Stage 5, sessions 1 of the operator and 2 of partition 0, which holds cluster 0 with one live core and one mapped page. -/
def served : State :=
  let s := (((paged 0x50002F#64 ⟨0, 3, 5 * 65536, 0, false, none⟩).setRf Reg.CHT_BOOT Reg.CHT_BOOT.STAGE 5).setReg Reg.ID_CLU_ASSIGN
    0xFFFFFFFFFFF0).setReg (Reg.ID_CORE_LIVE 0) 1
  let s := (s.setReg Reg.ID_CLU_STATE 2).setReg Reg.ID_MEM_LIVE 0x1000003
  let ses (n role : Nat) : Session := { num := n, role := role, part := 0, window := 64, maxdata := 8064, keep := 60, spdm := 5, next := 0, txNext := 0 }
  { s with
    host := { s.host with sessions := [ses 1 0, ses 2 1]
                          scheduled := [{ cmd := .hello ⟨1, 9, none⟩, session := 1, opcode := 0x01, tag := 9, exec := 0 }] }
    parts := s.parts.map fun x => { x with progs := [(0, (0, 0))] } }

/-- A command that carries no execute-at time, in its turn, that passes every check. -/
def startsB (i : Instr) (s : State) : Bool :=
  match kilperCmd i with
  | none => false
  | some (h, c) => match s.asker? h with
    | none => false
    | some w =>
      let u := s.takeUp h c.row.op
      s.serving && !s.handing && s.itsTurn h c.row.op && !s.stopped w.part? && !s.stopped (c.acts s) && h.exec.isNone
        && (checksOf c ⟨h, c.row.op, u.lockFlag, w⟩ u).first.isNone && c.ready

theorem starts_of {i : Instr} {s : State} (h : startsB i s = true) : ∃ t u, Starts i t s u := by
  unfold startsB at h
  split at h
  · cases h
  · rename_i hd c hk
    split at h
    · cases h
    · rename_i w hw
      simp only [Bool.and_eq_true, Bool.not_eq_true', Option.isNone_iff_eq_none] at h
      obtain ⟨⟨⟨⟨⟨⟨⟨h1, h2⟩, h3⟩, h4⟩, h5⟩, h6⟩, h7⟩, h8⟩ := h
      exact ⟨⟨hd, c.row.op, (s.takeUp hd c.row.op).lockFlag, w⟩, s.takeUp hd c.row.op, c, ⟨hk, h1, .inl h2, h3, hw, ⟨h4, h5⟩, rfl, rfl, rfl⟩,
        h6, h7, h8⟩

/-- The operator and the partition as senders. -/
def op : KHdr := ⟨1, 7, none⟩
def tenant : KHdr := ⟨2, 7, none⟩

theorem witness_HostCommandsAreTakenUp :
    startsB (.hello op) served = true ∧ kilperCmd (.queryInfo ⟨9, 1, none⟩) ≠ none ∧ served.asker? ⟨9, 1, none⟩ = none
      ∧ served.serving = true ∧ served.handing = false ∧ served.itsTurn ⟨9, 1, none⟩ 0x10 = true
      ∧ (let e : W64 := 0x0000000100000000#64
         served.execBad e = false ∧ served.time.now < served.execNs e * 2 ^ 32 ∧ served.execBad 0x3B9ACA00#64 = true
         ∧ ¬ served.time.now < served.execNs 0 * 2 ^ 32) := by
  refine ⟨by decide +kernel, by simp [kilperCmd], by decide +kernel⟩
/-- Each kind of failure in its place: a partition session may not retire a core; core 480; a core that is not live. -/
theorem witness_HostCommandsAreTakenUp_fails :
    (checksOf (cmdCoreRetire 0) ⟨tenant, 0x53, 32, .partition 0⟩ served).first = some (0x300, 0)
      ∧ (checksOf (cmdCoreRetire 480) ⟨op, 0x53, 32, .operator⟩ served).first = some (0x101, 0)
      ∧ (checksOf (cmdCoreRetire 479) ⟨op, 0x53, 32, .operator⟩ served).first = some (0x201, 0)
      ∧ (checksOf (cmdPartCreate 0 2 0) ⟨op, 0x30, 32, .operator⟩ served).first = some (0x500, 0) := by decide +kernel

theorem witness_SessionsQueriesAndTransfers :
    startsB (.hello ⟨0, 7, none⟩) served = true ∧ startsB (.queryInfo op) served = true ∧ startsB (.queryHealth tenant) served = true
      ∧ startsB (.timeStatus op) served = true ∧ startsB (.sessionClose tenant) served = true ∧ startsB (.scheduleList tenant 0) served = true
      ∧ startsB (.scheduleCancel op 9 0) served = true ∧ startsB (.memWrite tenant 0 8 [(0, List.replicate 8 1#8)]) served = true
      ∧ startsB (.memRead tenant 65528 8) served = true ∧ startsB (.memFill op 0 1073741824 0) served = true
      ∧ startsB (.scrub op 0x600000 1) served = true := by decide +kernel

theorem witness_PartitionsProgramsAndCounters :
    startsB (.partCreate op 11 0x800 60000) served = true ∧ startsB (.partDestroy op 0) served = true
      ∧ startsB (.mapPages op ⟨0, 0, 0, 1, 0x100000, 1, 0, 0, none⟩) served = true ∧ startsB (.unmapPages op 0 0 0 1) served = true
      ∧ startsB (.loadProgram tenant 15 1 0 0 4) served = true ∧ startsB (.loadRoutes tenant 0 1) served = true
      ∧ startsB (.loadMicrocode tenant 1 15 1 255 1 [0]) served = true ∧ startsB (.launchStart tenant 0 15 1 []) served = true
      ∧ startsB (.launchWake tenant 1 [(0, 1)]) served = true ∧ startsB (.signalAdd tenant 0 1) served = true
      ∧ startsB (.signalSet tenant 31 1) served = true ∧ startsB (.waitCounterWatch tenant 0 1 0) served = true
      ∧ startsB (.waitCounterTake tenant 0 0 1) served = true ∧ startsB (.waypointTake op 0) served = true
      ∧ startsB (.clusterReset op 0) served = true ∧ startsB (.coreRetire op 0) served = true := by decide +kernel
/-- A session that is authorised by an SPDM session; a waypoint that can be restored. -/
theorem witness_sessionOpen :
    startsB (.sessionOpen ⟨0, 7, none⟩ ⟨0, 0xFF, 64, 8064, 60, 5, 0, 0⟩)
      { served with sec := { served.sec with spdm := [⟨5, true, none, true, true⟩] } } = true := by decide +kernel
theorem witness_waypointRestore :
    let w : Waypoint := { num := 1, time := 0, recs := [], pages := [] }
    startsB (.waypointRestore op 0 0) { served with parts := served.parts.map fun x => { x with captured := some w, local_ := some w } } = true := by
  decide +kernel

/-- An image that fails its checks, and one that was staged. -/
def anImage : Image := ⟨false, true, 0, 0, 0, 1, 0, true, true, 0⟩
def aKey : KeyRecord := ⟨5, true, 1, 2, 0, 0⟩
def secured (s : State) : State := { s with sec := { s.sec with spdm := [⟨5, true, none, true, true⟩] } }
theorem witness_TrustDebugAndLinks :
    startsB (.attest op .getVersion) served = true ∧ startsB (.keyInstallDdr5 op 63 aKey) (secured served) = true
      ∧ startsB (.keyInstallMacsecTx op 3 aKey) (secured served) = true ∧ startsB (.keyInstallMacsecRx op 3 aKey) (secured served) = true
      ∧ startsB (.keyRetireDdr5 op 63) served = true ∧ startsB (.keyRetireMacsec op false 3) served = true
      ∧ startsB (.keyRetireMacsec op true 3) served = true ∧ startsB (.fwStage op 1 anImage) served = true
      ∧ startsB (.fwActivate op 600) { served with sec := { served.sec with staged := some ⟨true, anImage⟩ } } = true := by decide +kernel
theorem witness_TrustDebugAndLinks_states :
    let prov : State := { served with sec := { served.sec with fuseP := true, cfgRoot := some 1 } }
    startsB (.lifecycleProvisioned op 0x4C435943) { served with sec := { served.sec with attKey := true, chain := some [] } } = true
      ∧ startsB (.lifecycleField op 0x4C435943) prov = true ∧ startsB (.lifecycleReturn op 0x4C435943) served = true := by decide +kernel
theorem witness_TrustDebugAndLinks_debug :
    let s : State := { served with sec := { served.sec with dbg := true } }
    startsB (.debugHalt op 0 15) s = true ∧ startsB (.debugRead op 0 8) s = true ∧ startsB (.debugRead op 0xF000010900000 8) s = true
      ∧ startsB (.debugWrite op 0 1 [1]) s = true ∧ startsB (.traceConfig op ⟨7, 15, 0, 15, 0x600000, 1⟩) s = true
      ∧ startsB (.perfRead op 1 [0xF000010900000]) s = true ∧ s.debugReg 0xF000010900000 = some 0x10900000
      ∧ startsB (.linkConfig op 0xFFFF 1 0 0x3FFFF 0) s = true ∧ startsB (.windowOpen op ⟨255, 0, 3, 0, 0x2000000000000, 1, 0, 0⟩) s = true
      ∧ startsB (.windowClose op 255) s = true := by decide +kernel

/-! The host port, time, recovery and the package. -/

/-- The host port On with its link UP, firmware serving, IPv4 and IPv6 in use. -/
def hostUp : State :=
  ((((served.setRf Reg.HST_STAT Reg.HST_STAT.STATE 2).setRf Reg.HST_STAT Reg.HST_STAT.LINK 2).setRf Reg.HST_CFG Reg.HST_CFG.V4 1).setRf
    Reg.HST_IP4 Reg.HST_IP4.ADDR 0x0A000001)
def aPeer : Peer := { mac := 5, v6 := false, ip := 0x0A000002, port := 1234 }
/-- A frame for the device, with a body. -/
def aFrame (b : FrameBody) : Frame := ⟨64, true, [], none, .own, 5, true, false, b⟩

theorem witness_HostPortAndPackets_port :
    let st (v : Nat) : State := served.setRf Reg.HST_STAT Reg.HST_STAT.STATE v
    let p : KPkt := { type := 1, flags := 63, session := 2 ^ 32 - 1, exec := 2 ^ 64 - 1, payload := [1] }
    (st 0).hostState = .off ∧ (st 1).hostState = .starting ∧ hostUp.hostState = .on ∧ (st 3).hostState = .stopping ∧ served.host.stop = false
      ∧ (st 3).rbit Reg.HST_STAT Reg.HST_STAT.PENDING_ON = false
      ∧ ((st 3).setRf Reg.HST_STAT Reg.HST_STAT.PENDING_ON 1).rbit Reg.HST_STAT Reg.HST_STAT.PENDING_ON = true
      ∧ (hostUp.setRf Reg.HST_STAT Reg.HST_STAT.LINK 0).hostLink = 0 ∧ (hostUp.setRf Reg.HST_STAT Reg.HST_STAT.LINK 1).hostLink = 1
      ∧ hostUp.hostLink = 2 ∧ p.type ∈ [1, 3, 4] ∧ p.flags < 64 ∧ p.session < 2 ^ 32 ∧ p.exec < 2 ^ 64 ∧ p.payload.length ≤ 8072 := by
  decide +kernel

/-- Frames cut short, of the wrong tags, protected with a stale number, and good. -/
theorem witness_HostPortAndPackets_frames :
    let f := aFrame (.arpRequest 0x0A000001)
    let x : SecTag := ⟨1, 4, true⟩
    let t := hostUp.bump Reg.HST_RXF Reg.HST_RXF.FRAMES 1
    let sa : State := { t with host := { t.host with rx := [(1, ⟨aKey, 5⟩)] } }
    served.hostLink ≠ 2 ∧ hostUp.hostLink = 2 ∧ ({ f with length := 63 } : Frame).length < 64 ∧ 9216 < ({ f with length := 9217 } : Frame).length
      ∧ (t.macsecIn f).isSome = true ∧ (t.setRf Reg.HST_CFG Reg.HST_CFG.MSREQ 1).macsecIn f = none
      ∧ t.tagsOk [1] = false ∧ t.tagsOk [] = true
      ∧ sa.host.rx.find? (·.1 == x.an.toNat) = some (x.an.toNat, ⟨aKey, 5⟩) ∧ x.pn.toNat < 5
      ∧ t.ipUsed false = true ∧ t.rf Reg.HST_IP4 Reg.HST_IP4.ADDR = 0x0A000001 := by decide +kernel

/-- A frame that is good, as the statement asks of it. -/
theorem witness_HostPortAndPackets_datagram :
    let port := BitVec.ofNat 16 (hostUp.rf Reg.HST_CFG Reg.HST_CFG.UDPPORT)
    let f := aFrame (.udp false aPeer.ip aPeer.port port [])
    ∃ v, frameGood hostUp f v ∧ datagram f v aPeer [] := by
  refine ⟨hostUp.bump Reg.HST_RXF Reg.HST_RXF.FRAMES 1, ⟨by decide +kernel, by decide +kernel, by decide +kernel, by decide +kernel,
    by simp [aFrame], ?_, by decide +kernel⟩, _, rfl, rfl, rfl, rfl, rfl, by decide +kernel, by decide +kernel⟩
  have h : (hostUp.bump Reg.HST_RXF Reg.HST_RXF.FRAMES 1).rbit Reg.HST_CFG Reg.HST_CFG.MSREQ = false := by decide +kernel
  simp [State.macsecIn, aFrame, h]

/-- Packets of session 0, of a session that is not open, and of an open one: the expected, a later and an earlier one. -/
theorem witness_HostPortAndPackets_packets :
    let p : KPkt := { type := 3, session := 1, seq := 0 }
    let x : Session := { num := 1, role := 0, part := 0, window := 64, maxdata := 8064, keep := 60, spdm := 5, next := 0, txNext := 0 }
    parseKilper (kilperBytes { type := 1, session := 0 }) = some { type := 1, session := 0 } ∧ parseKilper [] = none
      ∧ parseKilper (kilperBytes p) = some p ∧ hostUp.session? 9 = none ∧ hostUp.session? 1 = some x ∧ p.flags.testBit 0 = false
      ∧ (p.seq + 2 ^ 32 - x.next) % 2 ^ 32 = 0 ∧ (63 + 2 ^ 32 - x.next) % 2 ^ 32 < x.window
      ∧ 2 ^ 31 ≤ (0xFFFFFFFF + 2 ^ 32 - x.next) % 2 ^ 32 ∧ x.window ≤ (64 + 2 ^ 32 - x.next) % 2 ^ 32
      ∧ (64 + 2 ^ 32 - x.next) % 2 ^ 32 < 2 ^ 31 := by decide +kernel

theorem witness_HostPortAndPackets_sessions :
    let q : TxPkt := { p := { type := 3, session := 1, seq := 4 } }
    let s := served.modSession 1 fun x => { x with ackOwed := true, unacked := [q] }
    let w : KWait := ⟨op, 32, .shared 0, 70⟩
    (s.session? 1).any (fun x => x.ackOwed && x.held.isEmpty && (x.unacked.find? (·.p.seq == 4)) == some q) = true ∧ q.sacked = false
      ∧ ({ served with host := { served.host with waits := [w] } } : State).host.waits[0]? = some w ∧ served.answerComes 70 = false := by
  decide +kernel

theorem witness_NetworkTime :
    let s (lock good bad : Nat) : State := { (served.setRf Reg.TIME_CFG Reg.TIME_CFG.SRC 1).setRf Reg.TIME_STAT Reg.TIME_STAT.LOCK lock with
      time := { served.time with good := good, bad := bad } }
    (s 0 0 0).alive = true ∧ (s 0 0 0).rf Reg.TIME_CFG Reg.TIME_CFG.SRC = 1 ∧ (s 2 0 0).rf Reg.TIME_STAT Reg.TIME_STAT.LOCK = 2
      ∧ (s 1 15 0).rf Reg.TIME_STAT Reg.TIME_STAT.LOCK = 1 ∧ 15 ≤ (s 1 15 0).time.good ∧ (s 1 14 0).time.good < 15 ∧ 3 ≤ (s 2 0 3).time.bad
      ∧ (s 0 0 0).serving = true ∧ fld (0x3B9AC9FF#64) 31 0 < 1000000000
      ∧ ({ s 0 0 0 with time := { (s 0 0 0).time with now := 2 ^ 31 * 1000000000 * 2 ^ 32 } } : State).time.sec = 2 ^ 31 := by decide +kernel

theorem witness_NetworkTime_alarms :
    let s (act : Nat) : State := (served.setRf (Reg.TIME_ALA 63) Reg.TIME_ALA.EN 1).setRf (Reg.TIME_ALA 63) Reg.TIME_ALA.ACT act
    let x : Sched := { cmd := .queryInfo ⟨1, 9, some 0⟩, session := 1, opcode := 0x10, tag := 9, exec := 0 }
    let q : State := { served with host := { served.host with scheduled := [x] } }
    (s 0).alarmDue 63 = true ∧ (s 0).host.scheduled.filter (fun x => x.alarms.contains 63) = []
      ∧ ((s 0).setRf (Reg.TIME_ALA 63) Reg.TIME_ALA.EN 0).rbit (Reg.TIME_ALA 63) Reg.TIME_ALA.ACT = false
      ∧ ((s 1).setRf (Reg.TIME_ALA 63) Reg.TIME_ALA.EN 0).rbit (Reg.TIME_ALA 63) Reg.TIME_ALA.ACT = true
      ∧ ((s 1).setRf (Reg.TIME_ALA 63) Reg.TIME_ALA.EN 0).ctrAbsent 0 = false
      ∧ q.host.scheduled[0]? = some x ∧ (q.schedReady x).isSome = true ∧ q.schedBehind 0 x = false := by decide +kernel

theorem witness_WaypointsRecoveryAndHandOver :
    let s := served.setRf (Reg.TIME_WPA 0) Reg.TIME_WPA.EN 1
    s.part? 0 ≠ none ∧ (s.part? 0).any s.captureDue = true ∧ (s.part? 0).any (·.stop == .none) = true
      ∧ (s.part? 0).any (s.modPart 0 fun y => { y with nextDue := 1 }).defers = false
      ∧ (s.part? 0).any s.partAtRest = true
      ∧ (s.partClusters 0) ≠ [] ∧ s.coreLive 0 = true ∧ s.partOfCore 0 = 0 ∧ s.coreLive 40 = false ∧ s.cluRetired 0 = false
      ∧ s.extLive (.hbm 0) = true ∧ (s.part? 0).any (fun x => s.cleanCopy x 5) = false := by decide +kernel
theorem witness_WaypointsRecoveryAndHandOver_failures :
    let s : State := { served with parts := [] }
    let t := ((s.setRf (Reg.HBM_STAT 1) Reg.HBM_STAT.FAILED 1).setRf (Reg.HBM_STAT 1) Reg.HBM_STAT.LIVE 0).setRf Reg.ID_MEM_LIVE ⟨1, 1⟩ 0
    let r : State := { s.setClu 11 3 with sec := { s.sec with resets := [11] } }
    s.coreLive 0 = true ∧ s.part? (s.partOfCore 0) = none ∧ s.extLive (.hbm 1) = true ∧ s.parts = [] ∧ (t.recoverTags 1).parts = []
      ∧ r.cluField 11 % 8 = 3 ∧ r.sec.resets = [11] ∧ r.part? (r.partOf 11) = none ∧ (s.setClu 11 1).cluField 11 % 8 = 1
      ∧ s.host.pending = [] := by decide +kernel
theorem witness_WaypointsRecoveryAndHandOver_images :
    let x : Loaded := ⟨true, anImage⟩
    let s (h : HandOver) : State := { served with sec := { served.sec with hand := h, staged := some x, running := some x, spdm := [⟨7, false, none, true, false⟩] } }
    (s .asked).sec.hand = .asked ∧ (s .asked).sec.staged = some x ∧ (s .asked).sec.running = some x
      ∧ (s .asked).host.pending.any (·.what != .handOver) = false ∧ (s (.trial x)).sec.hand = .trial x ∧ (s .none).sec.hand = .none
      ∧ (s .none).sec.spdm.any (·.sid == 7) = true ∧ (s .none).host.sessions.filter (·.spdm == 7) = [] := by decide +kernel

theorem witness_ResetBootAndService :
    let p (f : PhysState → PhysState) : State := { State.reset with phys := f State.reset.phys }
    let stage (n : Nat) : State := served.setRf Reg.CHT_BOOT Reg.CHT_BOOT.STAGE n
    State.reset.phys.pwrGood = true ∧ (p fun x => { x with pwrGood := false }).phys.pwrGood = false
      ∧ (p fun x => { x with inReset := true }).phys.inReset = true ∧ State.reset.phys.resetN = true ∧ State.reset.phys.tripped = false
      ∧ (stage 2).stage = 2 ∧ (stage 3).stage = 3 ∧ (stage 4).stage = 4 ∧ hostUp.hostState = .on ∧ hostUp.hostLink = 2
      ∧ served.alive = true ∧ served.extLive (.hbm 23) = false ∧ served.rbit (Reg.HBM_STAT 23) Reg.HBM_STAT.FAILED = false
      ∧ (let s := (List.range 24).foldl (fun s n => s.setRf (Reg.HBM_STAT n) Reg.HBM_STAT.FAILED 1) (stage 4)
         (List.range 24).all (fun n => s.extLive (.hbm n) || s.rbit (Reg.HBM_STAT n) Reg.HBM_STAT.FAILED) = true) := by decide +kernel
/-- A boot in which neither image is there. -/
theorem witness_ResetBootAndService_images :
    let u := (({ State.reset with phys := { State.reset.phys with inReset := false } } : State).settleClocks.setRf Reg.CHT_BOOT Reg.CHT_BOOT.STAGE 2)
    u.verifies anImage = false ∧ (none : Option Image) = none := by decide +kernel

theorem witness_SensorsAndThrottling :
    State.reset.phys.pwrGood = true ∧ (hottest [114, 20]).1 < 115 ∧ 115 ≤ (hottest [20, 115]).1 ∧ State.reset.phys.tripped = false
      ∧ (104#8).toNat < 105 ∧ 105 ≤ (105#8).toNat ∧ State.reset.rf Reg.PWR_CAP Reg.PWR_CAP.WATTS = 2100 ∧ 2100 < 2101 ∧ 2100 * 95 ≤ 1995 * 100
      ∧ 1994 * 100 < 2100 * 95 ∧ State.reset.phys.below < 9 := by decide +kernel

theorem witness_ManagementPortsAndRegisters :
    let lc (p f : Bool) : State := { State.reset with sec := { State.reset.sec with fuseP := p, fuseF := f } }
    State.reset.phys.pwrGood = true ∧ (lc true false).sec.lifecycle = 1 ∧ (lc true true).sec.lifecycle = 2 ∧ State.reset.sec.lifecycle = 0
      ∧ blkOf 0x10F00000 = none ∧ blkOf 0x10900000 = some (.device 9, 0, 0) ∧ State.reset.mayStore (.strand 0) (.device 9) 0 = false
      ∧ served.mayStore (.strand 1) .core 0 = true ∧ isSteward 1 = false := by decide +kernel

theorem witness_ResetState : 3 < 4 ∧ 7 < 8 ∧ 11 < 12 ∧ 15 < 16 := by decide
theorem witness_EveryCommandKeepsTheCanonicalForm : State.reset.wf = true := by decide +kernel
theorem witness_OpInstructionsLeaveTheRest :
    Issues me (aluInfo ⟨1, 2, 3, true⟩) run ∧ run.wf = true ∧ (strandAt me run).delay = none ∧ isSteward me.core = false
      ∧ (strandAt boss runBoss).sxen = 0 := ⟨issues_of (by decide +kernel), by decide +kernel⟩

end Sys2Proof.Tests
end

section
/-! SUPPORT. How a vector instruction that issues ends, and the elements that it reads (R98, R143, R174). -/

namespace Sys2Proof.Machine

/-! ### What a body's answer makes of an instruction that issues -/

variable {w : Who} {info : Info} {s t : State} {body : Env → State → Res} {d : Nat} {vd : BitVec 5} {p : VPut} {fl : FpFlags}

/-- The body reads its strand as it stands in the slot. -/
@[simp] theorem strand_atIssue : (atIssue w s).strand (envOf w s).k (envOf w s).i = strandAt w s := rfl

theorem next_congr (h : s = t) : (Host.Outcome.next s : Out) = .next t := congrArg Host.Outcome.next h

theorem issue_done (h : Issues w info s) (hb : body (envOf w s) (atIssue w s) = .done t) :
    issue w info body s = passed w info.len s t := by rw [issue_eq h, hb]; rfl

theorem issue_vecDone (h : Issues w info s) (hl : info.len = 4)
    (hb : body (envOf w s) (atIssue w s) = .done ((atIssue w s).vresult (envOf w s) d vd p fl)) :
    issue w info body s = vecDone w s (atIssue w s) d vd p fl := by rw [issue_done h hb, hl]; rfl

theorem issue_vecFp (h : Issues w info s) (hl : info.len = 4)
    (hb : body (envOf w s) (atIssue w s) = vfp (strandAt w s) t (envOf w s) d vd p fl) :
    issue w info body s = vecFp w s t d vd p fl := by rw [issue_eq h, hb, hl]; rfl

theorem issue_illegal (h : Issues w info s) (hb : body (envOf w s) (atIssue w s) = illegal (envOf w s)) :
    issue w info body s = raises w s { code := 0x01, xtval := w.word.toNat } := by rw [issue_eq h, hb]; rfl

/-! ### The element type of an instruction -/

variable {o : OpV} {ty : Fmt} {f : FFmt} {sg : Bool} {n : Nat}

theorem vcount_ne_zero_of_float (hf : ty.float? = some f) : vcount ty ≠ 0 := by
  cases ty <;> simp_all [Fmt.float?, vcount]

theorem vany_of_code (ht : Fmt.ofCode o.t = some ty) (hc : vcount ty ≠ 0) : vany o = some ty := by simp [vany, ht, hc]

theorem vfloat_of_code (ht : Fmt.ofCode o.t = some ty) (hf : ty.float? = some f) : vfloat o = some (ty, f) := by
  simp [vfloat, ht, hf]

theorem float?_eq_none_of_int (hi : ty.int? = some (sg, n)) : ty.float? = none := by
  cases ty <;> simp_all [Fmt.float?, Fmt.int?]

theorem vfloat_eq_none_of_int (ht : Fmt.ofCode o.t = some ty) (hi : ty.int? = some (sg, n)) : vfloat o = none := by
  simp [vfloat, ht, float?_eq_none_of_int hi]

/-- The integer types of the vector unit are S32, S8 and U8 (Table 4-2). -/
theorem vint_of_code (ht : Fmt.ofCode o.t = some ty) (hi : ty.int? = some (sg, n)) (hc : vcount ty ≠ 0) :
    vint o = some (ty, sg, n) := by
  cases ty <;> simp_all [vint, Fmt.int?, vcount]

theorem width_of_int (hi : ty.int? = some (sg, n)) : ty.width = n := by
  cases ty <;> simp_all [Fmt.int?, Fmt.width]

/-- Integer elements are never of the type that has a half (R98). -/
theorem vfirst_of_int (hi : ty.int? = some (sg, n)) (h : Bool) : vfirst ty h = 0 := by
  cases ty <;> simp_all [Fmt.int?, vfirst]

theorem vnarrow_of_code {c : BitVec 4} (ht : Fmt.ofCode c = some ty) (hf : ty.float? = some f) (h64 : ty ≠ .fp64) :
    vnarrow c = some (ty, f) := by
  cases ty <;> simp_all [vnarrow, Fmt.float?]

/-! ### Elements by lane -/

theorem vlanes_eq (ty : Fmt) (h : Bool) (v : VReg) : vlanes ty h v = (List.range (vcount ty)).map (laneOf ty h v) := rfl

theorem vzip_eq (ty : Fmt) (h : Bool) (a b : VReg) (g : Nat → Nat → Nat × FpFlags) :
    vzip ty h a b g = (List.range (vcount ty)).map fun i => g (laneOf ty h a i) (laneOf ty h b i) := by
  simp [vzip, vlanes_eq, List.zipWith_map, List.zipWith_self]

/-- Elements that raise nothing raise nothing together. -/
theorem orFlags_map_zero {α : Type} (l : List α) (g : α → Nat) : orFlags (l.map fun i => (g i, 0#6)) = 0#6 := by
  simp [orFlags, List.foldl_map]

end Sys2Proof.Machine
end

section
/-! PROOF. VCMP, VSEL and the integer, logic and shift instructions by element (R102, R489, Table 4-2). -/

namespace Sys2Proof.Machine

variable {w : Who} {s : State} {o : OpV} {ty : Fmt} {f : FFmt} {sg : Bool} {n : Nat}

/-- A VCMP element: all ones when the relation holds and all zeros otherwise (R102). -/
def cmpMask (ty : Fmt) (c : Bool) : Nat := if c then 2 ^ ty.width - 1 else 0

/-- The number that an integer element stands for (R39). -/
def intOf (sg : Bool) (n a : Nat) : Int := if sg then signed n a else a

theorem cmpElt_float (hf : ty.float? = some f) (r : Rel) (conf : Bool) (a b : Nat) :
    cmpElt r ty conf a b = (cmpMask ty (r.float (f.read conf a).1 (f.read conf b).1),
      (f.read conf a).2 ||| (f.read conf b).2 ||| sigFlag [(f.read conf a).1, (f.read conf b).1]) := by
  simp [cmpElt, hf, cmpMask]

/-- Equal values are told first: the order puts -0 below +0, and a comparison holds them equal (R102). -/
theorem Rel.float_le (a b : Val) : Rel.float .le a b = (a.eqv b || (!a.eqv b && a.lt b)) := by
  simp only [Rel.float]; cases a.eqv b <;> rfl

/-- Of the integer types that the unit holds, U8 alone is unsigned. -/
theorem cmpElt_int (hi : ty.int? = some (sg, n)) (hc : vcount ty ≠ 0) (r : Rel) (conf : Bool) (a b : Nat) :
    cmpElt r ty conf a b = (cmpMask ty (r.int (intOf sg n a) (intOf sg n b)), 0#6) := by
  cases ty <;> simp_all [Fmt.int?, vcount, cmpElt, Fmt.float?, cmpMask, intOf, Fmt.width]

/-- A comparison, whatever its type, completes by element. -/
theorem issue_vcmp (h : Issues w (vTyped3 o) s) (ht : Fmt.ofCode o.t = some ty) (hc : vcount ty ≠ 0) (r : Rel) :
    let x := strandAt w s
    let l := (List.range (vcount ty)).map fun i => cmpElt r ty x.conf (laneOf ty o.h (x.rv o.va) i) (laneOf ty o.h (x.rv o.vb) i)
    issue w (vTyped3 o) (vcmpBody r o) s
      = vecDone w s (atIssue w s) 1 o.vd (vput ty.width (vfirst ty o.h) (l.map (·.1))) (orFlags l) := by
  refine issue_vecDone h rfl ?_
  simp only [vcmpBody, vany_of_code ht hc, vzip_eq, strand_atIssue]

theorem issue_vcmp_float (h : Issues w (vTyped3 o) s) (ht : Fmt.ofCode o.t = some ty) (hf : ty.float? = some f) (r : Rel) :
    let x := strandAt w s
    let a (i : Nat) : Val × FpFlags := f.read x.conf (laneOf ty o.h (x.rv o.va) i)
    let b (i : Nat) : Val × FpFlags := f.read x.conf (laneOf ty o.h (x.rv o.vb) i)
    let l := (List.range (vcount ty)).map fun i =>
      (cmpMask ty (r.float (a i).1 (b i).1), (a i).2 ||| (b i).2 ||| sigFlag [(a i).1, (b i).1])
    issue w (vTyped3 o) (vcmpBody r o) s
      = vecDone w s (atIssue w s) 1 o.vd (vput ty.width (vfirst ty o.h) (l.map (·.1))) (orFlags l) := by
  simpa only [cmpElt_float hf] using issue_vcmp h ht (vcount_ne_zero_of_float hf) r

/-- An integer or logic instruction's result: an element of va and vb for each lane, no flag. -/
def intResult (w : Who) (s : State) (o : OpV) (ty : Fmt) (g : Nat → Nat → Nat) : State :=
  let x := strandAt w s
  vecDone w s (atIssue w s) 1 o.vd
    (vput ty.width 0 ((List.range (vcount ty)).map fun i => g (laneOf ty o.h (x.rv o.va) i) (laneOf ty o.h (x.rv o.vb) i))) 0#6

theorem issue_vcmp_int (h : Issues w (vTyped3 o) s) (ht : Fmt.ofCode o.t = some ty) (hi : ty.int? = some (sg, n))
    (hc : vcount ty ≠ 0) (r : Rel) :
    issue w (vTyped3 o) (vcmpBody r o) s = intResult w s o ty fun a b => cmpMask ty (r.int (intOf sg n a) (intOf sg n b)) := by
  rw [issue_vcmp h ht hc r]
  simp only [cmpElt_int hi hc, orFlags_map_zero, List.map_map, vfirst_of_int hi]
  rfl

theorem issue_vint (h : Issues w (vTyped3 o) s) (ht : Fmt.ofCode o.t = some ty) (hi : ty.int? = some (sg, n))
    (hc : vcount ty ≠ 0) (op : IOp) :
    issue w (vTyped3 o) (vintBody op o) s = intResult w s o ty (op.elt sg n) := by
  refine issue_vecDone h rfl ?_
  simp only [vintBody, vint_of_code ht hi hc, vzip_eq, strand_atIssue, List.map_map, width_of_int hi]
  rfl

/-- A shift takes its amount modulo the width (R489). -/
theorem IOp.elt_shl (sg : Bool) (n : Nat) : IOp.elt .shl sg n = fun a b => a * 2 ^ (b % n) % 2 ^ n := by
  funext a b; simp only [IOp.elt, Nat.shiftLeft_eq]
theorem IOp.elt_shrl (sg : Bool) (n : Nat) : IOp.elt .shrl sg n = fun a b => a / 2 ^ (b % n) := by
  funext a b; simp only [IOp.elt, Nat.shiftRight_eq_div_pow]

theorem issue_vsel (h : Issues w (vBare3 o) s) :
    let x := strandAt w s
    issue w (vBare3 o) (vselBody o) s = vecDone w s (atIssue w s) 1 o.vd
      (vwhole ((x.rv o.vd &&& x.rv o.va) ||| (~~~ x.rv o.vd &&& x.rv o.vb))) 0#6 := issue_vecDone h rfl rfl

/-- Settles O22: each instruction is its body's element function over the lanes of va and vb. -/
theorem vectorComparesAndIntegers : Obligations.VectorComparesAndIntegers := by
  unfold Obligations.VectorComparesAndIntegers
  refine ⟨fun w o s ty h ht => ⟨fun f hf => ?_, fun sg n hi hc => ?_⟩, fun w o s h => next_congr (issue_vsel h)⟩
  · have cmp (r : Rel) := next_congr (issue_vcmp_float h ht hf r)
    have le := cmp .le
    simp only [Rel.float_le] at le
    exact ⟨cmp .eq, cmp .ne, cmp .lt, le, cmp .un⟩
  · have cmp (r : Rel) := next_congr (issue_vcmp_int h ht hi hc r)
    have elems (op : IOp) := next_congr (issue_vint h ht hi hc op)
    have shl := elems .shl
    have shrl := elems .shrl
    simp only [IOp.elt_shl, IOp.elt_shrl] at shl shrl
    exact ⟨cmp .eq, cmp .ne, cmp .lt, cmp .le, cmp .un, elems .add, elems .sub, elems .adds, elems .subs, elems .mul, elems .min, elems .max,
      elems .and, elems .or, elems .xor, shl, shrl, elems .shra⟩

end Sys2Proof.Machine
end

section
/-! PROOF. Vector movement; an element, byte or distance beyond the register is an illegal instruction (R490, Table 4-2). -/

namespace Sys2Proof.Machine

variable {w : Who} {s : State} {o : OpV} {ty : Fmt}

theorem issue_vmov (h : Issues w (vBare2 o) s) :
    issue w (vBare2 o) (vmovBody o) s = vecDone w s (atIssue w s) 1 o.vd (vwhole ((strandAt w s).rv o.va)) 0#6 :=
  issue_vecDone h rfl rfl

theorem issue_vbcast (h : Issues w (vTyped2 o) s) (ht : Fmt.ofCode o.t = some ty) (hc : vcount ty ≠ 0) :
    issue w (vTyped2 o) (vbcastBody o) s = vecDone w s (atIssue w s) 1 o.vd
      (vput ty.width (vfirst ty o.h) (List.replicate (vcount ty) ((strandAt w s).rg o.va).toNat)) 0#6 := by
  refine issue_vecDone h rfl ?_
  simp only [vbcastBody, vany_of_code ht hc, strand_atIssue]

/-- An instruction that is illegal past a limit of its operand, and otherwise completes. -/
theorem issue_guarded {info : Info} {body : Env → State → Res} {c : Prop} [Decidable c] {t : State} (h : Issues w info s)
    (hl : info.len = 4) (hb : body (envOf w s) (atIssue w s) = if c then illegal (envOf w s) else .done t) :
    issue w info body s = if c then raises w s { code := 0x01, xtval := w.word.toNat } else passed w 4 s t := by
  by_cases hc : c
  · rw [if_pos hc] at hb ⊢; exact issue_illegal h hb
  · rw [if_neg hc] at hb ⊢; rw [issue_done h hb, hl]

/-- What the two sides of a limit give, as a statement says it. -/
theorem next_limit {n b : Nat} {r bad t : State} (e : r = if n ≤ b then bad else t) :
    (b < n → (.next r : Out) = .next t) ∧ (n ≤ b → (.next r : Out) = .next bad) :=
  ⟨fun hb => next_congr (e.trans (if_neg (Nat.not_le.2 hb))), fun hb => next_congr (e.trans (if_pos hb))⟩

theorem issue_vdup (h : Issues w (vTyped3 o) s) (ht : Fmt.ofCode o.t = some ty) (hc : vcount ty ≠ 0) :
    let x := strandAt w s
    let b := (x.rg o.vb).toNat
    issue w (vTyped3 o) (vdupBody o) s =
      if vcount ty ≤ b then raises w s { code := 0x01, xtval := w.word.toNat }
      else vecDone w s (atIssue w s) 1 o.vd
        (vput ty.width (vfirst ty o.h) (List.replicate (vcount ty) (laneOf ty o.h (x.rv o.va) b))) 0#6 := by
  refine issue_guarded h rfl ?_
  simp only [vdupBody, vany_of_code ht hc, strand_atIssue]
  rfl

theorem issue_vmovg (h : Issues w (vMovG o) s) (ht : Fmt.ofCode o.t = some ty) (hc : vcount ty ≠ 0) :
    let x := strandAt w s
    let b := (x.rg o.vb).toNat
    issue w (vMovG o) (vmovgBody o) s =
      if vcount ty ≤ b then raises w s { code := 0x01, xtval := w.word.toNat }
      else passed w 4 s (((atIssue w s).vecInsn w.core).modStrand w.core w.strand fun y =>
        y.later (slotOf w s + 7) (.g o.vd (movgValue ty (laneOf ty o.h (x.rv o.va) b)))) := by
  refine issue_guarded h rfl ?_
  simp only [vmovgBody, vany_of_code ht hc, strand_atIssue]
  rfl

theorem issue_vslide (h : Issues w (vBare3 o) s) :
    let x := strandAt w s
    let b := (x.rg o.vb).toNat
    issue w (vBare3 o) (vslideBody o) s =
      if 128 ≤ b then raises w s { code := 0x01, xtval := w.word.toNat }
      else vecDone w s (atIssue w s) 1 o.vd (vwhole (x.rv o.va >>> (8 * b))) 0#6 := issue_guarded h rfl rfl

/-- The bytes of va that VPERM's indices in vb name. -/
def permIndices (v : VReg) : List Nat := (List.range 128).map (elt 8 v.toNat)

theorem permIndices_beyond (v : VReg) : (permIndices v).any (128 ≤ ·) = true ↔ ∃ i, i < 128 ∧ 128 ≤ elt 8 v.toNat i := by
  simp [permIndices]

theorem issue_vperm (h : Issues w (vBare3 o) s) :
    let x := strandAt w s
    issue w (vBare3 o) (vpermBody o) s =
      if (permIndices (x.rv o.vb)).any (128 ≤ ·) then raises w s { code := 0x01, xtval := w.word.toNat }
      else vecDone w s (atIssue w s) 1 o.vd (vput 8 0 ((permIndices (x.rv o.vb)).map (elt 8 (x.rv o.va).toNat))) 0#6 :=
  issue_guarded h rfl rfl

/-- Settles O23: each instruction answers with its result, or as an illegal instruction past the limit that its operand meets. -/
theorem vectorMovement : Obligations.VectorMovement := by
  unfold Obligations.VectorMovement
  refine fun w o s => ⟨fun h => next_congr (issue_vmov h), fun ty ht hc => ⟨fun h => next_congr (issue_vbcast h ht hc),
    fun h => next_limit (issue_vdup h ht hc), fun h => next_limit (issue_vmovg h ht hc)⟩,
    fun h => ⟨fun hb => ?_, fun hb => next_congr ((issue_vperm h).trans (if_pos ((permIndices_beyond _).2 hb))), next_limit (issue_vslide h)⟩⟩
  have within : ¬ (permIndices ((strandAt w s).rv o.vb)).any (128 ≤ ·) = true := fun beyond => by
    obtain ⟨i, hi, hge⟩ := (permIndices_beyond _).1 beyond
    exact Nat.not_lt.2 hge (hb i hi)
  have e := (issue_vperm h).trans (if_neg within)
  rw [permIndices, List.map_map] at e
  exact next_congr e

end Sys2Proof.Machine
end

section
/-! PROOF. Reductions by a pairwise tree (R104, R105). -/

namespace Sys2Proof.Machine

/-! ### The pairwise tree picks an extreme element -/

section Tree
variable {α β : Type} [Preorder β] {f : α → α → α} {key : α → β} {ok : α → Prop}

theorem treeStage_short {l : List α} (h : ∀ a b l', l = a :: b :: l' → False) : treeStage f l = l := by
  simp only [treeStage]

theorem treeStage_length (l : List α) : (treeStage f l).length = (l.length + 1) / 2 := by
  induction l using treeStage.induct with
  | case1 a b l ih => simp only [treeStage, List.length_cons, ih]; omega
  | case2 l short =>
    rw [treeStage_short short]
    rcases l with _ | ⟨a, _ | ⟨b, l⟩⟩
    · simp
    · simp
    · exact (short a b l rfl).elim

/-- An operation that answers one of its arguments, with a key not below either of theirs, where both are `ok`. -/
def Picks (f : α → α → α) (key : α → β) (ok : α → Prop) : Prop :=
  ∀ a b, ok a → ok b → (f a b = a ∨ f a b = b) ∧ key a ≤ key (f a b) ∧ key b ≤ key (f a b)

theorem treeStage_of_picks (h : Picks f key ok) {l : List α} (hl : ∀ m ∈ l, ok m) :
    (∀ m ∈ treeStage f l, m ∈ l) ∧ ∀ m ∈ l, ∃ q ∈ treeStage f l, key m ≤ key q := by
  induction l using treeStage.induct with
  | case1 a b l ih =>
    obtain ⟨one, above⟩ := h a b (hl a (by simp)) (hl b (by simp))
    obtain ⟨sub, dom⟩ := ih fun m hm => hl m (by simp [hm])
    refine ⟨fun m hm => ?_, fun m hm => ?_⟩
    · rcases List.mem_cons.1 hm with rfl | hm
      · rcases one with e | e <;> simp [e]
      · simp [sub m hm]
    · simp only [treeStage, List.exists_mem_cons_iff]
      rcases List.mem_cons.1 hm with rfl | hm
      · exact .inl above.1
      rcases List.mem_cons.1 hm with rfl | hm
      · exact .inl above.2
      · exact .inr (dom m hm)
  | case2 l short =>
    rw [treeStage_short short]
    exact ⟨fun _ hm => hm, fun m hm => ⟨m, hm, le_refl _⟩⟩

/-- With stages enough for its length, the tree answers an element of the list whose key no other exceeds. -/
theorem tree_of_picks (h : Picks f key ok) (d : α) (n : Nat) {l : List α} (hne : l ≠ []) (hlen : l.length ≤ 2 ^ n) (hl : ∀ m ∈ l, ok m) :
    tree f d n l ∈ l ∧ ∀ m ∈ l, key m ≤ key (tree f d n l) := by
  induction n generalizing l with
  | zero =>
    match l, hne, hlen with
    | [a], _, _ => simp [tree]
  | succ n ih =>
    match l, hne, hlen, hl with
    | [a], _, _, _ => simp [tree]
    | a :: b :: l, _, hlen, hl =>
      obtain ⟨sub, dom⟩ := treeStage_of_picks h hl
      have len := treeStage_length (f := f) (a :: b :: l)
      obtain ⟨mem, top⟩ := ih (l := treeStage f (a :: b :: l)) (by simp [treeStage])
        (by rw [len, Nat.pow_succ] at *; omega) fun m hm => hl m (sub m hm)
      refine ⟨sub _ mem, fun m hm => ?_⟩
      obtain ⟨q, hq, le⟩ := dom m hm
      exact le.trans (top q hq)

end Tree

/-! ### The integer picks -/

theorem elt_lt_two_pow (w x i : Nat) : elt w x i < 2 ^ w := Nat.mod_lt _ (Nat.two_pow_pos w)

/-- An element is the encoding of the number that it stands for. -/
theorem wrap_intOf (sg : Bool) {n a : Nat} (h : a < 2 ^ n) : wrap n (intOf sg n a) = a := by
  have self : ((a : Int) % ((2 ^ n : Nat) : Int)).toNat = a := by rw [← Int.natCast_mod, Int.toNat_natCast, Nat.mod_eq_of_lt h]
  cases sg with
  | false => exact self
  | true =>
    simp only [intOf, wrap, signed, if_true, Nat.mod_eq_of_lt h]
    split
    · exact self
    · rw [Int.sub_emod_right, self]

theorem IOp.elt_max (sg : Bool) (n a b : Nat) : IOp.elt .max sg n a b = wrap n (Max.max (intOf sg n a) (intOf sg n b)) := rfl
theorem IOp.elt_min (sg : Bool) (n a b : Nat) : IOp.elt .min sg n a b = wrap n (Min.min (intOf sg n a) (intOf sg n b)) := rfl

theorem picks_max (sg : Bool) (n : Nat) : Picks (IOp.elt .max sg n) (intOf sg n) (· < 2 ^ n) := fun a b ha hb => by
  rw [IOp.elt_max]
  rcases le_total (intOf sg n a) (intOf sg n b) with le | le
  · rw [max_eq_right le, wrap_intOf sg hb]; exact ⟨.inr rfl, le, le_refl _⟩
  · rw [max_eq_left le, wrap_intOf sg ha]; exact ⟨.inl rfl, le_refl _, le⟩

theorem picks_min (sg : Bool) (n : Nat) : Picks (IOp.elt .min sg n) (fun a => OrderDual.toDual (intOf sg n a)) (· < 2 ^ n) :=
  fun a b ha hb => by
    rw [IOp.elt_min]
    rcases le_total (intOf sg n a) (intOf sg n b) with le | le
    · rw [min_eq_left le, wrap_intOf sg ha]; exact ⟨.inl rfl, le_refl _, le⟩
    · rw [min_eq_right le, wrap_intOf sg hb]; exact ⟨.inr rfl, le, le_refl _⟩

theorem vcount_le (ty : Fmt) : vcount ty ≤ 2 ^ 7 := by cases ty <;> decide

/-! ### The reductions -/

variable {w : Who} {s : State} {o : OpV} {ty : Fmt} {f : FFmt} {sg : Bool} {n : Nat}

/-- A reduction has completed: element 0, every other bit zero (R104). -/
def reduced (w : Who) (s : State) (o : OpV) (q : Nat) (fl : FpFlags) : State :=
  vecFp w s (atIssue w s) 3 o.vd (vwhole (BitVec.ofNat 1024 q)) fl

/-- The elements that a reduction reads. -/
def lanesOf (w : Who) (s : State) (o : OpV) (ty : Fmt) : List Nat := vlanes ty o.h ((strandAt w s).rv o.va)

theorem issue_vrsum_float (h : Issues w (vTyped2 o) s) (ht : Fmt.ofCode o.t = some ty) (hf : ty.float? = some f) :
    let x := strandAt w s
    let g : FFmt := if ty = .fp64 then .fp64 else .fp32
    let sum := tree (sumStep g x.conf) (.fin false 0 0, 0#6) 7 ((lanesOf w s o ty).map (f.read x.conf))
    issue w (vTyped2 o) (vrsumBody o) s = reduced w s o (g.round (g.keep x.conf) .rne false 0 sum.1).1 sum.2 := by
  refine issue_vecFp h rfl ?_
  simp only [vrsumBody, vfloat_of_code ht hf, strand_atIssue]
  rfl

theorem issue_vrpick_float (h : Issues w (vTyped2 o) s) (ht : Fmt.ofCode o.t = some ty) (hf : ty.float? = some f) (big : Bool) :
    let x := strandAt w s
    let step (p q : Nat × FpFlags) : Nat × FpFlags :=
      ((pickElt big f x.conf p.1 q.1).1, (pickElt big f x.conf p.1 q.1).2 ||| p.2 ||| q.2)
    let top := tree step (0, 0#6) 7 ((lanesOf w s o ty).map (·, 0#6))
    issue w (vTyped2 o) (vrpickBody big o) s = reduced w s o top.1 top.2 := by
  refine issue_vecFp h rfl ?_
  simp only [vrpickBody, vfloat_of_code ht hf, strand_atIssue]
  rfl

theorem issue_vrsum_int (h : Issues w (vTyped2 o) s) (ht : Fmt.ofCode o.t = some ty) (hi : ty.int? = some (sg, n))
    (hc : vcount ty ≠ 0) :
    issue w (vTyped2 o) (vrsumBody o) s = reduced w s o (wrap 32 ((lanesOf w s o ty).map (intOf sg n)).sum) 0#6 := by
  refine issue_vecFp h rfl ?_
  simp only [vrsumBody, vfloat_eq_none_of_int ht hi, vint_of_code ht hi hc, strand_atIssue, List.sum_eq_foldl, List.foldl_map]
  rfl

theorem issue_vrpick_int (h : Issues w (vTyped2 o) s) (ht : Fmt.ofCode o.t = some ty) (hi : ty.int? = some (sg, n))
    (hc : vcount ty ≠ 0) (big : Bool) :
    issue w (vTyped2 o) (vrpickBody big o) s
      = reduced w s o (tree (IOp.elt (if big then .max else .min) sg n) 0 7 (lanesOf w s o ty)) 0#6 := by
  refine issue_vecFp h rfl ?_
  simp only [vrpickBody, vfloat_eq_none_of_int ht hi, vint_of_code ht hi hc, strand_atIssue]
  rfl

/-- What the tree needs of the elements of a reduction. -/
theorem lanesOf_fit (w : Who) (s : State) (o : OpV) (hc : vcount ty ≠ 0) :
    lanesOf w s o ty ≠ [] ∧ (lanesOf w s o ty).length ≤ 2 ^ 7 ∧ ∀ m ∈ lanesOf w s o ty, m < 2 ^ ty.width := by
  refine ⟨by simpa [lanesOf, vlanes] using hc, by simpa [lanesOf, vlanes] using vcount_le ty, fun m hm => ?_⟩
  obtain ⟨i, -, rfl⟩ := List.mem_map.1 hm
  exact elt_lt_two_pow _ _ _

theorem issue_vrmax_int (h : Issues w (vTyped2 o) s) (ht : Fmt.ofCode o.t = some ty) (hi : ty.int? = some (sg, n))
    (hc : vcount ty ≠ 0) :
    ∃ q ∈ lanesOf w s o ty, (∀ m ∈ lanesOf w s o ty, intOf sg n m ≤ intOf sg n q)
      ∧ issue w (vTyped2 o) (vrpickBody true o) s = reduced w s o q 0#6 := by
  obtain ⟨hne, hlen, hlt⟩ := lanesOf_fit w s o hc
  rw [width_of_int hi] at hlt
  obtain ⟨mem, top⟩ := tree_of_picks (picks_max sg n) 0 7 hne hlen hlt
  exact ⟨_, mem, top, issue_vrpick_int h ht hi hc true⟩

theorem issue_vrmin_int (h : Issues w (vTyped2 o) s) (ht : Fmt.ofCode o.t = some ty) (hi : ty.int? = some (sg, n))
    (hc : vcount ty ≠ 0) :
    ∃ q ∈ lanesOf w s o ty, (∀ m ∈ lanesOf w s o ty, intOf sg n q ≤ intOf sg n m)
      ∧ issue w (vTyped2 o) (vrpickBody false o) s = reduced w s o q 0#6 := by
  obtain ⟨hne, hlen, hlt⟩ := lanesOf_fit w s o hc
  rw [width_of_int hi] at hlt
  obtain ⟨mem, low⟩ := tree_of_picks (picks_min sg n) 0 7 hne hlen hlt
  exact ⟨_, mem, low, issue_vrpick_int h ht hi hc false⟩

theorem issue_vrssq (h : Issues w (vTyped2 o) s) (ht : Fmt.ofCode o.t = some ty) (hf : ty.float? = some f) (h64 : ty ≠ .fp64) :
    let sq := sumSquares f (strandAt w s).conf (lanesOf w s o ty)
    issue w (vTyped2 o) (vrssqBody false o) s = reduced w s o sq.1 sq.2 := by
  refine issue_vecFp h rfl ?_
  simp only [vrssqBody, vnarrow_of_code ht hf h64, strand_atIssue]
  rfl

theorem issue_vrssqA (h : Issues w (vTyped2 o) s) (ht : Fmt.ofCode o.t = some ty) (hf : ty.float? = some f) (h64 : ty ≠ .fp64) :
    let x := strandAt w s
    let acc := add64 (elt 64 (x.rv o.vd).toNat 0, 0#6) (sumSquares f x.conf (lanesOf w s o ty))
    issue w (vTyped2 o) (vrssqBody true o) s = vecFp w s (atIssue w s) 3 o.vd (vput 64 0 [acc.1]) acc.2 := by
  refine issue_vecFp h rfl ?_
  simp only [vrssqBody, vnarrow_of_code ht hf h64, strand_atIssue]
  rfl

end Sys2Proof.Machine
end

section
/-! PROOF. Moment records (R106 to R110). -/

namespace Sys2Proof.Machine

variable {w : Who} {s : State} {ty : Fmt} {f : FFmt}

/-- The record that VMOM makes of the first elements of va, as many as g(gn) says (R107). -/
def momentOf (w : Who) (s : State) (o : OpVM) (ty : Fmt) (f : FFmt) : RecF :=
  let x := strandAt w s
  recordOf f x.conf ((List.range (x.rg o.gn).toNat).map (laneOf ty false (x.rv o.va)))

/-- The first n lanes. -/
theorem take_vlanes {n : Nat} (hn : n ≤ vcount ty) (v : VReg) :
    (vlanes ty false v).take n = (List.range n).map (laneOf ty false v) := by
  rw [vlanes_eq, ← List.map_take, List.take_range, Nat.min_eq_left hn]

theorem issue_vmom {o : OpVM} (h : Issues w {} s) (ht : Fmt.ofCode o.t = some ty) (hf : ty.float? = some f) (h64 : ty ≠ .fp64)
    (hn : ((strandAt w s).rg o.gn).toNat ≤ vcount ty) :
    let r := momentOf w s o ty f
    issue w {} (vmomBody false o) s = vecFp w s (atIssue w s) 5 o.vd (recPut o.q.toNat r.1) r.2 := by
  refine issue_vecFp h rfl ?_
  simp only [vmomBody, vnarrow_of_code ht hf h64, strand_atIssue, if_neg (Nat.not_lt.2 hn), take_vlanes hn, Bool.false_eq_true, if_false,
    BitVec.or_zero]
  rfl

theorem issue_vmomA {o : OpVM} (h : Issues w {} s) (ht : Fmt.ofCode o.t = some ty) (hf : ty.float? = some f) (h64 : ty ≠ .fp64)
    (hn : ((strandAt w s).rg o.gn).toNat ≤ vcount ty) :
    let x := strandAt w s
    let r := momentOf w s o ty f
    let m := Rec.merge ⟨x.conf, false⟩ (Rec.get (x.rv o.vd) o.q.toNat) r.1
    issue w {} (vmomBody true o) s = vecFp w s (atIssue w s) 5 o.vd (recPut o.q.toNat m.1) (r.2 ||| m.2) := by
  refine issue_vecFp h rfl ?_
  simp only [vmomBody, vnarrow_of_code ht hf h64, strand_atIssue, if_neg (Nat.not_lt.2 hn), take_vlanes hn, if_true]
  rfl

theorem issue_vmom_beyond {o : OpVM} (h : Issues w {} s) (ht : Fmt.ofCode o.t = some ty) (hf : ty.float? = some f) (h64 : ty ≠ .fp64)
    (hn : vcount ty < ((strandAt w s).rg o.gn).toNat) (acc : Bool) :
    issue w {} (vmomBody acc o) s = raises w s { code := 0x01, xtval := w.word.toNat } :=
  issue_illegal h (by simp only [vmomBody, vnarrow_of_code ht hf h64]; exact if_pos hn)

variable {o : OpV}

theorem issue_vmmrg (h : Issues w (vBare3 o) s) :
    let x := strandAt w s
    let merged := (List.range 8).map fun q => Rec.merge ⟨x.conf, false⟩ (Rec.get (x.rv o.va) q) (Rec.get (x.rv o.vb) q)
    issue w (vBare3 o) (vmmrgBody o) s = vecFp w s (atIssue w s) 4 o.vd (vwhole (recPack merged)) (recFlags merged) :=
  issue_vecFp h rfl rfl

/-- Two records merged, with the flags so far (R109). -/
def joinRec (conf : Bool) (p q : RecF) : RecF :=
  ((Rec.merge ⟨conf, false⟩ p.1 q.1).1, (Rec.merge ⟨conf, false⟩ p.1 q.1).2 ||| p.2 ||| q.2)

/-- The tree over eight, written out. -/
theorem tree_eight {α : Type} (f : α → α → α) (d : α) (g : Nat → α) :
    tree f d 3 ((List.range 8).map g)
      = f (f (f (g 0) (g 1)) (f (g 2) (g 3))) (f (f (g 4) (g 5)) (f (g 6) (g 7))) := rfl

theorem issue_vmred (h : Issues w (vBare2 o) s) :
    let x := strandAt w s
    let j := joinRec x.conf
    let one (q : Nat) : RecF := (Rec.get (x.rv o.va) q, 0#6)
    let all := j (j (j (one 0) (one 1)) (j (one 2) (one 3))) (j (j (one 4) (one 5)) (j (one 6) (one 7)))
    issue w (vBare2 o) (vmredBody o) s = vecFp w s (atIssue w s) 4 o.vd (vwhole (recPack [(all.1, 0#6)])) all.2 := by
  refine issue_vecFp h rfl ?_
  simp only [vmredBody, strand_atIssue, tree_eight, joinRec]

/-! ### Word 3 of every slot -/

theorem setElt_eq (w x i v : Nat) :
    setElt w x i v = 2 ^ (w * i) * (2 ^ w * (x / 2 ^ (w * i) / 2 ^ w) + v % 2 ^ w) + x % 2 ^ (w * i) := by
  have high : 2 ^ w * (x / 2 ^ (w * i) / 2 ^ w) + elt w x i = x / 2 ^ (w * i) := by
    rw [elt, Nat.shiftRight_eq_div_pow, Nat.div_add_mod]
  have split : x = elt w x i * 2 ^ (w * i) + (2 ^ (w * i) * (2 ^ w * (x / 2 ^ (w * i) / 2 ^ w)) + x % 2 ^ (w * i)) := by
    calc x = 2 ^ (w * i) * (2 ^ w * (x / 2 ^ (w * i) / 2 ^ w) + elt w x i) + x % 2 ^ (w * i) := by rw [high, Nat.div_add_mod]
      _ = _ := by ring
  have rest : x - elt w x i * 2 ^ (w * i) = 2 ^ (w * i) * (2 ^ w * (x / 2 ^ (w * i) / 2 ^ w)) + x % 2 ^ (w * i) := by omega
  rw [setElt, rest]
  ring

theorem testBit_elt (w x i k : Nat) : (elt w x i).testBit k = (decide (k < w) && x.testBit (w * i + k)) := by
  rw [elt, Nat.testBit_mod_two_pow, Nat.testBit_shiftRight]

theorem testBit_setElt (w x i v k : Nat) : (setElt w x i v).testBit k =
    if k < w * i then x.testBit k else if k - w * i < w then v.testBit (k - w * i) else x.testBit k := by
  rw [setElt_eq, Nat.testBit_two_pow_mul_add _ (Nat.mod_lt _ (Nat.two_pow_pos _)),
    Nat.testBit_two_pow_mul_add _ (Nat.mod_lt _ (Nat.two_pow_pos _))]
  refine if_ctx_congr Iff.rfl (fun low => by simp [low]) fun high => if_ctx_congr Iff.rfl (fun mid => by simp [mid]) fun top => ?_
  rw [Nat.testBit_div_two_pow, Nat.testBit_div_two_pow]
  congr 1
  omega

/-- Reading a packed number after element i was replaced. -/
theorem elt_setElt (w x i j v : Nat) : elt w (setElt w x i v) j = if j = i then v % 2 ^ w else elt w x j := by
  refine Nat.eq_of_testBit_eq fun k => ?_
  by_cases hk : k < w
  · rw [testBit_elt, testBit_setElt]
    rcases Nat.lt_trichotomy j i with lt | rfl | gt
    · have apart : w * j + w ≤ w * i := Nat.mul_succ w j ▸ Nat.mul_le_mul_left w lt
      rw [if_pos (by omega), if_neg (by omega), testBit_elt]
    · rw [if_neg (by omega), Nat.add_sub_cancel_left, if_pos hk, if_pos rfl, Nat.testBit_mod_two_pow]
    · have apart : w * i + w ≤ w * j := Nat.mul_succ w i ▸ Nat.mul_le_mul_left w gt
      rw [if_neg (by omega), if_neg (by omega), if_neg (by omega), testBit_elt]
  · split <;> simp [testBit_elt, Nat.testBit_mod_two_pow, hk]

/-- A word of n bits keeps the elements of a packed number that fit it. -/
theorem elt_ofNat {w n i : Nat} (h : w * (i + 1) ≤ n) (x : Nat) : elt w (BitVec.ofNat n x).toNat i = elt w x i := by
  refine Nat.eq_of_testBit_eq fun k => ?_
  rw [BitVec.toNat_ofNat, testBit_elt, testBit_elt, Nat.testBit_mod_two_pow]
  by_cases hk : k < w
  · have fits : w * i + k < n := by rw [Nat.mul_succ] at h; omega
    simp [fits]
  · simp [hk]

/-- Words 3, 7, ... of a packed number replaced: the words that VMVAR writes. -/
def setWord3 (g : Nat → Nat) (n x : Nat) : Nat := (List.range n).foldl (fun v q => setElt 32 v (4 * q + 3) (g q)) x

theorem elt_setWord3 (g : Nat → Nat) (n x i : Nat) :
    elt 32 (setWord3 g n x) i = if i % 4 = 3 ∧ i / 4 < n then g (i / 4) % 2 ^ 32 else elt 32 x i := by
  induction n with
  | zero => simp [setWord3]
  | succ n ih =>
    simp only [setWord3, List.range_succ, List.foldl_append, List.foldl_cons, List.foldl_nil] at ih ⊢
    rw [elt_setElt, ih]
    by_cases hi : i = 4 * n + 3
    · subst hi
      rw [if_pos rfl, if_pos (by omega), show (4 * n + 3) / 4 = n by omega]
    · rw [if_neg hi]
      exact if_congr (by omega) rfl rfl

theorem issue_vmvar (h : Issues w (vBare2 o) s) :
    let x := strandAt w s
    let var (q : Nat) : Nat × FpFlags := varianceOf x.conf (Rec.get (x.rv o.va) q)
    let l := (List.range 8).map var
    issue w (vBare2 o) (vmvarBody o) s = vecFp w s (atIssue w s) 4 o.vd
      (vwhole (BitVec.ofNat 1024 (setWord3 (fun q => (l.map (·.1)).getD q 0) 8 (x.rv o.va).toNat))) (orFlags l) :=
  issue_vecFp h rfl rfl

/-- Settles O24: the tree of each reduction, and the records slot by slot; the integer picks by the extreme that a tree finds. -/
theorem vectorReductionsAndMoments : Obligations.VectorReductionsAndMoments := by
  unfold Obligations.VectorReductionsAndMoments
  refine ⟨fun w o s ty h ht => ⟨fun f hf => ?_, fun sg n hi hc => ?_⟩, fun w o s ty f h ht hf h64 => ⟨fun hn => ?_, fun hn => ?_⟩,
    fun w o s => ⟨fun h => next_congr (issue_vmmrg h), fun h => ⟨next_congr (issue_vmred h), ?_⟩⟩⟩
  · exact ⟨next_congr (issue_vrsum_float h ht hf), next_congr (issue_vrpick_float h ht hf true),
      next_congr (issue_vrpick_float h ht hf false), fun h64 => ⟨next_congr (issue_vrssq h ht hf h64), next_congr (issue_vrssqA h ht hf h64)⟩⟩
  · obtain ⟨p, hp, top, max⟩ := issue_vrmax_int h ht hi hc
    obtain ⟨q, hq, low, min⟩ := issue_vrmin_int h ht hi hc
    exact ⟨next_congr (issue_vrsum_int h ht hi hc), ⟨p, hp, top, next_congr max⟩, ⟨q, hq, low, next_congr min⟩⟩
  · exact ⟨next_congr (issue_vmom h ht hf h64 hn), next_congr (issue_vmomA h ht hf h64 hn)⟩
  · have beyond (acc : Bool) := next_congr (issue_vmom_beyond h ht hf h64 hn acc)
    exact ⟨beyond false, beyond true⟩
  · refine ⟨_, next_congr (issue_vmvar h), fun i hi => ?_⟩
    rw [elt_ofNat (by omega), elt_setWord3]
    refine if_ctx_congr (by omega) (fun _ => ?_) fun _ => rfl
    rw [List.getD_eq_getElem _ _ (by simp; omega)]
    simp

end Sys2Proof.Machine
end

section
/-! PROOF. The OP instructions: one law for all of them, then what each operation's flags and traps are (R139 to R141, R169). -/

namespace Sys2Proof.Machine

variable {w : Who} {o : OpR} {s : State} {op : AluOp}

/-! ### An OP instruction that issues -/

/-- The cause that an OP instruction raises; only a steward core raises one (R169). -/
def aluTrap (w : Who) (o : OpR) (s : State) (op : AluOp) : Option Nat :=
  let x := strandAt w s
  if isSteward w.core then op.trap x.sxen (x.rg o.ra) (x.rg o.rb) else none

/-- An OP instruction that raises no cause writes its operation's result at the operation's distance, with its flags. -/
theorem issue_alu (h : Issues w (aluInfo o) s) (hf : o.f = true → op.takesF = true) (ht : aluTrap w o s op = none) :
    let a := (strandAt w s).rg o.ra
    let b := (strandAt w s).rg o.rb
    issue w (aluInfo o) (aluBody op o) s = aluDone w o s op.dist (op.result a b) (op.flags a b) := by
  have legal : ¬ (o.f && !op.takesF) = true := by simpa using hf
  have quiet : (if isSteward (envOf w s).k then op.trap (strandAt w s).sxen ((strandAt w s).rg o.ra) ((strandAt w s).rg o.rb)
      else none) = none := ht
  refine issue_done h ?_
  simp only [aluBody, strand_atIssue, if_neg legal, quiet]
  rfl

/-- With F = 0 no flag is written, so that the flags an operation would set say nothing. -/
theorem issue_alu_unflagged (h : Issues w (aluInfo o) s) (hF : o.f = false) (ht : aluTrap w o s op = none) :
    issue w (aluInfo o) (aluBody op o) s
      = aluDone w o s op.dist (op.result ((strandAt w s).rg o.ra) ((strandAt w s).rg o.rb)) {} := by
  rw [issue_alu h (by simp [hF]) ht]
  simp only [aluDone, hF, Bool.false_eq_true, if_false]

/-! ### Which operations raise no cause -/

theorem aluTrap_of_never (never : ∀ sxen a b, op.trap sxen a b = none) : aluTrap w o s op = none := by
  simp only [aluTrap, never, ite_self]

/-- A cause that waits for one condition of a steward core is not raised where the condition fails. -/
theorem aluTrap_of_condition {enabled v : Bool} {code : Nat}
    (cause : op.trap (strandAt w s).sxen ((strandAt w s).rg o.ra) ((strandAt w s).rg o.rb) = if enabled && v then some code else none)
    (quiet : (isSteward w.core && enabled && v) = false) : aluTrap w o s op = none := by
  simp only [aluTrap, cause]
  by_cases hs : isSteward w.core = true
  · rw [if_pos hs, if_neg (by simpa [hs] using quiet)]
  · rw [if_neg hs]

/-- DIVU and REMU have one cause, a zero divisor under DZ (R169). -/
theorem AluOp.trap_of_unsigned_division (hop : op = .divu ∨ op = .remu) (sxen a b : W32) :
    op.trap sxen a b = if tb sxen 0 && b == 0 then some 0x0C else none := by
  rcases hop with rfl | rfl <;> simp only [AluOp.trap, Bool.and_comm] <;> rfl

/-- DIV and REM have two causes: a zero divisor under DZ, and the one quotient that does not fit under OV (R169). -/
theorem AluOp.trap_of_signed_division (hop : op = .div ∨ op = .rem) (sxen a b : W32) :
    op.trap sxen a b = if b = 0 then (if tb sxen 0 then some 0x0C else none)
      else if tb sxen 1 && a == 0x80000000#32 && b == 0xFFFFFFFF#32 then some 0x0D else none := by
  rcases hop with rfl | rfl <;> rfl

theorem aluTrap_of_signed_division (hop : op = .div ∨ op = .rem) :
    let x := strandAt w s
    let a := x.rg o.ra
    let b := x.rg o.rb
    (isSteward w.core && tb x.sxen 0 && b == 0) = false →
      (isSteward w.core && tb x.sxen 1 && a == 0x80000000#32 && b == 0xFFFFFFFF#32) = false → aluTrap w o s op = none := by
  intro x a b zero least
  have cause := AluOp.trap_of_signed_division hop x.sxen a b
  by_cases hb : b = 0
  · exact aluTrap_of_condition (cause.trans (c := if tb x.sxen 0 && b == 0 then some 0x0C else none) (by simp [hb])) zero
  · rw [if_neg hb, Bool.and_assoc] at cause
    rw [Bool.and_assoc (_ && _)] at least
    exact aluTrap_of_condition cause least

/-! ### Flags -/

/-- An exact value beyond the signed words, by its two bounds. -/
theorem not_fits32 (i : Int) : (!fits32 i) = (decide (i < -2147483648) || decide (2147483648 ≤ i)) := by
  simp only [fits32, Bool.not_and, ← decide_not, Int.not_le, Int.not_lt]
  rfl

theorem shiftCarry_shl (a b : W32) : shiftCarry .shl a b = (decide (amount b ≠ 0) && a.getLsbD (32 - amount b)) := by
  by_cases hn : amount b = 0 <;> simp [shiftCarry, hn]

/-- A shift to the right, logic or arithmetic, drops the bit below the amount last (R140). -/
theorem shiftCarry_right (hop : op ≠ .shl) (a b : W32) :
    shiftCarry op a b = (decide (amount b ≠ 0) && a.getLsbD (amount b - 1)) := by
  by_cases hn : amount b = 0 <;> simp [shiftCarry, hn]

/-- Settles O3: the law of the OP instructions at each operation, with its flags and the causes that do not arise. -/
theorem scalarResults : Obligations.ScalarResults := by
  unfold Obligations.ScalarResults
  intro w o s h a b n fl sum diff out ov dz
  have beyond (i : Int) : (!fits32 i) = out i := not_fits32 i
  have flagged (op : AluOp) (hop : op.takesF = true) (ht : aluTrap w o s op = none) :=
    next_congr (issue_alu h (fun _ => hop) ht)
  have silent (op : AluOp) (hop : op.takesF = true) (never : ∀ sxen a b, op.trap sxen a b = none) :=
    flagged op hop (aluTrap_of_never never)
  have shl := silent .shl rfl fun _ _ _ => rfl
  have shr := silent .shr rfl fun _ _ _ => rfl
  have sra := silent .sra rfl fun _ _ _ => rfl
  simp only [AluOp.flags, shiftCarry_shl, shiftCarry_right (op := .shr) (by decide), shiftCarry_right (op := .sra) (by decide)]
    at shl shr sra
  refine ⟨fun fits => ?_, fun fits => ?_, silent .and rfl fun _ _ _ => rfl, silent .or rfl fun _ _ _ => rfl,
    silent .xor rfl fun _ _ _ => rfl, shl, shr, sra, fun hF => ?_⟩
  · rw [← beyond] at fits ⊢
    exact flagged .add rfl (aluTrap_of_condition rfl fits)
  · rw [← beyond] at fits ⊢
    exact flagged .sub rfl (aluTrap_of_condition rfl fits)
  · have plain (op : AluOp) (ht : aluTrap w o s op = none) := next_congr (issue_alu_unflagged h hF ht)
    have causeless (op : AluOp) (never : ∀ sxen a b, op.trap sxen a b = none) := plain op (aluTrap_of_never never)
    refine ⟨causeless .slt fun _ _ _ => rfl, causeless .sltu fun _ _ _ => rfl, causeless .min fun _ _ _ => rfl,
      causeless .max fun _ _ _ => rfl, causeless .minu fun _ _ _ => rfl, causeless .maxu fun _ _ _ => rfl,
      fun fits => ?_, causeless .mulh fun _ _ _ => rfl,
      causeless .mulhu fun _ _ _ => rfl, fun zero least => ?_, fun zero => ?_⟩
    · rw [← beyond] at fits
      exact plain .mul (aluTrap_of_condition rfl fits)
    · exact ⟨plain .div (aluTrap_of_signed_division (.inl rfl) zero least),
        plain .rem (aluTrap_of_signed_division (.inr rfl) zero least)⟩
    · have quiet (op : AluOp) (hop : op = .divu ∨ op = .remu) :=
        aluTrap_of_condition (AluOp.trap_of_unsigned_division hop _ _ _) zero
      exact ⟨plain .divu (quiet .divu (.inl rfl)), plain .remu (quiet .remu (.inr rfl))⟩

end Sys2Proof.Machine
end

section
/-! PROOF. Power of the on-chip memory banks (R205 to R207): first a register field read back, then a bank's state, then its transitions. -/

namespace Sys2Proof.Machine

variable {s : State} {b : BankId}

/-! ### A register field after it was written -/

/-- A word's field holds what was written, as far as the field is wide. -/
theorem fld_setFld {n hi lo : Nat} (x : BitVec n) (hl : lo ≤ hi) (hn : hi < n) (v : Nat) :
    fld (setFld x hi lo v) hi lo = v % 2 ^ (hi + 1 - lo) := by
  have word : 2 ^ n = 2 ^ lo * (2 ^ (hi + 1 - lo) * 2 ^ (n - (hi + 1))) := by
    rw [← pow_add, ← pow_add]
    congr 1
    omega
  have cleared : (x.toNat - fld x hi lo * 2 ^ lo) / 2 ^ lo = 2 ^ (hi + 1 - lo) * (x.toNat / 2 ^ lo / 2 ^ (hi + 1 - lo)) := by
    have parts := Nat.div_add_mod (x.toNat / 2 ^ lo) (2 ^ (hi + 1 - lo))
    rw [Nat.mul_comm, Nat.sub_mul_div, fld_eq]
    omega
  rw [fld_eq, setFld, BitVec.toNat_ofNat, word, Nat.mod_mul_right_div_self, Nat.mod_mul_right_mod,
    Nat.add_mul_div_right _ _ (Nat.two_pow_pos lo), cleared, Nat.mul_add_mod, Nat.mod_mod]

theorem State.rf_setRf (h : s.wf = true) (a : Nat) {f : Fld} (hl : f.lo ≤ f.hi) (hf : f.hi < 64) (v : Nat) :
    (s.setRf a f v).rf a f = v % 2 ^ (f.hi + 1 - f.lo) := by
  rw [State.rf, State.setRf, State.reg_setReg h, if_pos rfl, fld_setFld _ hl hf]

/-! ### The state of a bank -/

theorem PowerState.ofCode_code (p : PowerState) : PowerState.ofCode (p.code % 4) = p := by cases p <;> rfl

/-- A bank that has an enable bit has two state bits in one register (Tables 7-3 and 7-4). -/
theorem bankStateAt_of_bankThere (hb : bankThere b = true) : ∃ a lo, bankStateAt b = some (a, ⟨lo + 1, lo⟩) ∧ lo + 1 < 64 := by
  cases b with
  | ls k st n =>
    cases st <;> simp only [bankThere, Bool.and_eq_true, decide_eq_true_eq, Bool.false_eq_true] at hb
    case ws => exact ⟨_, 2 * n, rfl, by omega⟩
    case as => exact ⟨_, 2 * n + 32, rfl, by omega⟩
    case ps => exact ⟨_, 2 * n, rfl, by omega⟩
  | clm u n =>
    simp only [bankThere, Bool.and_eq_true, decide_eq_true_eq] at hb
    by_cases hn : n < 32
    · exact ⟨_, 2 * n, if_pos hn, by omega⟩
    · refine ⟨Reg.CLU_CLM_STATE1 u, 2 * n - 64, (if_neg hn).trans ?_, by omega⟩
      rw [show 2 * n - 63 = 2 * n - 64 + 1 by omega]

/-- A bank that has an enable bit has a PENDING_ON bit with it. -/
theorem bankBits_of_bankThere (hb : bankThere b = true) : (bankBits b).isNone = false := by
  cases b with
  | ls k st n =>
    cases st with
    | qram => cases hb
    | ws | as | ps => rfl
  | clm u n => rfl

theorem State.bankState_setBankState (h : s.wf = true) (hb : bankThere b = true) (p : PowerState) :
    (s.setBankState b p).bankState b = p := by
  obtain ⟨a, lo, at_, fits⟩ := bankStateAt_of_bankThere hb
  have width : lo + 1 + 1 - lo = 2 := by omega
  simp only [State.bankState, State.setBankState, at_]
  rw [State.rf_setRf h a (Nat.le_succ lo) fits, width]
  exact PowerState.ofCode_code p

@[simp] theorem State.setBankState_mem (s : State) (b : BankId) (p : PowerState) : (s.setBankState b p).mem = s.mem := by
  unfold State.setBankState
  split <;> rfl

@[simp] theorem State.setBankState_stops (s : State) (b : BankId) (p : PowerState) : (s.setBankState b p).stops = s.stops := by
  unfold State.setBankState
  split <;> rfl

@[simp] theorem State.setBankEnable_stops (s : State) (b : BankId) (v : Bool) : (s.setBankEnable b v).stops = s.stops := by
  unfold State.setBankEnable
  split <;> rfl

/-- Bytes of memory have no part in what registers hold. -/
theorem State.zeroRange_setBankState_regs (s : State) (lo n : Nat) (b : BankId) (p : PowerState) :
    ((s.zeroRange lo n).setBankState b p).regs = (s.setBankState b p).regs := by
  unfold State.setBankState
  split <;> rfl

@[simp] theorem State.byte_setBankState (s : State) (b : BankId) (p : PowerState) (a : Nat) : (s.setBankState b p).byte a = s.byte a := by
  rw [State.byte, State.setBankState_mem, State.byte]

/-! ### The transitions of a bank -/

/-- Power-up of a bank that is Off begins at once (R205). -/
theorem State.bankEnable_off (h : s.bankState b = .off) : s.bankEnable b = (s.setBankEnable b true).setBankState b .starting := by
  simp only [State.bankEnable, h]

/-- A bank that is Stopping remembers the enable in PENDING_ON (R205). -/
theorem State.bankEnable_stopping (h : s.bankState b = .stopping) :
    s.bankEnable b = (s.setBankEnable b true).setBankPending b true := by
  simp only [State.bankEnable, h]

/-- A bank that is On or Starting is asked to power down; the request waits until it can begin (R205, R206). -/
theorem State.bankDisable_powered (hb : bankThere b = true) (h : s.bankState b = .on ∨ s.bankState b = .starting) :
    s.bankDisable b = { s.setBankEnable b false with stops := s.stops.filter (· != b) ++ [b] } := by
  rcases h with h | h <;> simp [State.bankDisable, bankBits_of_bankThere hb, h]

theorem State.bankDisable_stopping (hb : bankThere b = true) (h : s.bankState b = .stopping) :
    s.bankDisable b = (s.setBankEnable b false).setBankPending b false := by
  simp [State.bankDisable, bankBits_of_bankThere hb, h]

theorem State.bankStopping_of_asked (h : s.bankState b = .on) (asked : b ∈ s.stops) (idle : s.bankHeld b = false) :
    s.bankStopping b = { s.setBankState b .stopping with stops := s.stops.filter (· != b) } := by
  simp [State.bankStopping, h, asked, idle]

theorem State.bankOff_stopping (h : s.bankState b = .stopping) : s.bankOff b =
    if s.bankPending b then (s.setBankPending b false).setBankState b .starting else s.setBankState b .off := by
  rw [State.bankOff, if_pos h]

theorem State.bankOn_starting (h : s.bankState b = .starting) :
    s.bankOn b = (s.zeroRange (bankRange b).1 (bankRange b).2).setBankState b .on := by
  rw [State.bankOn, if_pos h]

/-- Settles O36: each transition by the bank's state; the zeros of Starting by the laws of memory. -/
theorem bankPower : Obligations.BankPower := by
  unfold Obligations.BankPower
  intro b s hb
  refine ⟨fun off => next_congr (State.bankEnable_off off), fun stopping => next_congr (State.bankEnable_stopping stopping),
    fun powered => next_congr (State.bankDisable_powered hb powered), fun stopping => next_congr (State.bankDisable_stopping hb stopping),
    fun on asked idle => next_congr (State.bankStopping_of_asked on asked idle),
    fun stopping pending => next_congr ((State.bankOff_stopping stopping).trans (if_pos pending)),
    fun stopping pending => next_congr ((State.bankOff_stopping stopping).trans (if_neg (by simp [pending]))),
    fun starting wf => ⟨_, next_congr (State.bankOn_starting starting), ?_, ?_, ?_, fun a => ?_⟩⟩
  · exact State.bankState_setBankState ((kept_zeroRange s _ _).form wf) hb .on
  · rw [State.setBankState_stops, State.zeroRange_stops]
  · exact State.zeroRange_setBankState_regs s _ _ b .on
  · rw [State.byte_setBankState]
    exact State.byte_zeroRange wf _ _ a

end Sys2Proof.Machine
end

section
/-! PROOF. Steps and the queue of commands; the formats of a link (R339, R340, Tables 11-2 and 11-4). -/

namespace Sys2Proof.Machine

/-- Settles O1: by the definition of a step. -/
theorem stepRunsTheFrontCommand : Obligations.StepRunsTheFrontCommand := by
  unfold Obligations.StepRunsTheFrontCommand
  exact fun c s rest => step_cons c rest _ rfl

/-- Settles O2: a cycle of the time clock keeps the queue. -/
theorem emptyQueueTicksTheTimeClock : Obligations.EmptyQueueTicksTheTimeClock := by
  unfold Obligations.EmptyQueueTicksTheTimeClock
  exact fun s h => ⟨by simp only [step, h], (kept_tick s).queue.trans h⟩

/-! ### Flits -/

theorem toBytes_add (m n x : Nat) : toBytes (m + n) x = toBytes m x ++ toBytes n (x / 256 ^ m) := by
  induction m generalizing x with
  | zero => simp [toBytes]
  | succ m ih =>
    rw [Nat.add_right_comm, toBytes_succ, ih, toBytes_succ, List.cons_append, Nat.div_div_eq_div_mul, Nat.pow_succ, Nat.mul_comm (256 ^ m)]

/-- The two ends of a flit: twelve bytes of header, and what follows its CRC. -/
theorem flitBytes_eq (head : Nat) (body : List Byte) :
    ∃ c, flitBytes head body = toBytes 12 head ++ (toBytes 4 c ++ (body ++ List.replicate (240 - body.length) 0#8))
      ∧ flitCrc (flitBytes head body) = c ∧ c < 2 ^ 32 := by
  have front : toBytes 16 head = toBytes 12 head ++ toBytes 4 (head / 256 ^ 12) := toBytes_add 12 4 head
  have twelve (l : List Byte) : (toBytes 12 head ++ l).take 12 = toBytes 12 head := List.take_left' (toBytes_length 12 head)
  have sixteen (c : Nat) (l : List Byte) : (toBytes 12 head ++ (toBytes 4 c ++ l)).drop 16 = l := by
    rw [← List.append_assoc]
    exact List.drop_left' (by simp)
  refine ⟨flitCrc (toBytes 16 head ++ body ++ List.replicate (240 - body.length) 0#8), ?_, ?_, ?_⟩
  · simp only [flitBytes, front, List.append_assoc, twelve, sixteen]
  · simp only [flitBytes, flitCrc, front, List.append_assoc, twelve, sixteen]
  · exact Nat.xor_lt_two_pow (crcBytes_lt _ (by decide) (by decide)) (by decide)

theorem flitBytes_read {head : Nat} {body : List Byte} (hh : head < 2 ^ 96) (hb : body.length ≤ 240) :
    let b := flitBytes head body
    b.length = 256 ∧ ofBytes (b.take 16) / 2 ^ 96 = flitCrc b ∧ ofBytes (b.take 16) % 2 ^ 96 = head ∧ (b.drop 16).take body.length = body := by
  intro b
  obtain ⟨c, bytes, crc, hc⟩ := flitBytes_eq head body
  have parts : b = (toBytes 12 head ++ toBytes 4 c) ++ (body ++ List.replicate (240 - body.length) 0#8) := by
    rw [List.append_assoc]
    exact bytes
  have header : ofBytes (b.take 16) = head + 2 ^ 96 * c := by
    rw [parts, List.take_left' (by simp), ofBytes_append, ofBytes_toBytes, ofBytes_toBytes, toBytes_length]
    omega
  refine ⟨by simp only [parts, List.length_append, toBytes_length, List.length_replicate]; omega, ?_, ?_, ?_⟩
  · rw [header, crc]; omega
  · rw [header]; omega
  · rw [parts, List.drop_left' (by simp)]
    exact List.take_left

/-! ### Packet headers -/

theorem TKind.ofCode_code (k : TKind) : TKind.ofCode k.code = some k := by cases k <;> rfl

theorem TKind.code_lt (k : TKind) : k.code < 16 := by cases k <;> decide

/-- The lengths of Table 8-4 have codes below 7, read back as they were. -/
theorem lenOfCode_lenCode {n : Nat} (h : n ∈ [0, 8, 16, 64, 128, 512, 2048]) : lenOfCode (lenCode n) = some n ∧ lenCode n < 8 := by
  fin_cases h <;> exact ⟨rfl, by decide⟩

/-- A packet whose fields fit their places in Table 11-4, with a length of Table 8-4. -/
structure TPkt.Fits (t : TPkt) : Prop where
  ddev : t.ddev < 65536
  sdev : t.sdev < 65536
  hops : t.hops < 256
  sep : t.sep < 4096
  win : t.win < 256
  epoch : t.epoch < 256
  tag : t.tag < 1024
  off : t.off < 2 ^ 38
  idx : t.idx < 65536
  gwin : t.gwin < 256
  gepoch : t.gepoch < 256
  code : t.code < 256
  chid : t.chid < 65536
  round : t.round < 256
  cnt : t.cnt < 65536
  rop : t.rop < 16
  flg : t.flg < 8
  len : t.size ∈ [0, 8, 16, 64, 128, 512, 2048]
  whole : t.kind ≠ .rd → t.payload.length = t.size

/-- The part of a header that every kind has alike: bits 63:0. -/
def TPkt.common (t : TPkt) : Nat :=
  t.kind.code + 2 ^ 4 * lenCode t.size + 2 ^ 8 * t.ddev + 2 ^ 24 * t.sdev + 2 ^ 40 * t.hops + 2 ^ 48 * t.sep

/-- The part of a header that depends on the kind: bits 127:64. -/
def TPkt.special (t : TPkt) : Nat :=
  match t.kind with
  | .wr | .rd => t.win + 2 ^ 8 * t.epoch + 2 ^ 16 * t.tag + 2 ^ 26 * t.off
  | .sig => t.win + 2 ^ 8 * t.epoch + 2 ^ 16 * t.idx + 2 ^ 32 * t.gwin + 2 ^ 40 * t.gepoch + 2 ^ 48 * bit t.gv + 2 ^ 49 * t.tag
  | .tok => t.win + 2 ^ 8 * t.epoch + 2 ^ 16 * t.idx + 2 ^ 32 * t.gwin + 2 ^ 40 * t.gepoch + 2 ^ 48 * bit t.gv
  | .rdr | .wack => 2 ^ 16 * t.tag
  | .nak => 2 ^ 16 * t.tag + 2 ^ 26 * t.code
  | .msg | .crd | .rls => t.chid
  | .red => t.chid + 2 ^ 16 * t.round + 2 ^ 24 * t.cnt + 2 ^ 40 * t.rop + 2 ^ 44 * t.flg

variable {t : TPkt}

theorem TPkt.Fits.header_eq (f : t.Fits) : t.header = t.common + 2 ^ 64 * t.special := by
  obtain ⟨ddev, sdev, hops, sep, win, epoch, tag, off, idx, gwin, gepoch, code, chid, round, cnt, rop, flg, -, whole⟩ := f
  have len : (if t.kind = .rd then t.size else t.payload.length) = t.size := by
    split
    · rfl
    · exact whole ‹_›
  simp only [TPkt.header, TPkt.common, TPkt.special, len]
  cases t.kind <;> simp only [reduceCtorEq, if_false, if_true] <;> omega

theorem TPkt.Fits.common_lt (f : t.Fits) : t.common < 2 ^ 64 := by
  obtain ⟨ddev, sdev, hops, sep⟩ := f
  have := t.kind.code_lt
  have := (lenOfCode_lenCode ‹_›).2
  simp only [TPkt.common]
  omega

/-- Bits [hi:lo] of a header. -/
def hfld (h hi lo : Nat) : Nat := h / 2 ^ lo % 2 ^ (hi + 1 - lo)

/-- What a header says, when its KIND and LEN are those of Tables 11-4 and 8-4. -/
theorem TPkt.decode_reads {h n : Nat} {k : TKind} (hk : TKind.ofCode (hfld h 3 0) = some k) (hn : lenOfCode (hfld h 6 4) = some n) :
    ∃ u, TPkt.decode h = some u ∧ u.kind = k ∧ u.size = n ∧ u.ddev = hfld h 23 8 ∧ u.sdev = hfld h 39 24 ∧ u.hops = hfld h 47 40
      ∧ u.sep = hfld h 59 48
      ∧ (k.cls = 0 ∧ k ≠ .msg ∨ k = .tok → u.win = hfld h 71 64 ∧ u.epoch = hfld h 79 72)
      ∧ u.tag = (if k = .sig then hfld h 122 113 else hfld h 89 80) ∧ u.off = hfld h 127 90 ∧ u.idx = hfld h 95 80
      ∧ u.gwin = hfld h 103 96 ∧ u.gepoch = hfld h 111 104 ∧ (k = .sig ∨ k = .tok → u.gv = (hfld h 112 112 == 1))
      ∧ u.code = hfld h 97 90 ∧ u.chid = hfld h 79 64 ∧ u.round = hfld h 87 80 ∧ u.cnt = hfld h 103 88 ∧ u.rop = hfld h 107 104
      ∧ u.flg = hfld h 110 108 := by
  simp only [hfld] at hk hn
  refine ⟨_, by simp only [TPkt.decode, hk, hn]; rfl, ?_⟩
  cases k <;> simp [hfld, TKind.cls]

/-- The kind's own part of a header stands above its first 64 bits. -/
theorem hfld_high {c x : Nat} (hc : c < 2 ^ 64) (hi lo : Nat) : hfld (c + 2 ^ 64 * x) (hi + 64) (lo + 64) = hfld x hi lo := by
  have part : (c + 2 ^ 64 * x) / 2 ^ (lo + 64) = x / 2 ^ lo := by
    rw [Nat.add_comm lo, pow_add, ← Nat.div_div_eq_div_mul]
    congr 1
    omega
  rw [hfld, hfld, part]
  congr 2
  omega

theorem TPkt.Fits.common_reads (f : t.Fits) :
    hfld t.header 3 0 = t.kind.code ∧ hfld t.header 6 4 = lenCode t.size ∧ hfld t.header 23 8 = t.ddev ∧ hfld t.header 39 24 = t.sdev
      ∧ hfld t.header 47 40 = t.hops ∧ hfld t.header 59 48 = t.sep := by
  rw [f.header_eq]
  obtain ⟨ddev, sdev, hops, sep⟩ := f
  have := t.kind.code_lt
  have := (lenOfCode_lenCode ‹_›).2
  simp only [TPkt.common, hfld]
  omega

/-! #### The part of a header that depends on its kind -/

theorem TPkt.Fits.special_of_memory (f : t.Fits) (h : t.kind = .wr ∨ t.kind = .rd) :
    hfld t.special 7 0 = t.win ∧ hfld t.special 15 8 = t.epoch ∧ hfld t.special 25 16 = t.tag ∧ hfld t.special 63 26 = t.off := by
  have := f.win; have := f.epoch; have := f.tag; have := f.off
  rcases h with e | e <;> simp only [TPkt.special, e, hfld] <;> omega

theorem TPkt.Fits.special_of_counter (f : t.Fits) (h : t.kind = .sig ∨ t.kind = .tok) :
    hfld t.special 7 0 = t.win ∧ hfld t.special 15 8 = t.epoch ∧ hfld t.special 31 16 = t.idx ∧ hfld t.special 39 32 = t.gwin
      ∧ hfld t.special 47 40 = t.gepoch ∧ hfld t.special 48 48 = bit t.gv ∧ (t.kind = .sig → hfld t.special 58 49 = t.tag) := by
  have := f.win; have := f.epoch; have := f.tag; have := f.idx; have := f.gwin; have := f.gepoch
  have gv : bit t.gv < 2 := by cases t.gv <;> decide
  rcases h with e | e <;> simp only [TPkt.special, e, hfld, reduceCtorEq, false_imp_iff, true_imp_iff, and_true] <;> omega

theorem TPkt.Fits.special_of_answer (f : t.Fits) (h : t.kind = .rdr ∨ t.kind = .wack ∨ t.kind = .nak) :
    hfld t.special 25 16 = t.tag ∧ (t.kind = .nak → hfld t.special 33 26 = t.code) := by
  have := f.tag; have := f.code
  rcases h with e | e | e <;> simp only [TPkt.special, e, hfld, reduceCtorEq, false_imp_iff, true_imp_iff, and_true] <;> omega

theorem TPkt.Fits.special_of_channel (f : t.Fits) (h : t.kind = .msg ∨ t.kind = .crd ∨ t.kind = .rls ∨ t.kind = .red) :
    hfld t.special 15 0 = t.chid ∧ (t.kind = .red → hfld t.special 23 16 = t.round ∧ hfld t.special 39 24 = t.cnt
      ∧ hfld t.special 43 40 = t.rop ∧ hfld t.special 46 44 = t.flg) := by
  have := f.chid; have := f.round; have := f.cnt; have := f.rop; have := f.flg
  rcases h with e | e | e | e <;> simp only [TPkt.special, e, hfld, reduceCtorEq, false_imp_iff, true_imp_iff, and_true] <;> omega

theorem bit_beq_one (b : Bool) : (bit b == 1) = b := by cases b <;> rfl

/-- Settles O46: the ends of a flit for the first part; for a header, its common part and then its own part, kind by kind. -/
theorem trailFormatsRoundTrip : Obligations.TrailFormatsRoundTrip := by
  unfold Obligations.TrailFormatsRoundTrip
  refine ⟨fun head body hh hb => flitBytes_read hh hb, fun t ddev sdev hops sep win epoch tag off idx gwin gepoch code chid round cnt rop flg
    len whole => ?_⟩
  have fits : t.Fits := ⟨ddev, sdev, hops, sep, win, epoch, tag, off, idx, gwin, gepoch, code, chid, round, cnt, rop, flg, len, whole⟩
  have high (hi lo : Nat) : hfld t.header (hi + 64) (lo + 64) = hfld t.special hi lo := by
    rw [fits.header_eq]
    exact hfld_high fits.common_lt hi lo
  obtain ⟨kind, size, ddev', sdev', hops', sep'⟩ := fits.common_reads
  obtain ⟨u, read, uk, us, ud, usd, uh, usep, uwin, utag, uoff, uidx, ugwin, ugepoch, ugv, ucode, uchid, uround, ucnt, urop, uflg⟩ :=
    TPkt.decode_reads (kind ▸ TKind.ofCode_code t.kind) (size ▸ (lenOfCode_lenCode len).1)
  rw [high 7 0, high 15 8] at uwin
  rw [high 58 49, high 25 16] at utag
  rw [high 63 26] at uoff
  rw [high 31 16] at uidx
  rw [high 39 32] at ugwin
  rw [high 47 40] at ugepoch
  rw [high 48 48] at ugv
  rw [high 33 26] at ucode
  rw [high 15 0] at uchid
  rw [high 23 16] at uround
  rw [high 39 24] at ucnt
  rw [high 43 40] at urop
  rw [high 46 44] at uflg
  have memory := fits.special_of_memory
  have counter := fits.special_of_counter
  have answer := fits.special_of_answer
  have channel := fits.special_of_channel
  refine ⟨u, read, uk, us, ud.trans ddev', usd.trans sdev', uh.trans hops', usep.trans sep', ?_⟩
  clear fits high kind size ddev' sdev' hops' sep' read uk us ud usd uh usep len whole
  cases e : t.kind <;> simp_all [TKind.cls, bit_beq_one]

end Sys2Proof.Machine
end

section
/-! PROOF. What each further answer of a body makes of an instruction that issues; the immediate forms and CMPI (R140, Table 5-6). -/

namespace Sys2Proof.Machine

variable {w : Who} {info : Info} {s t : State} {body : Env → State → Res}

/-! ### What a body reads of its instruction -/

@[simp] theorem envOf_k : (envOf w s).k = w.core := rfl
@[simp] theorem envOf_i : (envOf w s).i = w.strand := rfl
@[simp] theorem envOf_t : (envOf w s).t = slotOf w s := rfl
@[simp] theorem envOf_word : (envOf w s).word = w.word.toNat := rfl
@[simp] theorem envOf_ecc : (envOf w s).ecc = w.ecc := rfl
@[simp] theorem strandAt_eq : (atIssue w s).strand w.core w.strand = strandAt w s := rfl

/-! ### Answers of a body -/

theorem issue_trap {c : Cause} (h : Issues w info s) (hb : body (envOf w s) (atIssue w s) = .trap c) :
    issue w info body s = raises w s c := by rw [issue_eq h, hb]; rfl

theorem issue_branch {target : Option W48} {link : Option (BitVec 5)} {guards : List (BitVec 5)} (h : Issues w info s) (hl : info.len = 4)
    (hb : body (envOf w s) (atIssue w s) = .branch t target link guards) :
    issue w info body s = branched w s t target link guards := by rw [issue_eq h, hb, hl]; rfl

theorem issue_goto {next : W48} (h : Issues w info s) (hb : body (envOf w s) (atIssue w s) = .goto t next) :
    issue w info body s = (t.modStrand w.core w.strand fun x => x.goOn next).issued w.core w.strand (slotOf w s) := by
  rw [issue_eq h, hb]; rfl

theorem issue_stay (h : Issues w info s) (hb : body (envOf w s) (atIssue w s) = .stay t) :
    issue w info body s = t.issued w.core w.strand (slotOf w s) := by rw [issue_eq h, hb]; rfl

theorem issue_hold {why : WaitWhy} {lost : Option Lost} (h : Issues w info s)
    (hb : body (envOf w s) (atIssue w s) = .hold t why lost) :
    issue w info body s = t.setRun w.core w.strand (.waiting why) (lost.map (slotOf w s, ·)) := by rw [issue_eq h, hb]; rfl

/-- A strand that waits, and one that sleeps on a queue, leave no trace record of it. -/
theorem issue_wait {r : Run} {lost : Option Lost} (h : Issues w info s) (hb : body (envOf w s) (atIssue w s) = .wait t r lost)
    (hr : ∀ c, r ≠ .sleeping (.counter c)) : issue w info body s = waits w s t r lost := by
  rw [issue_eq h, hb]
  match r, hr with
  | .off, _ | .running, _ | .waiting _, _ | .restStop, _ | .sleeping (.queue _), _ => rfl
  | .sleeping (.counter c), hr => exact absurd rfl (hr c)

theorem issue_sleep {c : CounterId} (h : Issues w info s)
    (hb : body (envOf w s) (atIssue w s) = .wait t (.sleeping (.counter c)) none) :
    issue w info body s = sleepsOn w s t c := by rw [issue_eq h, hb]; rfl

theorem issue_settled (h : Issues w info s) (hb : body (envOf w s) (atIssue w s) = .settled t) : issue w info body s = t := by
  rw [issue_eq h, hb]; rfl

/-- What a strand becomes depends on what it is alone. -/
theorem modStrand_congr {k i : Nat} {f g : Strand → Strand} (h : f (s.strand k i) = g (s.strand k i)) :
    s.modStrand k i f = s.modStrand k i g := congrArg (s.setStrand k i) h

/-! ### The immediate forms -/

variable {o : OpI} {bad : Bool} {v : Strand → W32} {trap : Strand → Option Nat}

/-- An immediate form that is legal and raises no cause writes rd at distance 0. -/
theorem issue_imm (h : Issues w (immInfo o) s) (legal : bad = false)
    (quiet : (if isSteward w.core then trap (strandAt w s) else none) = none) :
    issue w (immInfo o) (immBody o.rd bad v trap) s = changed w s fun x => x.putG (slotOf w s) o.rd (v (strandAt w s)) := by
  refine issue_done h ?_
  simp only [immBody, strand_atIssue, legal, Bool.false_eq_true, if_false]
  rw [show (if isSteward (envOf w s).k then trap (strandAt w s) else none) = none from quiet]
  rfl

/-- An immediate form without a cause of its own. -/
theorem issue_imm_causeless (h : Issues w (immInfo o) s) (legal : bad = false) :
    issue w (immInfo o) (immBody o.rd bad v fun _ => none) s = changed w s fun x => x.putG (slotOf w s) o.rd (v (strandAt w s)) :=
  issue_imm h legal (ite_self _)

theorem issue_addi (h : Issues w (immInfo o) s)
    (fits : (isSteward w.core && tb (strandAt w s).sxen 1 && addV ((strandAt w s).rg o.ra) (o.imm.signExtend 32)) = false) :
    issue w (immInfo o) (addiBody o) s
      = changed w s fun x => x.putG (slotOf w s) o.rd ((strandAt w s).rg o.ra + o.imm.signExtend 32) := by
  refine issue_imm h rfl ?_
  by_cases hs : isSteward w.core = true
  · simp only [AluOp.trap]
    rw [if_pos hs, if_neg (by simpa [hs] using fits)]
  · rw [if_neg hs]

/-- A legal SHI writes the shift that its upper two bits select (Table 5-6). -/
theorem issue_shi {f : W32 → W32} (h : Issues w (immInfo o) s)
    (hb : shiBody o = immBody o.rd false (fun x => f (x.rg o.ra)) fun _ => none) :
    issue w (immInfo o) (shiBody o) s = changed w s fun x => x.putG (slotOf w s) o.rd (f ((strandAt w s).rg o.ra)) := by
  rw [hb]
  exact issue_imm_causeless h rfl

theorem lui_value (imm : BitVec 16) : imm.setWidth 32 <<< 16 = BitVec.ofNat 32 (imm.toNat * 65536) := by
  apply BitVec.eq_of_toNat_eq
  rw [BitVec.toNat_shiftLeft, BitVec.toNat_setWidth, Nat.shiftLeft_eq, BitVec.toNat_ofNat, Nat.mod_mul_mod]

theorem issue_lui (h : Issues w (immInfo o) s) (zero : o.ra = 0) :
    issue w (immInfo o) (luiBody o) s = changed w s fun x => x.putG (slotOf w s) o.rd (BitVec.ofNat 32 (o.imm.toNat * 65536)) := by
  simp only [luiBody, lui_value]
  exact issue_imm_causeless h (by simp [zero])

theorem issue_cmpi (h : Issues w { setsFlags := true } s) (zero : o.rd = 0) :
    let a := (strandAt w s).rg o.ra
    issue w { setsFlags := true } (cmpiBody o) s
      = changed w s fun x => { x with flags := subFlags a (o.imm.signExtend 32) } := by
  refine issue_done h ?_
  simp only [cmpiBody, zero, ne_eq, not_true, if_false]
  exact congrArg Res.done (modStrand_congr rfl)

/-- Settles O4: each immediate form is its value written to rd; CMPI writes the flags of SUB. -/
theorem immediateResults : Obligations.ImmediateResults := by
  unfold Obligations.ImmediateResults
  intro w o s a sx zx n put
  refine ⟨fun h => ⟨fun fits => ?_, next_congr (issue_imm_causeless h rfl), next_congr (issue_imm_causeless h rfl),
    next_congr (issue_imm_causeless h rfl), fun sel rsvd => ?_, fun sel rsvd => ?_, fun sel rsvd => ?_,
    fun zero => next_congr (issue_lui h zero)⟩, fun h zero => ?_⟩
  · exact next_congr (issue_addi h (by rw [addV, not_fits32]; exact fits))
  · exact next_congr (issue_shi (f := (· <<< n)) h (by simp only [shiBody, sel, rsvd]; rfl))
  · exact next_congr (issue_shi (f := (· >>> n)) h (by simp only [shiBody, sel, rsvd]; rfl))
  · exact next_congr (issue_shi (f := (·.sshiftRight n)) h (by simp only [shiBody, sel, rsvd]; rfl))
  · have e := issue_cmpi h zero
    simp only [subFlags, flagsOf, subV, not_fits32] at e
    exact next_congr e

end Sys2Proof.Machine
end

section
/-! PROOF. Branches, LOOP and the counted waits (R150 to R155, Table 5-11). -/

namespace Sys2Proof.Machine

variable {w : Who} {s : State}

/-! ### Branches -/

/-- A register's target is a multiple of 4 when its two low bits are zero (R151). -/
theorem setWidth_and_three {a : W32} (h : a.toNat % 4 = 0) : a.setWidth 48 &&& 3#48 = 0 := by
  apply BitVec.eq_of_toNat_eq
  have low : a.toNat % 2 ^ 48 % 2 ^ 2 = 0 := by omega
  simpa using (Nat.and_two_pow_sub_one_eq_mod (a.toNat % 2 ^ 48) 2).trans low

theorem issue_jumpReg {o : OpR} (link : Bool) (h : Issues w (jumpRegInfo link o) s) (hf : o.f = false)
    (aligned : ((strandAt w s).rg o.ra).toNat % 4 = 0) :
    issue w (jumpRegInfo link o) (jumpRegBody link o) s = branched w s
      (if link then (atIssue w s).modStrand w.core w.strand fun x => x.putG (slotOf w s) o.rd ((x.pc + 8).setWidth 32) else atIssue w s)
      (some (((strandAt w s).rg o.ra).setWidth 48)) (if link then some o.rd else none)
      ((if link then [o.ra, o.rd] else [o.ra]).filter (· ≠ 0)) := by
  refine issue_branch h rfl ?_
  simp only [jumpRegBody, hf, Bool.false_eq_true, if_false, strand_atIssue, setWidth_and_three aligned, ne_eq, not_true]
  rfl

theorem issue_jal {rd : BitVec 5} {disp : BitVec 21} (h : Issues w { branch := true, writes := [rd] } s) :
    issue w { branch := true, writes := [rd] } (jalBody rd disp) s = branched w s
      ((atIssue w s).modStrand w.core w.strand fun x => x.putG (slotOf w s) rd ((x.pc + 8).setWidth 32))
      (some ((strandAt w s).pc + BitVec.ofInt 48 (4 * disp.toInt))) (some rd) ([rd].filter (· ≠ 0)) := issue_branch h rfl rfl

theorem issue_bc {cond : BitVec 4} {disp : BitVec 22} {holds : Bool} (h : Issues w { branch := true } s)
    (hc : condHolds cond (strandAt w s).flags = some holds) :
    issue w { branch := true } (bcBody cond disp) s = branched w s (atIssue w s)
      (if holds then some ((strandAt w s).pc + BitVec.ofInt 48 (4 * disp.toInt)) else none) none [] := by
  refine issue_branch h rfl ?_
  simp only [bcBody, strand_atIssue, hc, branchTarget]

/-- Settles O5: each branch's body answers with the delay slot; a barred branch is an illegal instruction. -/
theorem branchesGoOnInTheDelaySlot : Obligations.BranchesGoOnInTheDelaySlot := by
  unfold Obligations.BranchesGoOnInTheDelaySlot
  refine ⟨?_, fun w rd disp s h => next_congr (issue_jal h), ?_, fun w o rd link cond disp s p hp barred => ?_⟩
  · intro w o s a hf aligned
    exact ⟨fun h => next_congr (issue_jumpReg false h hf aligned), fun h => next_congr (issue_jumpReg true h hf aligned)⟩
  · intro w cond disp s h hc f holds
    have table (n : Nat) (hn : n < 16) (e : cond.toNat = n) : condHolds cond f = some holds := by
      interval_cases n <;> simp only [condHolds, holds, e]
      exact absurd (BitVec.eq_of_toNat_eq e) hc
    exact next_congr (issue_bc h (table _ cond.isLt rfl))
  · simp only [List.mem_cons, List.not_mem_nil, or_false] at hp
    rcases hp with rfl | rfl | rfl | rfl <;> exact next_congr (issue_barred barred _)

/-! ### LOOP and the counted waits -/

theorem issue_loop {o : OpL} (h : Issues w { noDelay := true } s) (hl : o.last ≠ 0) (hc : o.i = false → o.count.toNat < 32) :
    let pc := (strandAt w s).pc
    let count : W32 := if o.i then o.count.setWidth 32 else (strandAt w s).rg (o.count.setWidth 5)
    let last := pc + BitVec.ofNat 48 (4 * o.last.toNat)
    let t := (atIssue w s).modStrand w.core w.strand fun x =>
      if o.n then { x with l1 := ⟨pc + 4, last, count⟩ } else { x with l0 := ⟨pc + 4, last, count⟩ }
    issue w { noDelay := true } (loopBody o) s = if count = 0
      then (t.modStrand w.core w.strand fun x => x.goOn (last + (if o.wide then 8 else 4))).issued w.core w.strand (slotOf w s)
      else passed w 4 s t := by
  intro pc count last t
  have legal : ¬ (o.last = 0 ∨ o.i = false ∧ 32 ≤ o.count.toNat) := by
    rintro (h0 | ⟨hi, big⟩)
    · exact hl h0
    · exact absurd (hc hi) (Nat.not_lt.2 big)
  have body : loopBody o (envOf w s) (atIssue w s) = if count = 0 then .goto t (last + (if o.wide then 8 else 4)) else .done t := by
    simp only [loopBody, if_neg legal]
    rfl
  by_cases zero : count = 0
  · rw [if_pos zero] at body ⊢
    exact issue_goto h body
  · rw [if_neg zero] at body ⊢
    exact issue_done h body

/-- A counted wait ends at once when its counter is low enough. -/
theorem issue_countedWait {body : Env → State → Res} {c : Prop} [Decidable c] {why : WaitWhy} {lost : Lost} (h : Issues w {} s)
    (hb : body (envOf w s) (atIssue w s) = if c then .done (atIssue w s) else .wait (atIssue w s) (.waiting why) (some lost)) :
    issue w {} body s = if c then passed w 4 s (atIssue w s) else waits w s (atIssue w s) (.waiting why) (some lost) := by
  by_cases low : c
  · rw [if_pos low] at hb ⊢
    exact issue_done h hb
  · rw [if_neg low] at hb ⊢
    exact issue_wait h hb (by simp)

theorem issue_waitl {n : BitVec 4} (h : Issues w {} s) (hn : n.toNat ≤ 8) :
    issue w {} (waitlBody n) s = if (strandAt w s).loads.length ≤ n.toNat then passed w 4 s (atIssue w s)
      else waits w s (atIssue w s) (.waiting (.loads n.toNat)) (some .loads) :=
  issue_countedWait h (by simp only [waitlBody, if_neg (Nat.not_lt.2 hn)]; rfl)

theorem issue_waitm {n : BitVec 4} (h : Issues w {} s) (hn : n.toNat ≤ 2) :
    issue w {} (waitmBody n) s = if (strandAt w s).matrix ≤ n.toNat then passed w 4 s (atIssue w s)
      else waits w s (atIssue w s) (.waiting (.matrix n.toNat)) (some .matrix) :=
  issue_countedWait h (by simp only [waitmBody, if_neg (Nat.not_lt.2 hn)]; rfl)

/-- Settles O6: each by what its body answers. -/
theorem loopsAndCountedWaits : Obligations.LoopsAndCountedWaits := by
  unfold Obligations.LoopsAndCountedWaits
  exact ⟨fun w o s h hl hc => next_congr (issue_loop h hl hc),
    fun w n s h => ⟨fun hn => next_congr (issue_waitl h hn), fun hn => next_congr (issue_waitm h hn)⟩⟩

end Sys2Proof.Machine
end

section
/-! PROOF. The strand control registers and the CSR instructions (R134, R135, R166, Tables 5-5 and 6-4). -/

namespace Sys2Proof.Machine

variable {w : Who} {s : State} {r : BitVec 5} {num : BitVec 12} {c : Csr}

/-- A register by its number, read. -/
def csrValue (k i t : Nat) (x : Strand) (n : BitVec 12) : Option W48 := (csrOf k n).map fun c => c.value k i t x

section Values
variable (k i t : Nat) (x : Strand)

theorem csrValue_whoami (hk : k < 480) : csrValue k i t x 0x003 = some (BitVec.ofNat 48 (i + 4 * k)) := by
  have plain : isSteward k = false := by simpa [isSteward] using hk
  simp only [csrValue, show csrOf k 0x003 = some .whoami from rfl, Option.map_some, Csr.value, whoNumber, plain, bit]
  rfl

theorem csrValue_abase (n : Fin 8) : csrValue k i t x (BitVec.ofNat 12 (0x020 + n)) = some ((vget x.abase n).setWidth 48) := by
  fin_cases n <;> rfl

theorem csrValue_actl (n : Fin 8) : csrValue k i t x (BitVec.ofNat 12 (0x028 + n)) = some ((vget x.actl n).setWidth 48) := by
  fin_cases n <;> rfl

theorem csrValue_timecmpHi : csrValue k i t x 0x113 = some (BitVec.ofNat 48 (x.timecmp.toNat / 4294967296)) := by
  have fits : x.timecmp.toNat / 2 ^ 32 % 2 ^ 32 = x.timecmp.toNat / 4294967296 := by omega
  simp only [csrValue, show csrOf k 0x113 = some .timecmpHi from rfl, Option.map_some, Csr.value, fld_eq, fits]

/-- SXEN is a register of steward cores alone (R169). -/
theorem csrOf_sxen : csrOf k 0x120 = if isSteward k then some .sxen else none := rfl

end Values

/-- A register that the strand may touch raises no cause 0x02 (R166). -/
theorem mayTouch_eq (h : mayTouch w s c) : (c.sLevel && !(strandAt w s).handler w.core) = false := by
  cases hs : c.sLevel
  · rfl
  · rw [h hs]
    rfl

/-- What a read of a register leaves beside the value: CYCLE_LO latches CYCLE_HI (Table 5-5). -/
def csrLatched (w : Who) (s : State) (c : Csr) (x : Strand) : Strand :=
  if c = .cycleLo then { x with cycleHi := BitVec.ofNat 32 (slotOf w s / 4294967296) } else x

theorem issue_csrRead {info : Info} {toA : Bool} (h : Issues w info s) (hl : info.len = 4) (hr : toA = true → r.toNat < 8)
    (hc : csrOf w.core num = some c) (may : mayTouch w s c) :
    let v := c.value w.core w.strand (slotOf w s) (strandAt w s)
    issue w info (csrReadBody toA r num) s = changed w s fun x =>
      if toA then (csrLatched w s c x).wa (r.setWidth 3) v else (csrLatched w s c x).putG (slotOf w s) r (v.setWidth 32) := by
  have inRange : (toA && decide (8 ≤ r.toNat)) = false := by
    cases toA
    · rfl
    · simpa using hr rfl
  intro v
  unfold changed
  rw [← hl]
  refine issue_done h ?_
  have core : csrOf (envOf w s).k num = some c := hc
  have allowed : (c.sLevel && !(strandAt w s).handler (envOf w s).k) = false := mayTouch_eq may
  simp only [csrReadBody, inRange, core, strand_atIssue, allowed, Bool.false_eq_true, if_false]
  rfl

theorem issue_csrWrite {fromA : Bool} (h : Issues w {} s) (hr : fromA = true → r.toNat < 8) (hc : csrOf w.core num = some c)
    (may : mayTouch w s c) :
    let v : W48 := if fromA then (strandAt w s).ra (r.setWidth 3) else ((strandAt w s).rg r).setWidth 48
    c.readOnly = false → ¬ (c = .status ∧ (strandAt w s).priv = 0 ∧ v.getLsbD 0 ≠ (strandAt w s).mask) →
      issue w {} (csrWriteBody fromA r num) s = changed w s fun x => c.store w.core fromA v x := by
  intro v writable kept
  have inRange : (fromA && decide (8 ≤ r.toNat)) = false := by
    cases fromA
    · rfl
    · simpa using hr rfl
  refine issue_done h ?_
  have core : csrOf (envOf w s).k num = some c := hc
  have allowed : (c.sLevel && !(strandAt w s).handler (envOf w s).k) = false := mayTouch_eq may
  simp only [csrWriteBody, inRange, core, strand_atIssue, allowed, writable, Bool.false_eq_true, if_false]
  exact if_neg kept

/-- Settles O7: the values by number, most of them by the table itself; each instruction by its body's law. -/
theorem controlRegisters : Obligations.ControlRegisters := by
  unfold Obligations.ControlRegisters
  refine ⟨?_, ?_⟩
  · intro k i t x val
    refine ⟨rfl, rfl, rfl, csrValue_whoami k i t x, rfl, rfl, rfl, rfl, rfl, rfl,
      fun n => ⟨csrValue_abase k i t x n, csrValue_actl k i t x n⟩, rfl, rfl, rfl, rfl, rfl, rfl, rfl, rfl, rfl, rfl, rfl, rfl, rfl, rfl, rfl,
      rfl, rfl, csrValue_timecmpHi k i t x, fun hk => ?_, fun hk => ?_⟩
    · simp only [val, csrOf_sxen, isSteward, decide_eq_true_eq, if_neg (Nat.not_le.2 hk), Option.map_none]
    · simp only [val, csrOf_sxen, isSteward, decide_eq_true_eq, if_pos hk, Option.map_some, Csr.value]
  · intro w r num c s hc may v latched g a open_
    refine ⟨fun h => next_congr (issue_csrRead (toA := false) h rfl nofun hc may), fun h => ⟨fun hr => ?_, fun ho => ?_, fun hr ho => ?_⟩⟩
    · exact next_congr (issue_csrRead (toA := true) h rfl (fun _ => hr) hc may)
    · exact next_congr (issue_csrWrite (fromA := false) h nofun hc may ho.1 ho.2)
    · exact next_congr (issue_csrWrite (fromA := true) h (fun _ => hr) hc may ho.1 ho.2)

end Sys2Proof.Machine
end

section
/-! SUPPORT. What reports to the host and measurements leave alone: everything but the host's state, the measurements, the notices and the
registers (R386, R391, R405, R446). -/

namespace Sys2Proof.Machine

/-- A state after reports to the host and measurements: what they never change, and the canonical form of the registers. -/
structure Reports (s t : State) : Prop where
  mem : t.mem = s.mem
  cores : t.cores = s.cores
  clusters : t.clusters = s.clusters
  msgs : t.msgs = s.msgs
  waiters : t.waiters = s.waiters
  net : t.net = s.net
  ext : t.ext = s.ext
  trail : t.trail = s.trail
  parts : t.parts = s.parts
  time : t.time = s.time
  phys : t.phys = s.phys
  traces : t.traces = s.traces
  stops : t.stops = s.stops
  free : t.free = s.free
  pending : t.pending = s.pending
  form : Sparse.wf regReset s.regs = true → Sparse.wf regReset t.regs = true

theorem Reports.refl (s : State) : Reports s s := ⟨rfl, rfl, rfl, rfl, rfl, rfl, rfl, rfl, rfl, rfl, rfl, rfl, rfl, rfl, rfl, id⟩

theorem Reports.trans {s t u : State} (h : Reports s t) (g : Reports t u) : Reports s u :=
  ⟨g.mem.trans h.mem, g.cores.trans h.cores, g.clusters.trans h.clusters, g.msgs.trans h.msgs, g.waiters.trans h.waiters, g.net.trans h.net,
    g.ext.trans h.ext, g.trail.trans h.trail, g.parts.trans h.parts, g.time.trans h.time, g.phys.trans h.phys, g.traces.trans h.traces,
    g.stops.trans h.stops, g.free.trans h.free, g.pending.trans h.pending, fun w => g.form (h.form w)⟩

theorem Reports.foldl {α : Type} {f : State → α → State} (h : ∀ s x, Reports s (f s x)) (l : List α) (s : State) :
    Reports s (l.foldl f s) := by
  induction l generalizing s with
  | nil => exact .refl s
  | cons x l ih => exact (h s x).trans (ih (f s x))

theorem Reports.ite {c : Prop} [Decidable c] {s t u : State} (h : Reports s t) (g : Reports s u) : Reports s (if c then t else u) := by
  split
  · exact h
  · exact g

variable (s : State)

theorem reports_setReg (a : Nat) (v : W64) : Reports s (s.setReg a v) :=
  ⟨rfl, rfl, rfl, rfl, rfl, rfl, rfl, rfl, rfl, rfl, rfl, rfl, rfl, rfl, rfl, fun w => Sparse.wf_set w a v⟩
theorem reports_setRf (a : Nat) (f : Fld) (v : Nat) : Reports s (s.setRf a f v) := reports_setReg s a _
theorem reports_bump (a : Nat) (f : Fld) (n : Nat) : Reports s (s.bump a f n) := reports_setRf s a f _

theorem reports_modHost (f : HostState → HostState) : Reports s (s.modHost f) :=
  ⟨rfl, rfl, rfl, rfl, rfl, rfl, rfl, rfl, rfl, rfl, rfl, rfl, rfl, rfl, rfl, id⟩
theorem reports_modSession (n : Nat) (f : Session → Session) : Reports s (s.modSession n f) := reports_modHost s _
theorem reports_sec (x : SecState) : Reports s { s with sec := x } :=
  ⟨rfl, rfl, rfl, rfl, rfl, rfl, rfl, rfl, rfl, rfl, rfl, rfl, rfl, rfl, rfl, id⟩
theorem reports_notices (l : List Notice) : Reports s { s with notices := l } :=
  ⟨rfl, rfl, rfl, rfl, rfl, rfl, rfl, rfl, rfl, rfl, rfl, rfl, rfl, rfl, rfl, id⟩

theorem reports_extend (slot : Nat) (record : List Byte) : Reports s (s.extend slot record) := reports_sec s _
theorem reports_measure (code slot session : Nat) (params : List Byte) (digest : Option (BitVec 256)) :
    Reports s (s.measure code slot session params digest) := reports_extend s _ _
theorem reports_measureDebug (opcode session : Nat) (params : List Byte) (digest : Option (BitVec 256)) :
    Reports s (s.measureDebug opcode session params digest) := (reports_measure s _ _ _ _ _).trans (reports_sec _ _)

/-! ### Packets to the host -/

theorem reports_frameOut : Reports s s.frameOut := by
  unfold State.frameOut
  exact .ite ((reports_bump s _ _ _).trans (reports_bump _ _ _ _)) (reports_bump s _ _ _)

theorem reports_transmitRaw (dest : Peer) (p : KPkt) : Reports s (State.transmitRaw dest p s) := by
  unfold State.transmitRaw
  exact .ite ((reports_frameOut s).trans (reports_modHost _ _)) (.refl s)

section
variable {tx : Peer → KPkt → State → State} (htx : ∀ d p s, Reports s (tx d p s))
include htx

theorem reports_drain (n f : Nat) : Reports s (drain tx n f s) := by
  induction f generalizing s with
  | zero => exact .refl s
  | succ f ih =>
    unfold drain
    split
    · exact .refl s
    · split
      · exact .refl s
      · exact .ite (.refl s) (((reports_modSession s _ _).trans (htx _ _ _)).trans (ih _))

theorem reports_sendIn (n : Nat) (p : KPkt) (place : Option (Nat × Nat)) : Reports s (sendIn tx n p place s) := by
  unfold sendIn
  split
  · exact .refl s
  · exact (reports_modSession s _ _).trans (reports_drain _ htx _ _)

theorem reports_sendEvent (dest : To) (code part : Nat) (data : List Byte) (place : Option (Nat × Nat)) :
    Reports s (sendEvent tx dest code part data place s) := by
  unfold sendEvent
  exact .foldl (fun s _ => reports_sendIn s htx _ _ _) _ s

end

theorem reports_transmit (dest : Peer) (p : KPkt) : Reports s (State.transmit dest p s) := by
  unfold State.transmit
  have out := reports_transmitRaw s dest p
  exact .ite (out.trans (reports_sendEvent _ (fun d p s => reports_transmitRaw s d p) _ _ _ _ _)) out

theorem reports_sendPkt (n : Nat) (p : KPkt) : Reports s (s.sendPkt n p) := reports_sendIn s (fun d p s => reports_transmit s d p) _ _ _
theorem reports_event (dest : To) (code part : Nat) (data : List Byte) : Reports s (s.event dest code part data) :=
  reports_sendEvent s (fun d p s => reports_transmit s d p) _ _ _ _ _

theorem reports_reply (h : KHdr) (opcode flags status detail : Nat) (data : List Byte) :
    Reports s (s.reply h opcode flags status detail data) := by
  unfold State.reply
  exact .ite (reports_transmit s _ _) (reports_sendPkt s _ _)

theorem reports_endCommand (h : KHdr) : Reports s (s.endCommand h) := reports_modSession s _ _
theorem reports_endPending (k : KPending) (status detail : Nat) (data : List Byte) : Reports s (s.endPending k status detail data) :=
  ((reports_modHost s _).trans (reports_reply _ _ _ _ _ _ _)).trans (reports_endCommand _ _)

theorem reports_settleHalts : Reports s s.settleHalts := by
  unfold State.settleHalts
  refine .foldl (fun s k => ?_) _ s
  split
  · exact (reports_measureDebug s _ _ _ _).trans (reports_endPending _ _ _ _ _)
  · exact .refl s

theorem reports_noticeEvent (n : Notice) : Reports s (s.noticeEvent n) := by
  cases n with
  | restStop k i => exact reports_event s _ _ _ _
  | memError k i pa code => exact .ite (reports_event s _ _ _ _) (.refl s)
  | sramError k st off => exact reports_event s _ _ _ _
  | clmError u off => exact reports_event s _ _ _ _
  | translation u => exact .refl s
  | poisoned m off => exact .refl s

theorem reports_note (n : Notice) : Reports s (s.note n) :=
  ((reports_notices s _).trans (reports_noticeEvent _ n)).trans (reports_settleHalts _)

end Sys2Proof.Machine
end

section
/-! PROOF. Accesses to local stores (R158, R160, Table 5-14). -/

namespace Sys2Proof.Machine

variable {w : Who} {o : OpM} {s : State}

/-- An error of a store's code is counted, recorded and notified; the bytes stay (R209). -/
theorem reports_storeEcc (s : State) (k : Nat) (st : Store) (off : Nat) (ecc : Option Bool) : Reports s (s.storeEcc k st off ecc) := by
  match ecc with
  | none => exact .refl s
  | some false => exact reports_bump s _ _ _
  | some true => exact (((reports_bump s _ _ _).trans (reports_setRf _ _ _ _)).trans (reports_setRf _ _ _ _)).trans (reports_note _ _)

/-- The number that bytes of memory hold is told by the memory alone. -/
theorem State.num_congr {s t : State} (h : t.mem = s.mem) (a n : Nat) : t.num a n = s.num a n := by
  simp only [State.num, State.bytes, State.byte, h]

/-- A read of a store whose code is not past correction returns its bytes (R209). -/
theorem State.readStore_sound (s : State) (k : Nat) (st : Store) (off n : Nat) {ecc : Option Bool} (h : ecc ≠ some true) :
    s.readStore k st off n ecc = (s.num (storeBase k st + off) n, s.storeEcc k st off ecc) := by
  rw [State.readStore, if_neg h, State.num_congr (reports_storeEcc s k st off ecc).mem]

/-- Where a load puts what it has read (Table 5-14). -/
def loaded (w : Who) (s : State) (o : OpM) (d : Nat) (x : Strand) : Strand :=
  if o.sz.toNat < 5 then x.putG (slotOf w s) o.rt (loadExtend o.sz d)
  else if o.sz = 5#3 then x.wa (o.rt.setWidth 3) (BitVec.ofNat 48 d)
  else x.putV (slotOf w s) o.rt (BitVec.ofNat 1024 d)

theorem loadDst_cases (h : sizeBad o = false) :
    (o.sz.toNat < 5 ∧ loadDst o = .g o.rt (sizeSigned o.sz)) ∨ (o.sz = 5#3 ∧ loadDst o = .a (o.rt.setWidth 3)) ∨
      (o.sz = 6#3 ∧ loadDst o = .v o.rt) := by
  have unused : o.sz ≠ 7#3 := by
    intro e
    simp [sizeBad, e] at h
  have cases (n : Nat) (hn : n < 8) (e : o.sz.toNat = n) : o.sz.toNat < 5 ∨ o.sz = 5#3 ∨ o.sz = 6#3 ∨ o.sz = 7#3 := by
    interval_cases n <;> simp [BitVec.toNat_eq, e]
  rcases cases _ o.sz.isLt rfl with small | five | six | seven
  · refine .inl ⟨small, ?_⟩
    generalize e : o.sz.toNat = n at small
    interval_cases n <;> simp only [loadDst, e]
  · exact .inr (.inl ⟨five, by simp [loadDst, five]⟩)
  · exact .inr (.inr ⟨six, by simp [loadDst, six]⟩)
  · exact absurd seven unused

/-- The body of LDL: where the datum goes, by the size. -/
theorem loaded_eq (h : sizeBad o = false) (d : Nat) (x : Strand) :
    (match loadDst o with
      | .g r _ => x.putG (slotOf w s) r (loadExtend o.sz d)
      | .a r => x.wa r (BitVec.ofNat 48 d)
      | .v r => x.putV (slotOf w s) r (BitVec.ofNat 1024 d)
      | .frag _ _ _ _ => x) = loaded w s o d x := by
  rcases loadDst_cases h with ⟨small, dst⟩ | ⟨five, dst⟩ | ⟨six, dst⟩
  · rw [dst, loaded, if_pos small]
  · rw [dst, loaded, if_neg (by simp [five]), if_pos five]
  · rw [dst, loaded, if_neg (by simp [six]), if_neg (by simp [six])]

section
variable (legal : sizeBad o = false) (there : noStore w.core o.st = false)
  (aligned : (eaOf w s o (accessSize o.sz)).1.toNat % accessSize o.sz = 0)
  (inside : (atIssue w s).storeFault w.core (storeOf o.st) (eaOf w s o (accessSize o.sz)).1.toNat (accessSize o.sz) = none)
include legal there aligned inside

theorem issue_stl (h : Issues w {} s) :
    let ea := eaOf w s o (accessSize o.sz)
    issue w {} (stlBody o) s = passed w 4 s (((atIssue w s).setBytes (storeBase w.core (storeOf o.st) + ea.1.toNat)
      (storeBytes (strandAt w s) o)).modStrand w.core w.strand fun x => x.postModify o.an ea.2) := by
  refine issue_done h ?_
  simp only [eaOf] at aligned inside
  simp only [stlBody, envOf_k, envOf_i, strandAt_eq, legal, there, aligned, inside, Bool.or_self, Bool.false_eq_true, ne_eq, not_true, if_false]
  rfl

theorem issue_ldl (h : Issues w (memInfo o) s) (sound : w.ecc ≠ some true) :
    let ea := eaOf w s o (accessSize o.sz)
    let st := storeOf o.st
    issue w (memInfo o) (ldlBody o) s = passed w 4 s (((atIssue w s).storeEcc w.core st ea.1.toNat w.ecc).modStrand w.core w.strand fun x =>
      loaded w s o ((atIssue w s).num (storeBase w.core st + ea.1.toNat) (accessSize o.sz)) (x.postModify o.an ea.2)) := by
  refine issue_done h ?_
  simp only [eaOf] at aligned inside
  simp only [ldlBody, envOf_k, envOf_i, envOf_t, envOf_ecc, strandAt_eq, legal, there, aligned, inside, Bool.or_self, Bool.false_eq_true,
    ne_eq, not_true, if_false, State.readStore_sound _ _ _ _ _ sound, ← loaded_eq (w := w) (s := s) legal]
  rfl

end

/-- Settles O9: the bodies of STL and LDL past their checks. -/
theorem localStoreAccess : Obligations.LocalStoreAccess := by
  unfold Obligations.LocalStoreAccess
  intro w o s n ea up st at_ legal there aligned inside
  exact ⟨fun h => next_congr (issue_stl legal there aligned inside h), fun h sound => next_congr (issue_ldl legal there aligned inside h sound)⟩

end Sys2Proof.Machine
end

section
/-! PROOF. Accesses to memory and the cache instructions (R29, R147, R161 to R163, R216, R217). -/

namespace Sys2Proof.Machine

variable {w : Who} {o : OpM} {s : State}

theorem inMemory (h : o.st = 0) : (o.st != 0#2) = false := by rw [h]; rfl

section
variable (legal : sizeBad o = false) (plain : o.st = 0) (aligned : (eaOf w s o (accessSize o.sz)).1.toNat % accessSize o.sz = 0)
include legal plain aligned

/-! ### LD -/

theorem issue_ld_window (h : Issues w (memInfo o) s) (room : (strandAt w s).loads.length < 8) :
    let ea := (eaOf w s o (accessSize o.sz)).1
    inWindow ea = true → 1 ≤ (strandAt w s).priv → accessSize o.sz = 8 →
    (atIssue w s).windowAllows w.core false (windowOffset ea) = true →
      issue w (memInfo o) (ldBody o) s
        = counted w s (atIssue w s) o ⟨windowOffset ea, 8, loadDst o, none, .register (windowOffset ea)⟩ := by
  intro ea win level size allowed
  refine issue_done h ?_
  simp only [ea, eaOf, size] at aligned win allowed
  have user : ((strandAt w s).priv == 0) = false := by simpa using Nat.ne_of_gt level
  simp only [ea, eaOf, ldBody, envOf_k, envOf_i, strandAt_eq, legal, inMemory plain, win, user, aligned, size, allowed, Strand.lcnt,
    Nat.not_le.2 room,
    bne_self_eq_false, Bool.or_self, Bool.and_false, Bool.false_eq_true, ne_eq, not_true, decide_false, if_false, if_true]

theorem issue_ld_memory (h : Issues w (memInfo o) s) (room : (strandAt w s).loads.length < 8) {pa : Nat} {nc : Bool} {key : Option Nat}
    {t : State} :
    let ea := (eaOf w s o (accessSize o.sz)).1
    inWindow ea = false → (atIssue w s).xlateFor w.core w.strand .load ea.toNat = (.ok pa nc key, t) →
      let p := t.loadPart w.core pa (accessSize o.sz) nc (loadDst o) key
      issue w (memInfo o) (ldBody o) s = counted w s p.2 o p.1 := by
  intro ea win found
  refine issue_done h ?_
  simp only [ea, eaOf] at aligned win found
  simp only [eaOf, ldBody, envOf_k, envOf_i, strandAt_eq, legal, inMemory plain, win, aligned, found, Strand.lcnt, Nat.not_le.2 room,
    Bool.or_self, Bool.false_and, Bool.false_eq_true, ne_eq, not_true, decide_false, if_false]

/-! ### ST -/

theorem issue_st_window (h : Issues w {} s) :
    let ea := eaOf w s o (accessSize o.sz)
    inWindow ea.1 = true → 1 ≤ (strandAt w s).priv → accessSize o.sz = 8 →
    (atIssue w s).windowAllows w.core true (windowOffset ea.1) = true → ((atIssue w s).core w.core).storeq.length < 16 →
      issue w {} (stBody o) s = passed w 4 s (((atIssue w s).newTag.2.modCore w.core fun c => { c with storeq := c.storeq ++
        [⟨w.strand, .reg (windowOffset ea.1), storeBytes (strandAt w s) o, (atIssue w s).newTag.1⟩] }).modStrand w.core w.strand fun x =>
          x.postModify o.an ea.2) := by
  intro ea win level size allowed room
  refine issue_done h ?_
  simp only [ea, eaOf, size] at aligned win allowed
  have user : ((strandAt w s).priv == 0) = false := by simpa using Nat.ne_of_gt level
  simp only [ea, eaOf, stBody, envOf_k, envOf_i, strandAt_eq, legal, inMemory plain, win, user, aligned, size, allowed, Nat.not_le.2
    room, Bool.or_self, Bool.and_false, Bool.true_and, Bool.not_true, Bool.false_eq_true, ne_eq, not_true, decide_false, if_false,
      if_true]
  rfl

theorem issue_st_memory (h : Issues w {} s) {pa : Nat} {nc : Bool} {key : Option Nat} {t : State} :
    let ea := eaOf w s o (accessSize o.sz)
    inWindow ea.1 = false → (atIssue w s).xlateFor w.core w.strand .store ea.1.toNat = (.ok pa nc key, t) →
    (t.core w.core).storeq.length < 16 →
      issue w {} (stBody o) s = passed w 4 s ((t.pushStore w.core w.strand pa nc key (storeBytes (strandAt w s) o)).modStrand
        w.core w.strand fun x => x.postModify o.an ea.2) := by
  intro ea win found room
  refine issue_done h ?_
  simp only [ea, eaOf] at aligned win found
  simp only [ea, eaOf, stBody, envOf_k, envOf_i, strandAt_eq, legal, inMemory plain, win, aligned, found, Nat.not_le.2 room,
    Bool.or_self, Bool.false_and, Bool.false_eq_true, ne_eq, not_true, decide_false, if_false]

end

/-! ### DPICK -/

theorem issue_dpick (h : Issues w { writes := [o.rt] } s) (plain : o.st = 0) (indirect : o.am = 0) (wide : o.sz = 5#3)
    (room : (strandAt w s).loads.length < 8) {pa off : Nat} {nc : Bool} {key : Option Nat} {t : State} :
    let ea := (eaOf w s o 8).1
    ea.toNat % 8 = 0 → inWindow ea = false → (atIssue w s).xlateFor w.core w.strand .pick ea.toNat = (.ok pa nc key, t) →
    t.site pa = .clm (clusterOf w.core) off → w.core < 480 →
      issue w { writes := [o.rt] } (dpickBody o) s
        = passed w 4 s (((t.newTag.2.dropLine w.core (pa / lineBytes)).modStrand w.core w.strand fun y =>
            y.addLoad { parts := [⟨pa, 4, .g o.rt false, key, .wantPick t.newTag.1⟩] }).pump w.core) := by
  intro ea aligned win found site compute
  refine issue_done h ?_
  simp only [ea, eaOf] at aligned win found
  have steward : isSteward w.core = false := by simpa [isSteward] using compute
  have form : (o.am != 0#2 || o.sz != 5#3 || o.st != 0#2) = false := by rw [indirect, wide, plain]; rfl
  simp only [dpickBody, envOf_k, envOf_i, strandAt_eq, form, win, aligned, found, site, steward, Strand.lcnt, Nat.not_le.2 room,
    bne_self_eq_false, Bool.or_self, Bool.false_and, Bool.false_eq_true, ne_eq, not_true, if_false]

/-- Settles O10: the bodies of LD, ST and DPICK past their checks. -/
theorem memoryAccess : Obligations.MemoryAccess := by
  unfold Obligations.MemoryAccess
  intro w o s n ea up x legal plain aligned
  refine ⟨fun h room => ⟨?_, ?_⟩, fun h => ⟨?_, ?_⟩, ?_⟩
  · exact fun win level size allowed => next_congr (issue_ld_window legal plain aligned h room win level size allowed)
  · exact fun pa nc key t win found => next_congr (issue_ld_memory legal plain aligned h room win found)
  · exact fun win level size allowed room => next_congr (issue_st_window legal plain aligned h win level size allowed room)
  · exact fun pa nc key t win found room => next_congr (issue_st_memory legal plain aligned h win found room)
  · intro h indirect wide win room pa nc key off t found site compute
    have eight : accessSize o.sz = 8 := by rw [wide]; rfl
    simp only [ea, n, eight] at aligned win found
    exact next_congr (issue_dpick h plain indirect wide room aligned win found site compute)

end Sys2Proof.Machine
end

section
/-! PROOF. The cache instructions (R162, R216, R217). -/

namespace Sys2Proof.Machine

variable {w : Who} {o : OpM} {s : State}

/-- The field checks of the CACHE major pass (R162). -/
theorem cacheBad_eq_false {op : Nat} (hr : o.rt.toNat = op) (hz : o.sz = 0) (hs : o.st = 0) : cacheBad o op = false := by
  simp only [cacheBad, hr, hz, hs, ne_eq, not_true, decide_false, Bool.false_or]
  rfl

section
variable (h : Issues w {} s) (hz : o.sz = 0) (hs : o.st = 0) (form : formBad o.am o.d = false)
include h hz hs

theorem issue_cinvAll (hr : o.rt = 3) : issue w {} (cinvAllBody o) s = passed w 4 s ((atIssue w s).dropAllLines w.core) :=
  issue_done h (by simp only [cinvAllBody, cacheBad_eq_false (op := 3) (congrArg BitVec.toNat hr) hz hs]; rfl)

include form

theorem issue_pref (hr : o.rt = 0) :
    issue w {} (prefBody o) s = passed w 4 s (((atIssue w s).prefetch w.core w.strand (eaOf w s o 128).1).modStrand w.core w.strand fun
      x =>
      x.postModify o.an (eaOf w s o 128).2) :=
  issue_done h (by simp only [prefBody, cacheBad_eq_false (op := 0) (congrArg BitVec.toNat hr) hz hs, form]; rfl)

theorem issue_prefS (hr : o.rt = 1) (am : o.am = 1#2) :
    issue w {} (prefSBody o) s = changed w s fun x => { x with hint := vset x.hint o.an.toNat (x.rg (o.d.setWidth 5)) } :=
  issue_done h (by
    have indexed : (o.am != 1#2) = false := by rw [am]; rfl
    simp only [prefSBody, cacheBad_eq_false (op := 1) (congrArg BitVec.toNat hr) hz hs, form, indexed]
    rfl)

theorem issue_cinv (hr : o.rt = 2) (again : (strandAt w s).invDrop = false) (win : inWindow (eaOf w s o 128).1 = false) {pa : Nat}
    {nc : Bool}
    {key : Option Nat} {t : State} (found : (atIssue w s).xlateFor w.core w.strand .inv (eaOf w s o 128).1.toNat = (.ok pa nc key, t)) :
    issue w {} (cinvBody o) s = passed w 4 s ((t.dropLine w.core (pa / 128)).modStrand w.core w.strand fun x =>
      { (x.postModify o.an (eaOf w s o 128).2) with invDrop := false }) := by
  refine issue_done h ?_
  simp only [eaOf] at win found
  simp only [cinvBody, lineBytes, cacheBad_eq_false (op := 2) (congrArg BitVec.toNat hr) hz hs, form, envOf_k, envOf_i, strandAt_eq, win,
    again, found,
    Bool.or_self, Bool.false_eq_true, if_false]
  rfl

end

/-- Settles O11: the bodies of the cache instructions past their checks. -/
theorem cacheInstructions : Obligations.CacheInstructions := by
  unfold Obligations.CacheInstructions
  intro w o s h hz hs ea up
  refine ⟨fun hr form => next_congr (issue_pref h hz hs form hr), fun hr form am => next_congr (issue_prefS h hz hs form hr am),
    fun hr form again win pa nc key t found => next_congr (issue_cinv h hz hs form hr again win found),
    fun hr => next_congr (issue_cinvAll h hz hs hr)⟩

end Sys2Proof.Machine
end

section
/-! PROOF. Address-register arithmetic (R157, R158). -/

namespace Sys2Proof.Machine

variable {w : Who} {s : State}

/-- Bits 47:32 set over a word of 32 bits. -/
theorem setFld_high (g h : W32) :
    setFld (g.setWidth 48) 47 32 h.toNat = BitVec.ofNat 48 (h.toNat % 65536 * 4294967296 + g.toNat) := by
  have low : (g.setWidth 48).toNat = g.toNat := by rw [BitVec.toNat_setWidth]; omega
  have empty : fld (g.setWidth 48) 47 32 = 0 := by rw [fld_eq, low]; omega
  rw [setFld, low, empty, Nat.zero_mul, Nat.sub_zero, Nat.add_comm]
  norm_num

/-- A sum that stays within 48 bits. -/
theorem toNat_add_ofInt (a : W48) {d : Int} (lo : 0 ≤ (a.toNat : Int) + d) (hi : (a.toNat : Int) + d < 281474976710656) :
    ((a + BitVec.ofInt 48 d).toNat : Int) = a.toNat + d := by
  rw [BitVec.toNat_add, BitVec.toNat_ofInt]
  have := a.isLt
  omega

/-- The one correction of a sum into a buffer (R157). -/
theorem moduloStep_toNat {a b : W48} {len : Nat} {d : Int} (hn : len ≠ 0) (below : len ≤ b.toNat)
    (above : b.toNat + 2 * len < 281474976710656) (ha : b.toNat ≤ a.toNat) (ha' : a.toNat < b.toNat + len) (hd : -(len : Int) < d)
    (hd' : d < len) :
    (moduloStep a b len d).toNat = (if (a.toNat : Int) + d < b.toNat then (a.toNat : Int) + d + len
      else if (b.toNat : Int) + len ≤ a.toNat + d then (a.toNat : Int) + d - len else (a.toNat : Int) + d).toNat := by
  have sum := toNat_add_ofInt a (d := d) (by omega) (by omega)
  have top : (b + BitVec.ofNat 48 len).toNat = b.toNat + len := by
    rw [BitVec.toNat_add, BitVec.toNat_ofNat]
    omega
  simp only [moduloStep, if_neg hn, top]
  generalize a + BitVec.ofInt 48 d = t at sum ⊢
  split
  · rw [BitVec.toNat_sub, BitVec.toNat_ofNat]
    omega
  · split
    · rw [BitVec.toNat_add, BitVec.toNat_ofNat]
      omega
    · omega

/-- Settles O12: the instructions by their bodies, the update by its one correction. -/
theorem addressArithmetic : Obligations.AddressArithmetic := by
  unfold Obligations.AddressArithmetic
  refine ⟨fun w ad as imm g h s hi => ⟨next_congr (issue_done hi rfl), next_congr (issue_done hi rfl), ?_, next_congr
    (issue_done hi rfl)⟩,
    fun a base ctl d => ⟨fun linear => ?_, ?_⟩⟩
  · refine next_congr (issue_done hi ?_)
    simp only [amovBody, setFld_high]
    rfl
  · simp only [updateAddr, linear]
  · intro circular hn lo len below above ha ha' hd hd'
    simp only [updateAddr, circular]
    exact moduloStep_toNat hn below above ha ha' hd hd'

end Sys2Proof.Machine
end

section
/-! PROOF. The counter instructions, on a counter of the core and on any other (R273, R274, R281, R284). -/

namespace Sys2Proof.Machine

variable {w : Who} {o : OpS} {c : CounterId} {s : State}

/-! ### What each instruction's body answers -/

theorem CtrOp.take_beq_take : (CtrOp.take == CtrOp.take) = true := rfl
theorem CtrOp.watch_beq_take : (CtrOp.watch == CtrOp.take) = false := rfl

section
variable (hc : counterOfNum ((strandAt w s).rg o.rc).toNat = some c)
include hc

/-- SADD and SSET: whether the instruction is an addition. -/
def signalFn (add : Bool) : SyncFn := if add then .sadd else .sset
def signalOp (add : Bool) : CtrOp := if add then .add else .set

theorem issue_signal_own (h : Issues w {} s) (plain : o.inv = false) (own : ownCounter w.core c = true)
    (free : (atIssue w s).fenceTags w.core = []) (add : Bool) {t : State}
    (quiet : (atIssue w s).applySignal (syncAsk w s o c (signalOp add) []) = (none, t)) :
    issue w {} (syncBody (signalFn add) o) s = passed w 4 s t := by
  refine issue_done h ?_
  have legal : SyncFn.bad (signalFn add) o = false := by cases add <;> exact plain
  simp only [syncAsk] at quiet
  cases add <;>
  · simp only [signalFn, signalOp, Bool.false_eq_true, if_true, if_false] at quiet legal ⊢
    simp only [syncBody, legal, envOf_k, envOf_i, strandAt_eq, hc, free, own, List.isEmpty_nil, quiet, Bool.false_eq_true,
      if_true, if_false]

theorem issue_signal_other (h : Issues w {} s) (plain : o.inv = false) (other : ownCounter w.core c = false)
    (free : (atIssue w s).fenceTags w.core = []) (add : Bool) :
    issue w {} (syncBody (signalFn add) o) s
      = waits w s ((atIssue w s).askCounter w.core w.strand (syncAsk w s o c (signalOp add) [])) (.waiting .answer) none := by
  refine issue_wait h ?_ (by simp)
  have legal : SyncFn.bad (signalFn add) o = false := by cases add <;> exact plain
  cases add <;>
  · simp only [signalFn, signalOp, Bool.false_eq_true, if_true, if_false] at legal ⊢
    simp only [syncBody, legal, envOf_k, envOf_i, strandAt_eq, hc, free, other, List.isEmpty_nil, Bool.false_eq_true,
      if_true, if_false]
    rfl

theorem issue_signal_fenced (h : Issues w {} s) (plain : o.inv = false) (fenced : (atIssue w s).fenceTags w.core ≠ []) (add : Bool) :
    issue w {} (syncBody (signalFn add) o) s = waits w s ((atIssue w s).modStrand w.core w.strand fun y =>
      { y with syncOp := some (syncAsk w s o c (signalOp add) ((atIssue w s).fenceTags w.core)) }) (.waiting .fence) none := by
  have busy : ((atIssue w s).fenceTags w.core).isEmpty = false := by simpa using fenced
  have legal : SyncFn.bad (signalFn add) o = false := by cases add <;> exact plain
  refine issue_wait h ?_ (by simp)
  have legal : SyncFn.bad (signalFn add) o = false := by cases add <;> exact plain
  cases add <;>
  · simp only [signalFn, signalOp, Bool.false_eq_true, if_true, if_false] at legal ⊢
    simp only [syncBody, legal, envOf_k, envOf_i, strandAt_eq, hc, busy, Bool.false_eq_true, if_false]
    rfl

theorem issue_saddP (h : Issues w {} s) (plain : o.inv = false) (room : ((atIssue w s).core w.core).storeq.length < 16) :
    let r := atIssue w s
    issue w {} (syncBody .saddP o) s = passed w 4 s (r.newTag.2.modCore w.core fun q =>
      { q with storeq := q.storeq ++ [⟨w.strand, .sig c ((strandAt w s).rg o.ra + o.imm.setWidth 32), [], r.newTag.1⟩] }) := by
  refine issue_done h ?_
  have legal : SyncFn.bad .saddP o = false := plain
  simp only [syncBody, legal, envOf_k, envOf_i, strandAt_eq, hc, Nat.not_le.2 room, Bool.false_eq_true, if_false]

/-- STAKE and SWATCH: whether the instruction takes. -/
def waitFn (take : Bool) : SyncFn := if take then .stake else .swatch
def waitOp (take : Bool) : CtrOp := if take then .take else .watch

/-- The wait that a STAKE or SWATCH brings to a counter of its own core. -/
def ownWait (w : Who) (s : State) (o : OpS) (c : CounterId) (take : Bool) : Waiter :=
  ⟨c, take, (strandAt w s).rg o.ra + o.imm.setWidth 32, some w.strand, epCore w.core, 0, 0⟩

theorem issue_wait_covered (h : Issues w {} s) (own : ownCounter w.core c = true) (take : Bool) {t : State}
    (now : (atIssue w s).ctrWait (ownWait w s o c take) = (true, t)) :
    issue w {} (syncBody (waitFn take) o) s = passed w 4 s (if o.inv then t.dropAllLines w.core else t) := by
  refine issue_done h ?_
  simp only [ownWait] at now
  cases take <;>
  · simp only [waitFn, Bool.false_eq_true, if_true, if_false]
    simp only [syncBody, SyncFn.bad, envOf_k, envOf_i, strandAt_eq, hc, own, CtrOp.take_beq_take, CtrOp.watch_beq_take, now,
      Bool.false_eq_true, if_true, if_false]

theorem issue_wait_asleep (h : Issues w {} s) (own : ownCounter w.core c = true) (take : Bool) {t : State}
    (later : (atIssue w s).ctrWait (ownWait w s o c take) = (false, t)) :
    issue w {} (syncBody (waitFn take) o) s
      = sleepsOn w s (t.modStrand w.core w.strand fun y => { y with syncOp := some (syncAsk w s o c (waitOp take) []) }) c := by
  refine issue_sleep h ?_
  simp only [ownWait] at later
  cases take <;>
  · simp only [waitFn, waitOp, Bool.false_eq_true, if_true, if_false]
    simp only [syncBody, SyncFn.bad, envOf_k, envOf_i, strandAt_eq, hc, own, CtrOp.take_beq_take, CtrOp.watch_beq_take, later,
      Bool.false_eq_true, if_true, if_false]
    rfl

theorem issue_wait_other (h : Issues w {} s) (other : ownCounter w.core c = false) (take : Bool) :
    issue w {} (syncBody (waitFn take) o) s
      = sleepsOn w s ((atIssue w s).askCounter w.core w.strand (syncAsk w s o c (waitOp take) [])) c := by
  refine issue_sleep h ?_
  cases take <;>
  · simp only [waitFn, Bool.false_eq_true, if_true, if_false]
    simp only [syncBody, SyncFn.bad, envOf_k, envOf_i, strandAt_eq, hc, other, Bool.false_eq_true, if_false]
    rfl

theorem issue_sread_own (h : Issues w { writes := [o.ra] } s) (plain : o.inv = false) (zero : o.imm = 0)
    (own : ownCounter w.core c = true) :
    issue w { writes := [o.ra] } (syncBody .sread o) s = passed w 4 s (((atIssue w s).countOp c).modStrand w.core w.strand fun y =>
      y.later (slotOf w s + 7) (.g o.ra (BitVec.ofNat 32 ((atIssue w s).ctrValue c)))) := by
  refine issue_done h ?_
  have legal : SyncFn.bad .sread o = false := by simp [SyncFn.bad, plain, zero]
  simp only [syncBody, legal, envOf_k, envOf_i, envOf_t, strandAt_eq, hc, own, Bool.false_eq_true, if_true, if_false]

theorem issue_sread_other (h : Issues w { writes := [o.ra] } s) (plain : o.inv = false) (zero : o.imm = 0)
    (other : ownCounter w.core c = false) :
    issue w { writes := [o.ra] } (syncBody .sread o) s
      = waits w s ((atIssue w s).askCounter w.core w.strand { syncAsk w s o c .read [] with x := 0 }) (.waiting .answer) none := by
  refine issue_wait h ?_ (by simp)
  have legal : SyncFn.bad .sread o = false := by simp [SyncFn.bad, plain, zero]
  simp only [syncBody, legal, envOf_k, envOf_i, strandAt_eq, hc, other, Bool.false_eq_true, if_false]
  rfl

theorem issue_roll (h : Issues w {} s) (plain : o.inv = false) (zero : o.imm = 0) (none_ : o.ra = 0) :
    let r := atIssue w s
    issue w {} (syncBody .roll o) s = passed w 4 s (if ownCounter w.core c then (r.ctrAdd c 1).2
      else r.inject { kind := .tok, part := r.partOfCore w.core, dst := r.ctrDst w.core c, src := epCore w.core, addr := c.addr }) := by
  refine issue_done h ?_
  have legal : SyncFn.bad .roll o = false := by simp [SyncFn.bad, plain, zero, none_]
  cases own : ownCounter w.core c <;>
  · simp only [syncBody, legal, envOf_k, envOf_i, strandAt_eq, hc, own, Bool.false_eq_true, if_true, if_false]

end

/-! ### The fence of a signal -/

/-- A signal of an own counter that neither overflowed nor underflowed raises no cause (R275). -/
theorem applySignal_add {x : W32} {ask : SyncOp} (ha : ask.op = .add) (hc : ask.ctr = c) (hx : ask.x = x)
    (quiet : (s.ctrAdd c x.toInt).1 = (false, false)) : s.applySignal ask = (none, (s.ctrAdd c x.toInt).2) := by
  simp only [State.applySignal, ha, hc, hx, if_true, quiet]
  rfl

/-- A SET never underflows (R271). -/
theorem State.ctrAssign_underflow (s : State) (c : CounterId) (x : Nat) : (s.ctrAssign c x).1.2 = false := rfl

theorem applySignal_set {x : W32} {ask : SyncOp} (ha : ask.op = .set) (hc : ask.ctr = c) (hx : ask.x = x)
    (quiet : (s.ctrAssign c x.toNat).1.1 = false) : s.applySignal ask = (none, (s.ctrAssign c x.toNat).2) := by
  simp only [State.applySignal, ha, hc, hx, reduceCtorEq, if_false, quiet, State.ctrAssign_underflow]
  rfl

theorem fenceRelease_eq {k i : Nat} {ask : SyncOp} (run : (s.strand k i).run = .waiting .fence) (hs : (s.strand k i).syncOp = some ask)
    (released : ∀ t, t ∈ ask.fence → t ∉ s.fenceTags k) :
    s.fenceRelease k i = if ownCounter k ask.ctr then
      (match s.applySignal ask with
       | (none, s1) => s1.finishSync k i
       | (some cause, s1) => s1.syncCause k i (s1.slotFor k i 0) cause)
      else (s.askCounter k i ask).setRun k i (.waiting .answer) none := by
  have open_ : (ask.fence.any fun t => (s.fenceTags k).contains t) = false := by simpa using released
  simp only [State.fenceRelease, run, hs, open_, Bool.false_eq_true, if_false] <;> rfl

/-- Settles O13: each instruction by its body's answer, the release by the fence that has become empty. -/
theorem counterInstructions : Obligations.CounterInstructions := by
  unfold Obligations.CounterInstructions
  refine ⟨?_, ?_⟩
  · intro w o c s r k x v own hc
    refine ⟨fun h plain => ⟨fun mine free => ⟨fun quiet => ?_, fun quiet => ?_⟩, fun other free => ?_, fun fenced => ?_,
      fun room => next_congr (issue_saddP hc h plain room)⟩, ?_, fun h plain zero => ⟨?_, ?_⟩,
      fun h plain zero none_ => next_congr (issue_roll hc h plain zero none_)⟩
    · exact next_congr (issue_signal_own hc h plain mine free true (applySignal_add rfl rfl rfl quiet))
    · exact next_congr (issue_signal_own hc h plain mine free false (applySignal_set rfl rfl rfl quiet))
    · exact ⟨next_congr (issue_signal_other hc h plain other free true), next_congr (issue_signal_other hc h plain other free false)⟩
    · exact ⟨next_congr (issue_signal_fenced hc h plain fenced true), next_congr (issue_signal_fenced hc h plain fenced false)⟩
    · intro h take i ask asked
      have run : exec i s = .next (issue w {} (syncBody (waitFn take) o) s) := by cases take <;> rfl
      rw [run]
      refine ⟨fun mine now => ?_, fun mine later => ?_, fun other => ?_⟩
      · exact next_congr (issue_wait_covered hc h mine take (Prod.ext now rfl))
      · exact next_congr (issue_wait_asleep hc h mine take (Prod.ext later rfl))
      · exact next_congr (issue_wait_other hc h other take)
    · exact fun mine => next_congr (issue_sread_own hc h plain zero mine)
    · exact fun other => next_congr (issue_sread_other hc h plain zero other)
  · intro k i ask s run hs released
    have eq := fenceRelease_eq run hs released
    refine ⟨fun other => next_congr (eq.trans (if_neg (by simp [other]))), fun mine quiet => next_congr
      ((eq.trans (if_pos mine)).trans ?_)⟩
    rw [show s.applySignal ask = (none, (s.applySignal ask).2) from Prod.ext quiet rfl]

end Sys2Proof.Machine
end

section
/-! PROOF. Values of a counter and the counter packets at the serving hub (R271, R285). -/

namespace Sys2Proof.Machine

variable {ep : Nat} {p : Packet} {c : CounterId} {s t : State}

/-- A packet that stands first in its virtual channel and passes the test is the one that is taken. -/
theorem takeSink_arrives {ok : Packet → Bool} (h : arrives s ep p t) {vc : Nat} (hv : p.kind.vc = vc) (hok : ok p = true) :
    s.takeSink ep vc ok = some (p, t) := by
  obtain ⟨j, first, there, rfl⟩ := h
  subst hv
  simp only [State.takeSink, first, there, hok, if_true]

/-- An AMO of an operation code that the block serves and does not refuse is served (R285). -/
theorem serveAmo_eq {op : Nat} {f : CounterId → Packet → State → State} (h : counterPacket s ep .amo op p c t) :
    s.serveAmo ep op f = f c p t := by
  obtain ⟨here, kind, code, mesh, hub, ctr, allowed⟩ := h
  have taken := takeSink_arrives (ok := fun p => p.kind == .amo && p.ctrOp == op && unitOfEp ep != 0x31) here
    (vc := 0) (by rw [kind]; rfl) (by simp [kind, code, hub])
  simp only [State.serveAmo, taken, mesh, allowed, ctr, Bool.false_eq_true, if_false]

/-- A SIG of ADD or SET that the block serves and does not refuse (R285). -/
theorem sigServe_eq (set : Bool) (h : counterPacket s ep .sig (bit set) p c t) :
    s.sigServe ep set = if set then (t.ctrAssign c p.ctrX.toNat).2 else (t.ctrAdd c p.ctrX.toInt).2 := by
  obtain ⟨here, kind, code, mesh, hub, ctr, allowed⟩ := h
  have taken := takeSink_arrives (ok := fun p => p.kind == .sig && (p.ctrOp != 0) == set) here (vc := 0) (by rw [kind]; rfl)
    (by cases set <;> simp [kind, code, bit])
  simp only [State.sigServe, taken, allowed, ctr, code]
  cases set <;> rfl

/-- A TOK that names a counter of the block adds 1 (R284). -/
theorem tokServe_eq (here : arrives s ep p t) (kind : p.kind = .tok) (ctr : counterOfAddr p.addr = some c)
    (allowed : t.ctrRefusal (hubOfEp ep) p = none) : s.tokServe ep = (t.ctrAdd c 1).2 := by
  have taken := takeSink_arrives (ok := fun p => p.kind == .tok) here (vc := 3) (by rw [kind]; rfl) (by simp [kind])
  simp only [State.tokServe, taken, allowed, ctr]

/-- An AMO at a CLM is a DPICK (R163): the header is read, and a pick that is left is handed out. -/
theorem amoDpick_eq (here : arrives s ep p t) (kind : p.kind = .amo) (clm : unitOfEp ep = 0x31) {b : List Byte} {u : State}
    (read : t.physRead p.addr 8 none = (.inr b, u)) :
    let h := ofBytes b
    let counted := u.bump (Reg.CLU_CLM_PICKS (siteOfEp ep)) Reg.CLU_CLM_PICKS.PICKS 1
    s.amoDpick ep = if h % 2 ^ 32 < h / 2 ^ 32
      then (counted.setNum p.addr 4 (h % 2 ^ 32 + 1)).inject { (p.answer .rdr (toBytes 8 (h % 2 ^ 32))) with src := ep }
      else counted.inject { (p.answer .rdr (toBytes 8 0xFFFFFFFF)) with src := ep } := by
  intro h counted
  have taken := takeSink_arrives (ok := fun p => p.kind == .amo && unitOfEp ep == 0x31) here (vc := 0) (by rw [kind]; rfl)
    (by simp [kind, clm])
  simp only [State.amoDpick, taken, read]
  by_cases left : h % 2 ^ 32 < h / 2 ^ 32
  · rw [if_pos left, if_pos left]
  · rw [if_neg left, if_neg left]

/-- What an addition and a set make of a value (R271). -/
theorem ctrSum_ctrSet (limit v x : Nat) (d : Int) :
    ctrSum true limit v d = (((v : Int) + d).emod 4294967296 |>.toNat, false, false)
    ∧ ctrSet true limit x = (x, false)
    ∧ ((limit : Int) < v + d → ctrSum false limit v d = (limit, true, false))
    ∧ (v ≤ limit → (v : Int) + d < 0 → ctrSum false limit v d = (0, false, true))
    ∧ (0 ≤ (v : Int) + d → (v : Int) + d ≤ limit → ctrSum false limit v d = (((v : Int) + d).toNat, false, false))
    ∧ (limit < x → ctrSet false limit x = (limit, true))
    ∧ (x ≤ limit → ctrSet false limit x = (x, false)) := by
  refine ⟨rfl, rfl, fun above => ?_, fun _ under => ?_, fun low high => ?_, fun above => ?_, fun fits => ?_⟩
  · simp [ctrSum, above]
  · simp [ctrSum, under, show ¬ (limit : Int) < v + d by omega]
  · simp [ctrSum, Int.not_lt.2 low, Int.not_lt.2 high]
  · simp [ctrSet, above]
  · simp [ctrSet, Nat.not_lt.2 fits]

/-- Settles O14: the values by the cases of R271, each packet by the rule of its block. -/
theorem counterValuesAndPackets : Obligations.CounterValuesAndPackets := by
  unfold Obligations.CounterValuesAndPackets
  refine ⟨fun limit v x d small _ => ?_, ?_⟩
  · obtain ⟨sum, set, above, under, fits, high, low⟩ := ctrSum_ctrSet limit v x d
    exact ⟨sum, set, above, under small, fits, high, low⟩
  · intro ep p c s t e
    refine ⟨fun h => next_congr (serveAmo_eq h), fun h => next_congr (serveAmo_eq h), ?_, fun h => next_congr (serveAmo_eq h), ?_,
      fun h => next_congr (sigServe_eq false h), fun h => next_congr (sigServe_eq true h),
      fun here kind ctr allowed => next_congr (tokServe_eq here kind ctr allowed), ?_⟩
    · intro take h r
      cases take <;> exact next_congr (serveAmo_eq h)
    · intro h mine u
      exact next_congr (serveAmo_eq h)
    · intro here kind clm b u read h counted next
      exact next_congr (amoDpick_eq here kind clm read)

end Sys2Proof.Machine
end

section
/-! PROOF. Sends and receives of a core (R251, R252, R255, R259). -/

namespace Sys2Proof.Machine

variable {w : Who} {o : OpG} {s t : State}

/-! ### Sends -/

/-- What a send at issue is: its function, register, channel, word and slot. -/
def sendRunOf (w : Who) (s : State) (fn : Nat) (o : OpG) : SendRun := ⟨fn, o.r, o.ch.toNat, w.word.toNat, slotOf w s⟩

theorem issue_send_taken {fn : Nat} (h : Issues w {} s) (legal : (atIssue w s).sendBad w.core w.strand (sendRunOf w s fn o) = false)
    (takes : trySends w.core ((atIssue w s).sendMsgs w.core w.strand (sendRunOf w s fn o)) (atIssue w s) = .inr t) :
    issue w {} (sendBody fn o) s = passed w 4 s
      ((t.bump (Reg.CORE_MSG_SENT w.core) Reg.CORE_MSG_SENT.SENT 1).traceSend w.core w.strand (sendRunOf w s fn o)) := by
  refine issue_done h ?_
  simp only [sendRunOf] at legal takes
  simp only [sendBody, envOf_k, envOf_i, envOf_t, envOf_word, legal, takes, Bool.false_eq_true, if_false]
  rfl

theorem issue_send_held {fn n : Nat} (h : Issues w {} s) (legal : (atIssue w s).sendBad w.core w.strand (sendRunOf w s fn o) = false)
    (full : trySends w.core ((atIssue w s).sendMsgs w.core w.strand (sendRunOf w s fn o)) (atIssue w s) = .inl n) :
    issue w {} (sendBody fn o) s = ((atIssue w s).modStrand w.core w.strand fun y =>
      { y with send := some (sendRunOf w s fn o) }).setRun w.core w.strand (.waiting .send) (some (slotOf w s, .send)) := by
  refine issue_hold (lost := some .send) h ?_
  simp only [sendRunOf] at legal full
  simp only [sendBody, envOf_k, envOf_i, envOf_t, envOf_word, legal, full, Bool.false_eq_true, if_false]
  rfl

theorem exec_send (fn : Fin 3) : exec (if fn.val = 0 then .sendv w o else if fn.val = 1 then .sendf w o else .sendfG w o) s
    = .next (issue w {} (sendBody fn.val o) s) := match fn with
  | 0 => rfl
  | 1 => rfl
  | 2 => rfl

/-! ### A waiting send -/

theorem le_firstSlot (t i : Nat) : t ≤ firstSlot t i := Nat.le_add_right t _

/-- The slot of a command is not before the command's cycle. -/
theorem cycle_le_slotOf (w : Who) (s : State) : w.cycle ≤ slotOf w s :=
  calc w.cycle ≤ max (max w.cycle (s.core w.core).cycle) (s.strand w.core w.strand).nextSlot := by omega
    _ ≤ slotOf w s := le_firstSlot _ _

section
variable {x : SendRun} (known : whoOk w = true) (waiting : (s.strand w.core w.strand).run = .waiting .send)
  (hs : (s.strand w.core w.strand).send = some x) (free : s.heldByPause w.core w.strand = false)
include known waiting hs free

theorem retrySend_accepted (early : slotOf w s < x.first + s.sendTimeout w.core)
    (legal : (sendState w s).sendBad w.core w.strand x = false)
    (takes : trySends w.core ((sendState w s).sendMsgs w.core w.strand x) (sendState w s) = .inr t) :
    s.retrySend w = (((((t.countLost w.core w.strand (slotOf w s)).bump (Reg.CORE_MSG_SENT w.core) Reg.CORE_MSG_SENT.SENT 1).traceSend
      w.core w.strand x).modStrand w.core w.strand fun y => { (y.stepPast 4) with run := .running, send := none }).issued w.core w.strand
        (slotOf w s)) := by
  simp only [slotOf, sendState] at early legal takes
  simp only [State.retrySend, hs, known, waiting, free, takes, legal, Nat.not_le.2 early, bne_self_eq_false, Bool.not_true,
    Bool.or_false, Bool.false_eq_true, if_false]
  rfl

theorem retrySend_stalled {n : Nat} (late : x.first + s.sendTimeout w.core ≤ slotOf w s)
    (full : trySends w.core ((sendState w s).sendMsgs w.core w.strand x) (sendState w s) = .inl n) :
    s.retrySend w = (((sendState w s).countLost w.core w.strand (slotOf w s)).bump (Reg.CORE_MSG_STALL w.core)
      Reg.CORE_MSG_STALL.STALLS 1).syncCause w.core w.strand (slotOf w s)
        { code := 0x08, xtval := (sendState w s).rf (sendReg w.core n) Reg.CLU_RT_SEND.CHID } := by
  simp only [slotOf, sendState] at late full
  simp only [State.retrySend, hs, known, waiting, free, full, late, bne_self_eq_false, Bool.not_true,
    Bool.or_false, Bool.false_eq_true, if_false, if_true]
  rfl

end

/-- Settles O15: at issue the channels decide; a waiting send is tried again in a slot before its timeout, and ends after it. -/
theorem sendsLeaveWaitOrEnd : Obligations.SendsLeaveWaitOrEnd := by
  unfold Obligations.SendsLeaveWaitOrEnd
  refine ⟨?_, ?_⟩
  · intro w o s h fn i r x legal
    refine ⟨fun t takes => ?_, fun n full => ?_⟩
    · exact (exec_send fn).trans (next_congr (issue_send_taken h legal takes))
    · exact (exec_send fn).trans (next_congr (issue_send_held h legal full))
  · intro w x s known waiting hs free
    refine ⟨fun t early legal takes => next_congr (retrySend_accepted known waiting hs free early legal takes), ?_⟩
    intro late n full
    have reached : x.first + s.sendTimeout w.core ≤ slotOf late s := (le_max_right _ _).trans (cycle_le_slotOf late s)
    have run : exec (.sendStalled w) s = .next (s.retrySend late) := by
      show execSendStalled w s = _
      simp only [execSendStalled, hs]
      rfl
    exact run.trans (next_congr (retrySend_stalled (w := late) known waiting hs free reached full))

/-! ### Receives -/

section
variable {q : Nat} (usable : queueUsable w s o.ch.toNat)
include usable

theorem issue_recvv_none (h : Issues w {} s) (vector : (atIssue w s).rbit (qaReg w.core o.ch.toNat) Reg.CLU_RT_QA.MSZ = false)
    (empty : ((atIssue w s).queue w.core o.ch.toNat).pickFor w.strand = none) :
    issue w {} (recvvBody o) s = waits w s ((atIssue w s).modQueue w.core o.ch.toNat fun x =>
      { x with sleepers := x.sleepers ++ [w.strand] }) (.sleeping (.queue o.ch.toNat)) none := by
  obtain ⟨there, enabled⟩ := usable
  refine issue_wait h ?_ (by simp)
  simp [recvvBody, vector, empty, enabled, Nat.not_le.2 there]

theorem issue_recvv_some (h : Issues w {} s) (vector : (atIssue w s).rbit (qaReg w.core o.ch.toNat) Reg.CLU_RT_QA.MSZ = false) {p : Nat}
    (oldest : ((atIssue w s).queue w.core o.ch.toNat).pickFor w.strand = some p)
    (plain : (atIssue w s).qReduces w.core o.ch.toNat = false) :
    let r := atIssue w s
    issue w {} (recvvBody o) s = passed w 4 s ((received w s ((r.modQueue w.core o.ch.toNat fun x => x.take w.strand p).modStrand
      w.core w.strand fun y => y.putV (slotOf w s) o.r (BitVec.ofNat 1024 (ofBytes (r.qramRead w.core (r.qOffset w.core o.ch.toNat p) 128))))
        o.ch.toNat).release w.core o.ch.toNat) := by
  obtain ⟨there, enabled⟩ := usable
  refine issue_done h ?_
  simp only [recvvBody, envOf_k, envOf_i, envOf_t, vector, oldest, plain, enabled, Nat.not_le.2 there, decide_false, Bool.not_true,
    Bool.or_false, Bool.false_eq_true, if_false]
  rfl

theorem issue_recvf_none (h : Issues w { writes := [o.r] } s) (frag : (atIssue w s).rbit (qaReg w.core o.ch.toNat) Reg.CLU_RT_QA.MSZ = true)
    (plain : (atIssue w s).qReduces w.core o.ch.toNat = false)
    (empty : ((atIssue w s).queue w.core o.ch.toNat).pickFor w.strand = none) :
    issue w { writes := [o.r] } (recvfBody o) s = waits w s ((atIssue w s).modQueue w.core o.ch.toNat fun x =>
      { x with sleepers := x.sleepers ++ [w.strand] }) (.sleeping (.queue o.ch.toNat)) none := by
  obtain ⟨there, enabled⟩ := usable
  refine issue_wait h ?_ (by simp)
  simp [recvfBody, frag, plain, empty, enabled, Nat.not_le.2 there]

theorem issue_recvf_some (h : Issues w { writes := [o.r] } s) (frag : (atIssue w s).rbit (qaReg w.core o.ch.toNat) Reg.CLU_RT_QA.MSZ = true)
    (plain : (atIssue w s).qReduces w.core o.ch.toNat = false) {p : Nat}
    (oldest : ((atIssue w s).queue w.core o.ch.toNat).pickFor w.strand = some p) :
    let r := atIssue w s
    issue w { writes := [o.r] } (recvfBody o) s = passed w 4 s (received w s ((r.modQueue w.core o.ch.toNat fun x =>
      { x.take w.strand p with claimed := (x.take w.strand p).claimed ++ [p] }).modStrand w.core w.strand fun y =>
        y.putG (slotOf w s) o.r (BitVec.ofNat 32 (r.qOffset w.core o.ch.toNat p))) o.ch.toNat) := by
  obtain ⟨there, enabled⟩ := usable
  refine issue_done h ?_
  simp only [recvfBody, envOf_k, envOf_i, envOf_t, frag, oldest, plain, enabled, Nat.not_le.2 there, decide_false, Bool.not_true,
    Bool.or_false, Bool.false_eq_true, if_false]
  rfl

theorem issue_qrel (h : Issues w {} s) (frag : (atIssue w s).rbit (qaReg w.core o.ch.toNat) Reg.CLU_RT_QA.MSZ = true) (plain : o.r = 0)
    {p : Nat} {l : List Nat} (claimed : ((atIssue w s).queue w.core o.ch.toNat).claimed = p :: l) :
    issue w {} (qrelBody o) s
      = passed w 4 s (((atIssue w s).modQueue w.core o.ch.toNat fun x => { x with claimed := l }).release w.core o.ch.toNat) := by
  obtain ⟨there, enabled⟩ := usable
  refine issue_done h ?_
  simp [qrelBody, frag, plain, claimed, enabled, Nat.not_le.2 there]

theorem issue_qpoll (h : Issues w { writes := [o.r] } s) :
    issue w { writes := [o.r] } (qpollBody o) s = changed w s fun y =>
      y.putG (slotOf w s) o.r (BitVec.ofNat 32 ((atIssue w s).queue w.core o.ch.toNat).free.length) := by
  obtain ⟨there, enabled⟩ := usable
  refine issue_done h ?_
  simp [qpollBody, enabled, Nat.not_le.2 there]

end

/-- Settles O16: each instruction by its body's answer for an empty queue and for the message that it picks. -/
theorem receivesTakeTheOldestMessage : Obligations.ReceivesTakeTheOldestMessage := by
  unfold Obligations.ReceivesTakeTheOldestMessage
  intro w o s r k q frag asleep usable
  refine ⟨fun h vector => ⟨fun empty => next_congr (issue_recvv_none usable h vector empty), fun p oldest plain =>
      next_congr (issue_recvv_some usable h vector oldest plain)⟩,
    fun h isFrag plain => ⟨fun empty => next_congr (issue_recvf_none usable h isFrag plain empty), fun p oldest =>
      next_congr (issue_recvf_some usable h isFrag plain oldest)⟩,
    fun h isFrag plain p l claimed => next_congr (issue_qrel usable h isFrag plain claimed),
    fun h => next_congr (issue_qpoll usable h)⟩

end Sys2Proof.Machine
end

section
/-! PROOF. The queue tables, hamper fetches, and messages and credits at their sinks (R246, R249, R254, R255, R258). -/

namespace Sys2Proof.Machine

variable {k q ep : Nat} {p : Packet} {s t : State}

/-! ### Hamper fetches -/

/-- A key that has been given a value other than its default reads as that value, in any map. -/
theorem Sparse.get_set_of_ne {α : Type} [DecidableEq α] (d : Nat → α) (m : List (Nat × α)) {j : Nat} {v : α} (h : v ≠ d j) :
    Sparse.get d (Sparse.set d m j v) j = v := by
  induction m with
  | nil => simp [Sparse.set, Sparse.get, h]
  | cons e m ih =>
    obtain ⟨i, x⟩ := e
    simp only [Sparse.set]
    by_cases hij : i = j
    · simp [hij, h, Sparse.get]
    · by_cases hji : j < i
      · simp [hij, hji, h, Sparse.get]
      · simp [hij, hji, Sparse.get, ih]

/-- A queue that has become something reads so. -/
theorem queue_modQueue_of_ne {f : Queue → Queue} (h : f (s.queue k q) ≠ {}) : (s.modQueue k q f).queue k q = f (s.queue k q) := by
  have inner : Sparse.get (fun _ => {}) (Sparse.set (fun _ => {}) (s.msg k).queues q (f (s.queue k q))) q = f (s.queue k q) :=
    Sparse.get_set_of_ne _ _ h
  have outer : { (s.msg k) with queues := Sparse.set (fun _ => {}) (s.msg k).queues q (f (s.queue k q)) } ≠ ({} : MsgUnit) := by
    intro e
    have : Sparse.set (fun _ => {}) (s.msg k).queues q (f (s.queue k q)) = [] := congrArg MsgUnit.queues e
    rw [this] at inner
    exact h inner.symm
  simp only [State.modQueue, State.modMsg, State.queue, State.msg] at inner outer ⊢
  rw [Sparse.get_set_of_ne _ _ outer]
  exact inner

/-- Requests made one after another, each under a tag of its own, keep the order of their offsets. -/
theorem foldl_asks_offsets {ask : List (Nat × Nat) × State → Nat → List (Nat × Nat) × State}
    (h : ∀ z o, (ask z o).1.map (·.2) = z.1.map (·.2) ++ [o]) (offs : List Nat) (z : List (Nat × Nat) × State) :
    (offs.foldl ask z).1.map (·.2) = z.1.map (·.2) ++ offs := by
  induction offs generalizing z with
  | nil => simp
  | cons o offs ih => rw [List.foldl_cons, ih, h, List.append_assoc, List.singleton_append]

theorem hamperFetch_asks (enabled : s.qEnabled k q = true) (plain : s.qReduces k q = false)
    (hamper : s.rbit (qaReg k q) Reg.CLU_RT_QA.HEN = true) (idle : (s.queue k q).fetch = none) {f : Nat} {l : List Nat}
    (room : s.freePlaces k q = f :: l)
    (there : s.rf (Reg.CORE_MSG_QSB k q) Reg.CORE_MSG_QSB.HPOS ≠ s.rf (Reg.CORE_MSG_QSB k q) Reg.CORE_MSG_QSB.TPOS) :
    ∃ h, ((s.hamperFetch k q).queue k q).fetch = some h ∧ h.place = f ∧ h.got = [] ∧ h.failed = false
      ∧ h.asked.map (·.2) = (List.range ((s.qSize k q + 511) / 512)).map (· * 512) := by
  have apart : ((s.rf (Reg.CORE_MSG_QSB k q) Reg.CORE_MSG_QSB.HPOS * 128, s.rbit (Reg.CORE_MSG_QSB k q) Reg.CORE_MSG_QSB.HLAP)
      == (s.rf (Reg.CORE_MSG_QSB k q) Reg.CORE_MSG_QSB.TPOS * 128, s.rbit (Reg.CORE_MSG_QSB k q) Reg.CORE_MSG_QSB.TLAP)) = false := by
    simp [there]
  simp only [State.hamperFetch, enabled, plain, hamper, idle, apart, room, Option.isSome_none, Bool.not_true, Bool.or_false,
    Bool.false_eq_true, if_false]
  rw [queue_modQueue_of_ne (by intro e; exact absurd (congrArg Queue.fetch e) (by simp))]
  exact ⟨_, rfl, rfl, rfl, rfl, (foldl_asks_offsets (fun z o => by simp) _ _).trans (List.nil_append _)⟩

/-- Settles O17: a disabled queue's entry is written, clearing EN wakes the sleepers, and a fetch asks for each piece of its message. -/
theorem queueTables : Obligations.QueueTables := by
  unfold Obligations.QueueTables
  intro k q s hk hq
  have known : ¬ (480 ≤ k ∨ 32 ≤ q) := by omega
  refine ⟨fun v off => ⟨next_congr ?_, next_congr ?_⟩, fun v on clear => ?_, fun f l enabled plain hamper idle room there => ?_⟩
  · simp only [State.queueTableWrite, known, off, Bool.false_eq_true, if_false]
  · simp only [State.queueTableWrite, known, off, Bool.false_eq_true, if_false, if_true]
  · intro off
    refine next_congr ?_
    simp only [State.queueTableWrite, known, on, tb, clear, Bool.or_false, Bool.false_eq_true, if_false, if_true]
    rfl
  · obtain ⟨h, facts⟩ := hamperFetch_asks enabled plain hamper idle room there
    exact ⟨s.hamperFetch k q, h, rfl, facts⟩

/-! ### Messages at their sinks -/

/-- A packet that stands first at its sink is taken there by the core, the port or the Cheter controller (R244). -/
theorem servePacket_eq (here : arrives s ep p t) {tap link : Nat → Packet → State → State} {cheter : Packet → State → State} :
    s.servePacket ep p.kind tap link cheter =
      if ep = epCheter then cheter p t else if isTrailEp ep then link (portOfEp ep) p t
      else match coreOfEp ep with
      | some c => tap c p t
      | none => t := by
  have taken := takeSink_arrives (ok := fun x => x.kind == p.kind) here rfl (by simp)
  simp only [State.servePacket, taken] <;> rfl

theorem servePacket_tap (here : arrives s ep p t) {kind : PKind} (hk : p.kind = kind) (mesh : ep ≠ epCheter)
    (local_ : isTrailEp ep = false)
    {c : Nat} (core : coreOfEp ep = some c) {tap link : Nat → Packet → State → State} {cheter : Packet → State → State} :
    s.servePacket ep kind tap link cheter = tap c p t := by
  subst hk
  rw [servePacket_eq here, if_neg mesh, if_neg (by simp [local_])]
  simp only [core]

theorem servePacket_link (here : arrives s ep p t) {kind : PKind} (hk : p.kind = kind) (mesh : ep ≠ epCheter) (port : isTrailEp ep = true)
    {tap link : Nat → Packet → State → State} {cheter : Packet → State → State} :
    s.servePacket ep kind tap link cheter = link (portOfEp ep) p t := by
  subst hk
  rw [servePacket_eq here, if_neg mesh, if_pos port]

theorem servePacket_cheter (here : arrives s ep p t) {kind : PKind} (hk : p.kind = kind) (home : ep = epCheter)
    {tap link : Nat → Packet → State → State} {cheter : Packet → State → State} :
    s.servePacket ep kind tap link cheter = cheter p t := by
  subst hk
  rw [servePacket_eq here, if_pos home]

/-- A message whose place does not wrap around the end of the queue RAM is written as it stands (R247). -/
theorem qramWrite_eq {off : Nat} {b : List Byte} (fits : off + b.length ≤ 0x20000) :
    s.qramWrite k off b = s.setBytes (storeBase k .qram + off) b := by
  have whole : min b.length (0x20000 - off) = b.length := by omega
  simp only [State.qramWrite, whole, List.take_length, List.drop_length]
  rfl

/-- Settles O18: each packet by its sink; a message's place by the queue that its channel names. -/
theorem messagesAndCredits : Obligations.MessagesAndCredits := by
  unfold Obligations.MessagesAndCredits
  refine ⟨?_, ?_⟩
  · intro ep p s t here e
    refine ⟨fun k mesh local_ core => ?_, fun mesh port => ?_, fun home kind => next_congr (servePacket_cheter here kind home)⟩
    · exact ⟨fun kind => next_congr (servePacket_tap here kind mesh local_ core), fun kind => next_congr
        (servePacket_tap here kind mesh local_ core),
        fun kind => next_congr (servePacket_tap here kind mesh local_ core), fun kind => next_congr
          (servePacket_tap here kind mesh local_ core),
        fun kind => next_congr (servePacket_tap here kind mesh local_ core)⟩
    · exact ⟨fun kind => next_congr (servePacket_link here kind mesh port), fun kind => next_congr (servePacket_link here kind mesh port),
        fun kind => next_congr (servePacket_link here kind mesh port), fun kind => next_congr (servePacket_link here kind mesh port)⟩
  · intro k q f l p s bound plain size room t
    refine ⟨?_, fun wf _ fits => ?_⟩
    · simp only [State.msgAtTap, bound, plain, size, room, bne_self_eq_false, Bool.or_false, Bool.false_eq_true, if_false]
      rfl
    · rw [show t = s.setBytes _ _ from qramWrite_eq fits]
      exact State.bytes_setBytes wf _ _

/-! ### Routers, memories and requesters -/

theorem serveRd_eq (here : arrives s ep p t) (kind : p.kind = .rd) (local_ : isTrailEp ep = false) (memory : servesNone ep = false)
    (ecc : Ecc) : s.serveRd ep ecc = match t.memRead p.addr p.size p.key ecc with
      | (.inl code, u) => u.inject (p.answer .err [] code)
      | (.inr b, u) => u.inject (p.answer .rdr b) := by
  have taken := takeSink_arrives (ok := fun p => p.kind == .rd) here (vc := 0) (by rw [kind]; rfl) (by simp [kind])
  simp only [State.serveRd, taken, local_, memory, Bool.false_eq_true, if_false] <;> rfl

theorem serveWr_eq (here : arrives s ep p t) (kind : p.kind = .wr) (local_ : isTrailEp ep = false) (memory : servesNone ep = false)
    (ecc : Ecc) : s.serveWr ep ecc = match t.memWrite p.addr p.payload p.key ecc with
      | none => s
      | some (some code, u) => u.inject (p.answer .err [] code)
      | some (none, u) => u.inject (p.answer .wrr []) := by
  have taken := takeSink_arrives (ok := fun p => p.kind == .wr) here (vc := 0) (by rw [kind]; rfl) (by simp [kind])
  simp only [State.serveWr, taken, local_, memory, Bool.false_eq_true, if_false] <;> rfl

/-- An answer at its requester (R244). -/
theorem serveAnswer_eq (here : arrives s ep p t) (kind : p.kind.vc = 1) : s.serveAnswer ep p.kind =
    if ep = epCheter then t.cheterAnswer p else if isTrailEp ep then t.trailAnswer (portOfEp ep) p
    else match coreOfEp ep with
    | some c => t.coreAnswer c p
    | none => if siteOfEp ep < 12 ∧ unitOfEp ep = 0x30 then t.dmaAnswer (siteOfEp ep) p else t := by
  have taken := takeSink_arrives (ok := fun x => x.kind == p.kind) here kind (by simp)
  simp only [State.serveAnswer, taken] <;> rfl

theorem exec_answer {i : Instr} {ep : BitVec 12}
    (h : (p.kind = .rdr ∧ i = .rdr ep) ∨ (p.kind = .wrr ∧ i = .wrr ep) ∨ (p.kind = .err ∧ i = .err ep)) :
    p.kind.vc = 1 ∧ exec i s = .next (s.serveAnswer ep.toNat p.kind) := by
  obtain ⟨hk, rfl⟩ | ⟨hk, rfl⟩ | ⟨hk, rfl⟩ := h <;> rw [hk] <;> exact ⟨rfl, rfl⟩

/-- Settles O19: the arbiter's choice passes, a memory answers as its access ends, an answer goes to the unit that its endpoint names. -/
theorem packetsPassAndAreServed : Obligations.PacketsPassAndAreServed := by
  unfold Obligations.PacketsPassAndAreServed
  refine ⟨?_, ?_, ?_⟩
  · intro n out vc j x s chosen left
    refine next_congr ?_
    simp only [State.routerArrival, chosen]
    rfl
  · intro ep ecc p s t here local_ memory
    refine ⟨fun kind => ⟨fun b u read => next_congr ?_, fun code u read => next_congr ?_⟩,
      fun kind => ⟨fun u wrote => next_congr ?_, fun code u wrote => next_congr ?_⟩⟩
    · rw [serveRd_eq here kind local_ memory, read]
    · rw [serveRd_eq here kind local_ memory, read]
    · rw [serveWr_eq here kind local_ memory, wrote]
    · rw [serveWr_eq here kind local_ memory, wrote]
  · intro ep p s t here e i names
    obtain ⟨vc, run⟩ := exec_answer (s := s) names
    rw [run, serveAnswer_eq here vc]
    refine ⟨fun home => ?_, fun mesh port => ?_, fun k mesh local_ core => ?_, fun mesh local_ none_ site unit => ?_⟩
    · rw [if_pos home]
    · rw [if_neg mesh, if_pos port]
    · rw [if_neg mesh, if_neg (by simp [e, local_])]
      simp only [e, core]
    · rw [if_neg mesh, if_neg (by simp [e, local_])]
      simp only [e, none_]
      rw [if_pos ⟨site, unit⟩]

end Sys2Proof.Machine
end

section
/-! PROOF. Vector float arithmetic, signs, picks and estimates by element (R100, R101, Table 4-3). -/

namespace Sys2Proof.Machine

variable {w : Who} {s : State} {o : OpV} {ty : Fmt} {f : FFmt}

/-! ### Lists of lanes -/

theorem zipIdx_map_range {α β : Type} (n : Nat) (g : Nat → α) (h : α × Nat → β) :
    ((List.range n).map g).zipIdx.map h = (List.range n).map fun i => h (g i, i) := by
  apply List.ext_getElem <;> simp

theorem zipWith_map_range {α β γ : Type} (n : Nat) (g : Nat → α) (h : Nat → β) (k : α → β → γ) :
    List.zipWith k ((List.range n).map g) ((List.range n).map h) = (List.range n).map fun i => k (g i) (h i) := by
  simp [List.zipWith_map, List.zipWith_self]

/-! ### Arithmetic that rounds -/

/-- The flags of the operands that an operation reads, and its exact result, rounded once (R100). -/
theorem FOp.elt_eq (op : FOp) (f : FFmt) (conf : Bool) (rm : Rm) (r a b d : Nat) :
    let A := f.read conf a
    let B := f.read conf b
    let D := f.read conf d
    let z := if op.reads3 then D else (.fin false 0 0, 0#6)
    let v := op.exact (rm == .rdn) A.1 B.1 z.1
    let q := f.round (f.keep conf) rm false r v.1
    op.elt f conf rm r a b d = (q.1, (if op.reads3 then A.2 ||| B.2 ||| D.2 else A.2 ||| B.2) ||| v.2 ||| q.2) := by
  cases op <;> simp [FOp.elt, FOp.reads3]

theorem issue_vfloat (h : Issues w (vTyped3 o) s) (ht : Fmt.ofCode o.t = some ty) (hf : ty.float? = some f) (op : FOp) :
    let x := strandAt w s
    let draw := (atIssue w s).drawIf w.core (x.rm == .sr)
    issue w (vTyped3 o) (vfloatBody op o) s = vecFpLanes w s draw.2 2 o ty fun i =>
      op.elt f x.conf x.rm (draw.1 (vfirst ty o.h + i)) (laneOf ty o.h (x.rv o.va) i) (laneOf ty o.h (x.rv o.vb) i)
        (laneOf ty o.h (x.rv o.vd) i) := by
  refine issue_vecFp h rfl ?_
  simp only [vfloatBody, vfloat_of_code ht hf, strand_atIssue, vlanes_eq, zipWith_map_range, zipIdx_map_range]
  rfl

/-- Settles O20: each instruction by its operation's element function. -/
theorem vectorFloatArithmetic : Obligations.VectorFloatArithmetic := by
  unfold Obligations.VectorFloatArithmetic
  intro w o s t f h ht hf x a b d draw rounded down
  have elems (op : FOp) := next_congr (issue_vfloat h ht hf op)
  simp only [FOp.elt_eq] at elems
  exact ⟨elems .add, elems .sub, elems .mul, elems .fma, elems .fms⟩

/-! ### Signs, picks and estimates -/

theorem issue_vunary (h : Issues w (vTyped2 o) s) (ht : Fmt.ofCode o.t = some ty) (hf : ty.float? = some f)
    (g : FFmt → Bool → Nat → Nat × FpFlags) :
    issue w (vTyped2 o) (vunaryBody g o) s = vecFpLanes w s (atIssue w s) 2 o ty fun i =>
      g f (strandAt w s).conf (laneOf ty o.h ((strandAt w s).rv o.va) i) := by
  refine issue_vecFp h rfl ?_
  simp only [vunaryBody, vfloat_of_code ht hf, strand_atIssue, vlanes_eq, List.map_map]
  rfl

theorem issue_vpick (h : Issues w (vTyped3 o) s) (ht : Fmt.ofCode o.t = some ty) (hf : ty.float? = some f) (big : Bool) :
    let x := strandAt w s
    issue w (vTyped3 o) (vpickBody big o) s = vecFpLanes w s (atIssue w s) 2 o ty fun i =>
      pickElt big f x.conf (laneOf ty o.h (x.rv o.va) i) (laneOf ty o.h (x.rv o.vb) i) := by
  refine issue_vecFp h rfl ?_
  simp only [vpickBody, vfloat_of_code ht hf, strand_atIssue, vzip_eq]

theorem signElt_eq (neg : Bool) (f : FFmt) (conf : Bool) (a : Nat) :
    signElt neg f conf a = if (f.read conf a).1.isNan then (f.canonNan, (f.read conf a).2)
      else ((f.round (f.keep conf) .rne false 0 (if neg then (f.read conf a).1.negate else (f.read conf a).1.abs)).1, (f.read conf a).2) := by
  unfold signElt
  generalize f.read conf a = v
  obtain ⟨v, g⟩ := v
  cases v <;> simp [Val.isNan]

theorem Val.isZero_iff {v : Val} : v.isZero = true ↔ ∃ n e, v = .fin n 0 e := by
  match v with
  | .nan _ | .inf _ | .fin _ (_ + 1) _ => simp [Val.isZero]
  | .fin n 0 e => simp [Val.isZero]

/-- The special operands of VRCPE, and any other finite one (Table 4-3). -/
theorem rcpElt_cases (f : FFmt) (conf : Bool) (a : Nat) :
    let v := f.read conf a
    (v.1.isNan = true → rcpElt f conf a = (f.canonNan, v.2 ||| sigFlag [v.1]))
    ∧ (v.1.isZero = true → rcpElt f conf a = (f.infBits v.1.neg?, v.2 ||| FpFlags.dz))
    ∧ (∀ n, v.1 = .inf n → rcpElt f conf a = (f.zeroBits n, v.2))
    ∧ (∀ n m e, v.1 = .fin n m e → m ≠ 0 →
        let q := estimateRound f conf (Val.div (.fin false 1 0) v.1).1
        rcpElt f conf a = (q.1, v.2 ||| q.2)) := by
  unfold rcpElt
  generalize f.read conf a = v
  obtain ⟨v, g⟩ := v
  refine ⟨fun nan => ?_, fun zero => ?_, fun n inf => ?_, fun n m e fin nonzero => ?_⟩
  · cases v <;> simp_all [Val.isNan, sigFlag, Val.isSig]
  · obtain ⟨n, e, rfl⟩ := Val.isZero_iff.1 zero
    rfl
  · simp_all
  · simp only at fin
    subst fin
    cases m with
    | zero => exact absurd rfl nonzero
    | succ m => rfl

/-- The special operands of VRSQE, and any other finite one (Table 4-3). -/
theorem rsqElt_cases (f : FFmt) (conf : Bool) (a : Nat) :
    let v := f.read conf a
    (v.1.isNan = true → rsqElt f conf a = (f.canonNan, v.2 ||| sigFlag [v.1]))
    ∧ (v.1.isZero = true → rsqElt f conf a = (f.infBits v.1.neg?, v.2 ||| FpFlags.dz))
    ∧ (v.1 = .inf false → rsqElt f conf a = (f.zeroBits false, v.2))
    ∧ (v.1 = .inf true → rsqElt f conf a = (f.canonNan, v.2 ||| FpFlags.nv))
    ∧ (∀ m e, v.1 = .fin true m e → m ≠ 0 → rsqElt f conf a = (f.canonNan, v.2 ||| FpFlags.nv))
    ∧ (∀ m e, v.1 = .fin false m e → m ≠ 0 →
        let q := estimateRound f conf (rsqrtFin m e)
        rsqElt f conf a = (q.1, v.2 ||| q.2)) := by
  unfold rsqElt
  generalize f.read conf a = v
  obtain ⟨v, g⟩ := v
  refine ⟨fun nan => ?_, fun zero => ?_, fun inf => ?_, fun inf => ?_, fun m e fin nonzero => ?_, fun m e fin nonzero => ?_⟩
  · cases v <;> simp_all [Val.isNan, sigFlag, Val.isSig]
  · obtain ⟨n, e, rfl⟩ := Val.isZero_iff.1 zero
    rfl
  · simp_all
  · simp_all
  all_goals
    simp only at fin
    subst fin
    cases m with
    | zero => exact absurd rfl nonzero
    | succ m => rfl

/-- Settles O21: each instruction by its element function, the estimates by their special operands. -/
theorem vectorSignsPicksAndEstimates : Obligations.VectorSignsPicksAndEstimates := by
  unfold Obligations.VectorSignsPicksAndEstimates
  intro w o s t f ht hf x a b asIs done
  refine ⟨fun h => ⟨next_congr (issue_vpick h ht hf false), next_congr (issue_vpick h ht hf true)⟩, fun h => ?_⟩
  have sign (neg : Bool) := next_congr (issue_vunary h ht hf (signElt neg))
  simp only [signElt_eq] at sign
  exact ⟨sign true, sign false, ⟨_, next_congr (issue_vunary h ht hf rcpElt), fun i => rcpElt_cases f _ _⟩,
    ⟨_, next_congr (issue_vunary h ht hf rsqElt), fun i => rsqElt_cases f _ _⟩⟩

end Sys2Proof.Machine
end

section
/-! PROOF. Conversions, activation, the epilogue instruction and the registers of the vector unit (R103, R111 to R119, R124, R129). -/

namespace Sys2Proof.Machine

variable {w : Who} {s t : State}

/-! ### Conversion, activation and epilogue -/

/-- Settles O25: a legal VCVT, VACT or VEPX is its body over the lanes; a VCVT whose part does not exist is illegal. -/
theorem vectorConversions : Obligations.VectorConversions := by
  unfold Obligations.VectorConversions
  refine ⟨?_, ?_, ?_⟩
  · intro w o s ts td rm h hs hd hr x n p span first draw value l
    refine ⟨fun some_ fits => next_congr (issue_vecFp h rfl ?_), fun bad => next_congr (issue_illegal h ?_)⟩
    · simp only [vcvtBody, strand_atIssue, hs, hd, hr]
      rw [if_neg some_, if_neg (Nat.not_lt.2 fits)]
      rfl
    · simp only [vcvtBody, strand_atIssue, hs, hd, hr]
      by_cases none_ : n = 0
      · rw [if_pos none_]
      · rw [if_neg none_, if_pos (bad.resolve_left none_)]
  · intro w o s h fp32 slot x draw
    refine next_congr (issue_vecFp h rfl ?_)
    simp only [vactBody, strand_atIssue, fp32, Nat.not_le.2 slot, ne_eq, not_true, or_self, if_false, vlanes_eq, zipIdx_map_range]
    rfl
  · intro w o s td rm h hd known fits hr x draw act l
    refine next_congr (issue_vecFp h rfl ?_)
    simp only [vepxBody, strand_atIssue, hd, hr, known, Nat.not_lt.2 fits, decide_true, Bool.not_true, Bool.false_eq_true, or_self, if_false,
      vlanes_eq, zipIdx_map_range]
    rfl

/-! ### Registers of the unit -/

variable {o : OpV}

theorem issue_vtload (h : Issues w (vBare2 o) s) {d : Nat} (slot : o.vd.toNat < 8) (areg : o.va.toNat < 8)
    (aligned : ((strandAt w s).ra (o.va.setWidth 3)).toNat % 32 = 0)
    (there : (atIssue w s).storeFault w.core .as ((strandAt w s).ra (o.va.setWidth 3)).toNat 1056 = none)
    (read : (atIssue w s).readStore w.core .as ((strandAt w s).ra (o.va.setWidth 3)).toNat 1056 w.ecc = (d, t)) :
    issue w (vBare2 o) (vtloadBody o) s = passed w 4 s ((t.vecInsn w.core).modCore w.core fun c =>
      { c with act := vset c.act o.vd.toNat ⟨some (BitVec.ofNat 8448 d)⟩ }) := by
  refine issue_done h ?_
  simp only [vtloadBody, envOf_k, envOf_i, envOf_ecc, strandAt_eq, Nat.not_le.2 slot, Nat.not_le.2 areg, aligned, there, read, or_self, ne_eq,
    not_true, if_false]

/-- The upper half of a 64-bit number. -/
theorem setWidth_shiftRight_32 (v : W64) : BitVec.ofNat 32 (fld v 63 32) = (v >>> 32).setWidth 32 := by
  apply BitVec.eq_of_toNat_eq
  simp [fld, Nat.shiftRight_eq_div_pow]

theorem issue_vrget (h : Issues w (vToPair o) s) (v : Core → W64) :
    issue w (vToPair o) (vrgetBody v o) s = passed w 4 s (((atIssue w s).vecInsn w.core).modStrand w.core w.strand fun y =>
      let n := v (((atIssue w s).vecInsn w.core).core w.core)
      (y.later (slotOf w s + 7) (.g o.vd (n.setWidth 32))).later (slotOf w s + 7) (.g o.vb ((n >>> 32).setWidth 32))) := by
  refine issue_done h ?_
  simp only [vrgetBody, setWidth_shiftRight_32]
  rfl

/-- Settles O26: each instruction by its body; what the common checks bar is an illegal instruction. -/
theorem vectorControl : Obligations.VectorControl := by
  unfold Obligations.VectorControl
  intro w o s x counted mine pair halves
  refine ⟨?_, fun h => ⟨next_congr (issue_done h rfl), next_congr (issue_done h rfl)⟩,
    fun h => ⟨next_congr (issue_done h rfl), next_congr (issue_done h rfl)⟩,
    fun h => ⟨next_congr (issue_done h rfl), next_congr (issue_done h rfl)⟩, fun h => next_congr (issue_done h rfl),
    fun h => ⟨next_congr (issue_vrget h _), next_congr (issue_vrget h _)⟩, ?_⟩
  · intro h d t slot areg off aligned there read
    exact next_congr (issue_vtload h slot areg aligned there read)
  · simp only [List.forall_mem_cons, List.not_mem_nil, false_implies, implies_true, and_true]
    and_intros
    all_goals exact fun h => next_congr (issue_barred h _)

end Sys2Proof.Machine
end

section
/-! PROOF. Matrix instructions at issue, the unit's queue, and integer runs (R48, R51, R73, R75, R78, R87 to R90, R149). -/

namespace Sys2Proof.Machine

variable {w : Who} {s t : State}

/-! ### Issue -/

/-- An instruction of an illegal shape raises its cause over the register that records it (R87). -/
theorem issue_shape {info : Info} {body : Env → State → Res} {c : Cause} (h : Issues w info s)
    (hb : body (envOf w s) (atIssue w s) = .shape t c) : issue w info body s = t.syncCause w.core w.strand (slotOf w s) c := by
  rw [issue_eq h, hb]; rfl

theorem issue_mx {info : Info} {body : Env → State → Res} {r : MxRun} (h : Issues w info s) (hl : info.len = 8)
    (hb : body (envOf w s) (atIssue w s) = .mx ((atIssue w s).pushMx (envOf w s) r)) : issue w info body s = joined w s r := by
  rw [issue_eq h, hb, hl]; rfl

/-- A grouped instruction issues in strand 0 of a core that is no steward core (R67). -/
theorem unit_there {g : Bool} (core : isSteward w.core = false) (first : g = true → w.strand = 0) :
    (isSteward w.core || (g && w.strand != 0)) = false := by
  cases g <;> simp_all

/-- What taking a reason of Table 3-6 leaves (R87). -/
def shapeTaken (w : Who) (s : State) (op reason : Nat) : State :=
  (((atIssue w s).setRf (Reg.CORE_MX_SHAPE w.core w.strand) Reg.CORE_MX_SHAPE.REASON reason).setRf (Reg.CORE_MX_SHAPE w.core w.strand)
    Reg.CORE_MX_SHAPE.OP op).syncCause w.core w.strand (slotOf w s) { code := 0x03, xtval := w.word.toNat, sub := reason }

section
variable {g : Bool} (h : Issues w { len := 8 } s) (core : isSteward w.core = false) (first : g = true → w.strand = 0)
include h core first

theorem issue_mma_full (o : OpMma) (full : 2 ≤ (strandAt w s).matrix) :
    issue w { len := 8 } (mmaBody g o) s
      = (atIssue w s).setRun w.core w.strand (.waiting .matrixLimit) (some (slotOf w s, .matrix)) := by
  refine issue_hold (lost := some .matrix) h ?_
  simp only [mmaBody, envOf_k, envOf_i, strandAt_eq, unit_there core first, full, Bool.false_eq_true, if_false, if_true]

theorem issue_mma_shape (o : OpMma) (room : (strandAt w s).matrix < 2) {reason : Nat}
    (bad : mmaShape ((atIssue w s).core w.core) g w.strand o = some reason) :
    issue w { len := 8 } (mmaBody g o) s = shapeTaken w s 0 reason := by
  refine issue_shape h ?_
  simp only [mmaBody, envOf_k, envOf_i, strandAt_eq, unit_there core first, Nat.not_le.2 room, bad, Bool.false_eq_true, if_false]
  rfl

theorem issue_mma_joins (o : OpMma) (room : (strandAt w s).matrix < 2)
    (legal : mmaShape ((atIssue w s).core w.core) g w.strand o = none)
    (there : (atIssue w s).mxRefused w.core (mmaTaken w s g o).ranges = none) :
    issue w { len := 8 } (mmaBody g o) s = joined w s (.mma (mmaTaken w s g o)) := by
  refine issue_mx h rfl ?_
  simp only [mmaTaken, State.strand] at there
  simp only [mmaBody, envOf_k, envOf_i, envOf_ecc, strandAt_eq, unit_there core first, Nat.not_le.2 room, legal, mxBanks, mxBase, there,
    Bool.false_eq_true, if_false]
  rfl

variable {rm : Rm}

theorem issue_drain_full (o : OpDrain) (hr : Rm.ofField o.rm (strandAt w s).rm = some rm) (full : 2 ≤ (strandAt w s).matrix) :
    issue w { len := 8 } (drainBody g o) s
      = (atIssue w s).setRun w.core w.strand (.waiting .matrixLimit) (some (slotOf w s, .matrix)) := by
  refine issue_hold (lost := some .matrix) h ?_
  simp only [drainBody, envOf_k, envOf_i, strandAt_eq, hr, unit_there core first, full, Bool.false_eq_true, if_false, if_true]

theorem issue_drain_shape (o : OpDrain) (hr : Rm.ofField o.rm (strandAt w s).rm = some rm) (room : (strandAt w s).matrix < 2)
    {reason : Nat} (bad : drainShape ((atIssue w s).core w.core) g w.strand o = some reason) :
    issue w { len := 8 } (drainBody g o) s = shapeTaken w s 1 reason := by
  refine issue_shape h ?_
  simp only [drainBody, envOf_k, envOf_i, strandAt_eq, hr, unit_there core first, Nat.not_le.2 room, bad, Bool.false_eq_true, if_false]
  rfl

theorem issue_drain_joins (o : OpDrain) (hr : Rm.ofField o.rm (strandAt w s).rm = some rm) (room : (strandAt w s).matrix < 2)
    (legal : drainShape ((atIssue w s).core w.core) g w.strand o = none)
    (there : (atIssue w s).mxRefused w.core (drainTaken w s g o rm).ranges = none) :
    issue w { len := 8 } (drainBody g o) s = joined w s (.drain (drainTaken w s g o rm)) := by
  refine issue_mx h rfl ?_
  simp only [drainTaken, State.strand] at there
  simp only [drainBody, envOf_k, envOf_i, envOf_ecc, strandAt_eq, hr, unit_there core first, Nat.not_le.2 room, legal, mxBanks, mxBase,
    there, Bool.false_eq_true, if_false]
  rfl

end

theorem exec_mma (g : Bool) (o : OpMma) (s : State) :
    exec (if g then .mmaG w o else .mma w o) s = .next (issue w { len := 8 } (mmaBody g o) s) := by cases g <;> rfl
theorem exec_mdrain (g : Bool) (o : OpDrain) (s : State) :
    exec (if g then .mdrainG w o else .mdrain w o) s = .next (issue w { len := 8 } (drainBody g o) s) := by cases g <;> rfl

/-- Settles O27: the unit is full, the shape is illegal, or the instruction joins with what it takes at issue. -/
theorem matrixInstructionsJoinTheQueue : Obligations.MatrixInstructionsJoinTheQueue := by
  unfold Obligations.MatrixInstructionsJoinTheQueue
  intro w g s h core first r x full shape
  refine ⟨fun o => ?_, fun o rm hr => ?_⟩
  · intro i
    exact ⟨fun n => (exec_mma g o s).trans (next_congr (issue_mma_full h core first o n)),
      fun room reason bad => (exec_mma g o s).trans (next_congr (issue_mma_shape h core first o room bad)),
      fun room legal there => (exec_mma g o s).trans (next_congr (issue_mma_joins h core first o room legal there))⟩
  · intro i
    exact ⟨fun n => (exec_mdrain g o s).trans (next_congr (issue_drain_full h core first o hr n)),
      fun room reason bad => (exec_mdrain g o s).trans (next_congr (issue_drain_shape h core first o hr room bad)),
      fun room legal there => (exec_mdrain g o s).trans (next_congr (issue_drain_joins h core first o hr room legal there))⟩

/-! ### The unit's queue -/

/-- An MMA with runs left at the head of the queue is what the unit works on (R90). -/
theorem runTransfer_mma {k : Nat} {r : MmaRun} {l : List MxRun} (head : (s.core k).mx = .mma r :: l) (left : r.step < mmaSteps r.o) :
    s.runTransfer k = (s.mmaRun k r).2.modCore k fun c => { c with mx := c.mx.set 0 (.mma (s.mmaRun k r).1) } := by
  have unfinished : (MxRun.mma r).worked = false := by simp [MxRun.worked, left]
  have here : (State.drainsFirst k (s.core k).mx.length s) = s := by
    simp [head, State.drainsFirst, unfinished]
  rw [State.runTransfer, if_pos (by simp [head, left]), here]
  simp only [State.mxWork, head, List.findIdx?_cons, unfinished, Bool.not_false, if_true, List.getElem?_cons_zero]

theorem matrixComplete_worked {k : Nat} {r : MxRun} {l : List MxRun} (head : (s.core k).mx = r :: l) (done : r.worked = true) :
    s.matrixComplete k = ((r.base.flags.foldl (fun s e => s.mxFlags k r.base e) (s.modCore k fun c => { c with mx := l })).modStrand k
      r.base.strand fun x => { x with matrix := x.matrix - 1 }).releaseMatrix k r.base.strand := by
  simp only [State.matrixComplete, head, List.take_succ_cons, List.take_zero, List.all_cons, List.all_nil, done, Bool.and_self, if_true,
    Bool.not_true, Bool.false_eq_true, if_false]

/-- Settles O28: the head's run, and the completion of a finished head. -/
theorem matrixQueueAdvances : Obligations.MatrixQueueAdvances := by
  unfold Obligations.MatrixQueueAdvances
  intro k s
  refine ⟨fun r l head left => ?_, fun r l head done => ?_⟩
  · intro n
    exact ⟨(s.mmaRun k r).1, (s.mmaRun k r).2, rfl, rfl, rfl, next_congr (runTransfer_mma head left)⟩
  · intro t
    exact next_congr (matrixComplete_worked head done)

/-! ### Integer runs -/

/-- A signed magnitude without an exponent, as an integer. -/
theorem Val.floor_fin_zero (b : Bool) (m : Nat) : (Val.fin b m 0).floor = if b then -(m : Int) else m := by simp [Val.floor]

theorem Val.floor_ofInt (i : Int) : (Val.ofInt i).floor = i := by
  rw [Val.ofInt, Val.floor_fin_zero]
  by_cases h : i < 0
  · rw [if_pos (decide_eq_true h)]; omega
  · rw [if_neg (by simpa using h)]; omega

/-- The product of two integers is exact (R48). -/
theorem floor_mul_ofInt (x y : Int) : (Val.mul (Val.ofInt x) (Val.ofInt y)).1.floor = x * y := by
  have size (z : Int) : (z.natAbs : Int) = if z < 0 then -z else z := by split <;> omega
  simp only [Val.ofInt, Val.mul, Int.add_zero, Val.floor_fin_zero, Int.natCast_mul, size]
  by_cases hx : x < 0 <;> by_cases hy : y < 0 <;> simp [hx, hy]

theorem elt_packElts (n : Nat) (l : List Nat) (j : Nat) : elt n (packElts n l) j = (l[j]?.getD 0) % 2 ^ n := by
  induction l generalizing j with
  | nil => simp [packElts, elt]
  | cons x xs ih =>
    cases j with
    | zero => simp [packElts, elt]
    | succ j =>
      have : elt n (x % 2 ^ n + 2 ^ n * packElts n xs) (j + 1) = elt n (packElts n xs) j := by
        simp only [elt, Nat.shiftRight_eq_div_pow, Nat.mul_add, Nat.mul_one, Nat.add_comm (n * j), pow_add, ← Nat.div_div_eq_div_mul]
        rw [Nat.add_mul_div_left _ _ (Nat.two_pow_pos n), Nat.div_eq_of_lt (Nat.mod_lt _ (Nat.two_pow_pos n)), Nat.zero_add]
      simp [packElts, this, ih]

theorem foldl_add_floor (xs ys : List Int) (a : Int) :
    (List.zipWith Val.mul (xs.map Val.ofInt) (ys.map Val.ofInt)).foldl (fun t p => t + p.1.floor) a
      = a + (List.zipWith (· * ·) xs ys).sum := by
  induction xs generalizing ys a with
  | nil => simp
  | cons x xs ih =>
    cases ys with
    | nil => simp
    | cons y ys =>
      simp only [List.map_cons, List.zipWith_cons_cons, List.foldl_cons, floor_mul_ofInt, ih, List.sum_cons, Int.add_assoc]

theorem cellRun_int {a b : Fmt} (ha : a.int?.isSome = true) (hb : b.int?.isSome = true) (xs ys : List Int) :
    cellRun a b (xs.map Val.ofInt) (ys.map Val.ofInt) = (Val.ofInt (List.zipWith (· * ·) xs ys).sum, 0#6) := by
  simp only [cellRun, ha, hb, Bool.and_self, if_true, foldl_add_floor, Int.zero_add]

/-- Elements that raise nothing raise nothing together. -/
theorem foldl_or_zero {l : List (Nat × FpFlags)} (h : ∀ p ∈ l, p.2 = 0#6) : l.foldl (fun f p => f ||| p.2) 0#6 = 0#6 := by
  induction l with
  | nil => rfl
  | cons p l ih => simp_all

theorem promoteRow_int (old : Nat) (init : Bool) (vs : List Int) (j : Nat) (v : Int) (there : vs[j]? = some v) :
    let p := promoteRow true init old (vs.map Val.ofInt)
    p.2 = 0#6 ∧ elt 64 p.1 j = ((v + if init then 0 else (elt 64 old j : Int)) % 18446744073709551616).toNat := by
  refine ⟨foldl_or_zero (by simp only [List.mem_map]; rintro _ ⟨_, _, rfl⟩; rfl), ?_⟩
  simp only [promoteRow, if_true, elt_packElts]
  simp [there, Val.floor_ofInt, wrap]
  omega

/-- Settles O29: the products are exact integers, and a total is their sum modulo 2^64. -/
theorem integerRunsAreExact : Obligations.IntegerRunsAreExact := by
  unfold Obligations.IntegerRunsAreExact
  intro a b ha hb
  exact ⟨cellRun_int ha hb, promoteRow_int⟩

end Sys2Proof.Machine
end

section
/-! PROOF. Tile instructions row by row, and customer instructions micro-op by micro-op (R84 to R86, R191 to R194). -/

namespace Sys2Proof.Machine

variable {w : Who} {s t : State}

/-! ### Tile instructions -/

section
variable {store : Bool} {o : OpTile} (h : Issues w { len := 8 } s) (core : isSteward w.core = false) (first : o.g = true → w.strand = 0)
  (legal : tileBad o = false) (room : (strandAt w s).lcnt < 8)
include h core first legal room

/-- A tile instruction whose rows have all been issued completes. -/
theorem issue_tile_past (past : o.rows.toNat < (strandAt w s).tstart.toNat) :
    issue w { len := 8 } (tileBody store o) s
      = passed w 8 s ((atIssue w s).modStrand w.core w.strand fun y => { y with tstart := 0 }) := by
  refine issue_done h ?_
  simp only [tileBody, envOf_k, envOf_i, strandAt_eq, unit_there core first, legal, Nat.not_le.2 room, past, Bool.false_eq_true, if_false,
    if_true]

/-- Its first row issues with the instruction. -/
theorem issue_tile_row (left : (strandAt w s).tstart.toNat ≤ o.rows.toNat)
    (row : rowIssue (tileRunOf w s store o) (envOf w s) (tileStarted w s store o) = .issued t) :
    issue w { len := 8 } (tileBody store o) s = if (strandAt w s).tstart.toNat = o.rows.toNat
      then passed w 8 s (t.afterRow w.core w.strand true) else (t.afterRow w.core w.strand false).issued w.core w.strand (slotOf w s) :=
        by
  simp only [tileRunOf, tileStarted] at row
  by_cases last : (strandAt w s).tstart.toNat = o.rows.toNat
  · rw [if_pos last]
    refine issue_done h ?_
    simp only [tileBody, envOf_k, envOf_i, strandAt_eq, unit_there core first, legal, Nat.not_le.2 room, Nat.lt_irrefl, row, last,
      Bool.false_eq_true, if_false, if_true]
  · rw [if_neg last]
    refine issue_stay h ?_
    simp only [tileBody, envOf_k, envOf_i, strandAt_eq, unit_there core first, legal, Nat.not_le.2 room, Nat.not_lt.2 left, row, last,
      Bool.false_eq_true, if_false]

end

/-- A further row issues in its slot (R84). -/
theorem tileRow_issued {r : TileRun} (known : whoOk w = true) (running : (s.strand w.core w.strand).run = .running)
    (tile : (s.strand w.core w.strand).tile = some r) (noHalt : ((strandAt w s).haltReq && (strandAt w s).boundary) = false)
    (noCause : (atIssue w s).tryDeferrable w.core w.strand (slotOf w s) = none)
    (row : rowIssue r (envOf w s) (atIssue w s) = .issued t) :
    let last := (strandAt w s).tstart.toNat == r.o.rows.toNat
    s.tileRow w = (t.afterRow w.core w.strand last).modStrand w.core w.strand fun y =>
      { (if last then y.stepPast 8 else y) with nextSlot := slotOf w s + 4 } := by
  simp only [strandAt, atIssue, slotOf, envOf] at noHalt noCause row
  simp only [State.tileRow, tile, known, running, noHalt, noCause, row, bne_self_eq_false, Bool.not_true, Bool.or_self,
    Bool.false_eq_true, if_false]
  rfl

theorem exec_tile (store : Bool) (o : OpTile) (s : State) :
    exec (if store then .tstore w o else .tload w o) s = .next (issue w { len := 8 } (tileBody store o) s) := by cases store <;> rfl

/-- Settles O30: the first row at issue, each further one in its own slot. -/
theorem tileRowsIssueOneByOne : Obligations.TileRowsIssueOneByOne := by
  unfold Obligations.TileRowsIssueOneByOne
  refine ⟨fun w store o s h core first legal room => ?_, fun w r s t known running tile noHalt noCause row =>
    next_congr (tileRow_issued known running tile noHalt noCause row)⟩
  intro x i
  exact ⟨fun past => (exec_tile store o s).trans (next_congr (issue_tile_past h core first legal room past)),
    fun t left row => (exec_tile store o s).trans (next_congr (issue_tile_row h core first legal room left row))⟩

/-! ### Customer instructions -/

section
variable {o : OpCustom} (h : Issues w { noDelay := true } s) (core : isSteward w.core = false)
include h core

theorem issue_custom_invalid (off : (atIssue w s).rbit (Reg.CLU_UC_DEC (clusterOf w.core) o.sel.toNat) Reg.CLU_UC_DEC.VALID = false) :
    issue w { noDelay := true } (customBody w o) s = raises w s { code := 0x01, xtval := w.word.toNat } := by
  refine issue_illegal h ?_
  simp only [customBody, envOf_k, core, off, Bool.not_false, Bool.or_true, if_true]

theorem issue_custom_privileged (on : (atIssue w s).rbit (Reg.CLU_UC_DEC (clusterOf w.core) o.sel.toNat) Reg.CLU_UC_DEC.VALID = true)
    (barred : (atIssue w s).rbit (Reg.CLU_UC_DEC (clusterOf w.core) o.sel.toNat) Reg.CLU_UC_DEC.UMODE = false)
    (user : (strandAt w s).priv = 0) :
    issue w { noDelay := true } (customBody w o) s = raises w s { code := 0x02, xtval := w.word.toNat } := by
  refine issue_trap h ?_
  simp [customBody, core, on, barred, user, privileged]

theorem issue_custom_starts (on : (atIssue w s).rbit (Reg.CLU_UC_DEC (clusterOf w.core) o.sel.toNat) Reg.CLU_UC_DEC.VALID = true)
    (mayUse : (atIssue w s).rbit (Reg.CLU_UC_DEC (clusterOf w.core) o.sel.toNat) Reg.CLU_UC_DEC.UMODE = true ∨ (strandAt w s).priv ≠ 0) :
    let r := atIssue w s
    let a := Reg.CLU_UC_DEC (clusterOf w.core) o.sel.toNat
    let m : MicroRun := ⟨o.sel.toNat, r.rbit a Reg.CLU_UC_DEC.EPOCH, r.rf a Reg.CLU_UC_DEC.START, 0, r.rf a Reg.CLU_UC_DEC.LEN, o⟩
    issue w { noDelay := true } (customBody w o) s
      = (r.modStrand w.core w.strand fun x => { x with micro := some m }).microIssue w.core w.strand (slotOf w s) w := by
  have allowed : (!(atIssue w s).rbit (Reg.CLU_UC_DEC (clusterOf w.core) o.sel.toNat) Reg.CLU_UC_DEC.UMODE
      && (strandAt w s).priv == 0) = false := by
    cases mayUse <;> simp_all
  refine issue_settled h ?_
  simp only [customBody, envOf_k, envOf_i, envOf_t, strandAt_eq, core, on, allowed, Bool.not_true, Bool.or_self, Bool.false_eq_true,
    if_false]

end

/-- A micro-op that spells an instruction issues as that instruction (R193, R194). -/
theorem microIssue_eq {k i t : Nat} {m : MicroRun} {instr : Instr} {info : Info} {body : Env → State → Res}
    (hm : (s.strand k i).micro = some m) (fits : m.start + m.len ≤ 255) :
    let pa := s.reg (Reg.CLU_UC_OPA (clusterOf k) (m.start + m.next))
    let pb := s.reg (Reg.CLU_UC_OPB (clusterOf k) (m.start + m.next))
    let word := substitute (pa.setWidth 32) (pb.setWidth 32) m.o
    fld pb 63 7 = 0 →
    decodeMicro word (BitVec.ofNat 32 (fld pa 63 32)) { w with word := word, rsvd := false } = some instr →
    bodyOf instr = some (info, body) →
    (s.strand k i).forbids { info with noLast := false } { w with rsvd := false } = false →
    s.microIssue k i t w = s.settle ⟨k, i, t, word.toNat, w.ecc⟩ 4 (body ⟨k, i, t, word.toNat, w.ecc⟩ s) := by
  intro pa pb word clean spells means allowed
  have legal : ¬ (255 < m.start + m.len ∨ fld pb 63 7 ≠ 0) := by omega
  simp only [State.microIssue, hm]
  rw [if_neg legal]
  simp only [pa, pb, word] at spells
  simp only [spells, Option.bind_some, means, allowed, Bool.false_eq_true, if_false]
  rfl

/-- Settles O31: CUSTOM by its entry, a micro-op by the instruction that its word spells. -/
theorem customRunsItsMicroOps : Obligations.CustomRunsItsMicroOps := by
  unfold Obligations.CustomRunsItsMicroOps
  refine ⟨?_, ?_⟩
  · intro w o s h core r u a m
    exact ⟨fun off => next_congr (issue_custom_invalid h core off), fun on barred user => next_congr
      (issue_custom_privileged h core on barred user),
      fun on mayUse => next_congr (issue_custom_starts h core on mayUse)⟩
  · intro w m s known running micro there r u pa pb word e fits clean i info body spells means allowed
    have run : s.microOp w = r.microIssue w.core w.strand (slotOf w s) w := by
      simp only [State.microOp, known, running, micro, bne_self_eq_false, Bool.not_true, Option.isNone_some, Bool.or_self,
        Bool.false_eq_true, if_false]
      rfl
    exact next_congr (run.trans (microIssue_eq there fits clean spells means allowed))

end Sys2Proof.Machine
end

section
/-! SUPPORT. A word's fields and bits after one field of it was written. -/

namespace Sys2Proof.Machine

variable {n hi lo : Nat}

/-- A word with a field written: what stands above it, the field, and what stands below it. -/
theorem toNat_setFld (x : BitVec n) (hi lo v : Nat) :
    (setFld x hi lo v).toNat
      = (2 ^ lo * (2 ^ (hi + 1 - lo) * (x.toNat / 2 ^ lo / 2 ^ (hi + 1 - lo)) + v % 2 ^ (hi + 1 - lo)) + x.toNat % 2 ^ lo) % 2 ^ n := by
  have parts := Nat.div_add_mod (x.toNat / 2 ^ lo) (2 ^ (hi + 1 - lo))
  have low := Nat.div_add_mod x.toNat (2 ^ lo)
  rw [setFld, BitVec.toNat_ofNat, fld_eq]
  congr 1
  generalize x.toNat / 2 ^ lo % 2 ^ (hi + 1 - lo) = b at parts
  generalize 2 ^ (hi + 1 - lo) * (x.toNat / 2 ^ lo / 2 ^ (hi + 1 - lo)) = a at parts
  generalize v % 2 ^ (hi + 1 - lo) = w
  rw [← parts, Nat.mul_add, Nat.mul_comm (2 ^ lo) b] at low
  rw [Nat.mul_add, Nat.mul_comm (2 ^ lo) w]
  generalize x.toNat % 2 ^ lo = r at low
  omega

/-- Every bit of it (R6). -/
theorem getLsbD_setFld (x : BitVec n) (hn : hi < n) (v i : Nat) :
    (setFld x hi lo v).getLsbD i = if lo ≤ i ∧ i ≤ hi then v.testBit (i - lo) else x.getLsbD i := by
  by_cases hi' : i < n
  · rw [← BitVec.testBit_toNat, toNat_setFld, Nat.testBit_mod_two_pow, Nat.testBit_two_pow_mul_add _ (Nat.mod_lt _ (Nat.two_pow_pos lo)),
      Nat.testBit_two_pow_mul_add _ (Nat.mod_lt _ (Nat.two_pow_pos _)), Nat.testBit_mod_two_pow, Nat.testBit_mod_two_pow,
      Nat.testBit_div_two_pow, Nat.testBit_div_two_pow, ← BitVec.testBit_toNat]
    by_cases below : i < lo
    · simp [hi', below, Nat.not_le.2 below]
    · have above : lo ≤ i := Nat.not_lt.1 below
      by_cases inside : i ≤ hi
      · simp [hi', below, above, inside, show i - lo < hi + 1 - lo by omega]
      · simp [hi', below, inside, show ¬ i - lo < hi + 1 - lo by omega, show i - lo - (hi + 1 - lo) + (hi + 1 - lo) + lo = i by omega]
  · rw [BitVec.getLsbD_of_ge _ _ (by omega), BitVec.getLsbD_of_ge _ _ (by omega), if_neg (by omega)]

theorem testBit_fld (x : BitVec n) (hi lo j : Nat) : (fld x hi lo).testBit j = (decide (j < hi + 1 - lo) && x.getLsbD (lo + j)) := by
  rw [fld, Nat.testBit_mod_two_pow, Nat.testBit_shiftRight, BitVec.testBit_toNat]

/-- A field that does not overlap the one written keeps its value. -/
theorem fld_setFld_disjoint (x : BitVec n) (hn : hi < n) (v : Nat) {hi' lo' : Nat} (apart : hi' < lo ∨ hi < lo') :
    fld (setFld x hi lo v) hi' lo' = fld x hi' lo' := by
  apply Nat.eq_of_testBit_eq
  intro j
  rw [testBit_fld, testBit_fld, getLsbD_setFld x hn]
  by_cases here : j < hi' + 1 - lo'
  · rw [if_neg (by omega)]
  · simp [here]

theorem State.rf_setRf_disjoint {s : State} (h : s.wf = true) (a : Nat) {f g : Fld} (hf : f.hi < 64) (v : Nat)
    (apart : g.hi < f.lo ∨ f.hi < g.lo) : (s.setRf a f v).rf a g = s.rf a g := by
  rw [State.rf, State.setRf, State.reg_setReg h, if_pos rfl, fld_setFld_disjoint _ hf _ apart, State.rf]

end Sys2Proof.Machine
end

section
/-! PROOF. Loads end, lines fill and stores leave; causes, halts and resumes; what taking a cause leaves (R148, R165, R170, R176, R177, R185,
R187, R213 to R215). -/

namespace Sys2Proof.Machine

variable {k i : Nat} {s t : State}

/-! ### Data that arrives -/

theorem completeLoad_ready {n d : Nat} {p : Part} {l : Load} (hl : (s.strand k i).loads[n]? = some l) (hp : l.parts = [p])
    (ready : p.st = .ready d) (rd : State → Nat → W64 × State) :
    s.completeLoad k i n rd = ((s.writeDst k i p.size p.dst d).modStrand k i fun x =>
      Strand.dropLoads { x with loads := x.loads.set n { l with parts := [{ p with st := .written }] } }).releaseLoads k i := by
  have settled : p.settled = { p with st := .written } := by simp only [Part.settled, ready]
  simp only [State.completeLoad, hl, hp, List.foldl_cons, List.foldl_nil, State.writePart, ready, List.map_cons, List.map_nil, settled]

/-- A line that a load asked for, and that nothing has invalidated since, goes to its loads and into the cache (R213). -/
theorem lineFill_kept {n : Nat} {f : Fetch} {d : VReg}
    (here : ((s.core k).fetches.find? fun g => g.line == n && (g.data.isSome || g.failed)) = some f) (data : f.data = some d)
    (good : f.failed = false) (demand : f.demand = true) (keep : f.keep = true) :
    let with_ (m : Nat) : VReg := (f.merges.take m).foldl lineMerge d
    s.lineFill k n = (((s.modCore k fun c =>
        Core.mapParts { c with fetches := c.fetches.filter (·.tag != f.tag) } fun p => match p.st with
          | .fetching t m => if t = f.tag then { p with st := .ready (lineBits (with_ m) (p.pa % 128) p.size) } else p
          | _ => p).modCore k fun c =>
            { c with l1 := cacheAlloc 3 c.l1 ⟨n, with_ f.merges.length⟩, side := c.side.filter (·.line != n) }).pump k) := by
  simp only [State.lineFill, here, data, good, demand, keep, Bool.not_true, Bool.or_self, Bool.false_eq_true, if_false, if_true] <;> rfl

theorem storeQueueSend_eq {x : StoreEnt} {l : List StoreEnt} (head : (s.core k).storeq = x :: l) (free : (s.core k).mayLeave x = true) :
    let t := s.modCore k fun c => { c with storeq := l }
    s.storeQueueSend k = (match x.dst with
       | .mem pa key => (t.modCore k fun c => { c with unacked := c.unacked ++ [x] }).coreRequest k .wr pa x.tag 0 key x.bytes
       | .reg a => t.regStore (agentOf k) a (BitVec.ofNat 64 (ofBytes x.bytes))
       | .sig c v =>
         if ownCounter k c then (t.ctrAdd c v.toInt).2
         else t.inject { kind := .sig, part := t.partOfCore k, dst := t.ctrDst k c, src := epCore k, tag := x.tag, addr := c.addr,
                         payload := toBytes 8 (2 ^ 32 * v.toNat) }).releaseStores k := by
  simp only [State.storeQueueSend, head, free, Bool.not_true, Bool.false_eq_true, if_false] <;> rfl

/-- Settles O32: the load's one part, the kept line, and the oldest store by its destination. -/
theorem memoryDataArrives : Obligations.MemoryDataArrives := by
  unfold Obligations.MemoryDataArrives
  refine ⟨fun k i n d p l s hl hp ready => next_congr (completeLoad_ready hl hp ready _),
    fun k n f d s here data good demand keep => ?_, fun k x l s head free => ?_⟩
  · intro with_
    exact next_congr (lineFill_kept here data good demand keep)
  · intro t
    have eq := storeQueueSend_eq head free
    refine ⟨fun pa key dst => next_congr ?_, fun a dst => next_congr ?_, fun c v dst own => next_congr ?_⟩
    · rw [eq, dst]
    · rw [eq, dst]
    · rw [eq, dst]
      simp only [own, if_true]
      rfl

/-! ### Causes, halts and resumes -/

variable {w : Who}

/-- A Running strand at a boundary takes what it stops for (R172). -/
theorem atBoundary_running (known : whoOk w = true) (free : s.heldByPause w.core w.strand = false) (running : (strandAt w s).run = .running)
    (stands : (strandAt w s).boundary = true) {wants : Strand → Nat → Bool} (wanted : wants (strandAt w s) (slotOf w s) = true)
    (f : State → Nat → State) : s.atBoundary w wants f = f (atIssue w s) (slotOf w s) := by
  simp only [strandAt, atIssue, slotOf] at running stands wanted
  simp only [State.atBoundary, known, free, stands, wanted, running, Bool.not_true, Bool.or_self, Bool.false_eq_true, if_false]
  rfl

/-- A deferrable cause that is taken is enabled, and taken at a boundary (R170). -/
theorem deferrable_of_tryDeferrable (h : s.tryDeferrable k i n = some t) :
    (s.strand k i).boundary = true ∧ ((s.strand k i).deferrable n).isSome = true := by
  unfold State.tryDeferrable at h
  cases hb : (s.strand k i).boundary <;> cases hd : (s.strand k i).deferrable n <;> simp_all

theorem exceptionEntry_taken (known : whoOk w = true) (free : s.heldByPause w.core w.strand = false) (running : (strandAt w s).run = .running)
    (taken : (atIssue w s).tryDeferrable w.core w.strand (slotOf w s) = some t) : s.exceptionEntry w = t := by
  obtain ⟨stands, enabled⟩ := deferrable_of_tryDeferrable taken
  rw [State.exceptionEntry, atBoundary_running known free running stands (by exact enabled), taken]
  rfl

theorem resumeGo_eq {usepc : Bool} {pc : W48} (halted : (s.strand k i).run = .restStop) :
    let r := Reg.CORE_RSTOP k i
    s.resumeGo k i usepc pc = (((s.modStrand k i fun x =>
      { x with run := .running, pc := if usepc then pc else BitVec.ofNat 48 (s.rf r Reg.CORE_RSTOP.PC)
               nextSlot := firstSlot ((s.core k).cycle + 8) i }).setRf r Reg.CORE_RSTOP.REASON 0).setRf r Reg.CORE_RSTOP.CODE 0).setRf r
        Reg.CORE_RSTOP.ORIG 0 := by
  simp only [State.resumeGo, halted, if_true]

/-- What a resumed strand and its register hold (R187). -/
theorem resumeGo_fields (usepc : Bool) (pc : W48) (halted : (s.strand k i).run = .restStop) (hi : i < 4) (wf : s.wf = true) :
    ∃ t, exec (.resumeGo k i usepc pc) s = .next t ∧ (t.strand k i).run = .running
      ∧ (t.strand k i).pc = (if usepc then pc else BitVec.ofNat 48 (s.rf (Reg.CORE_RSTOP k i) Reg.CORE_RSTOP.PC))
      ∧ t.rf (Reg.CORE_RSTOP k i) Reg.CORE_RSTOP.REASON = 0 := by
  refine ⟨_, next_congr (resumeGo_eq halted), ?_⟩
  have resumed (f : Strand → Strand) (a b c : Nat) (x y z : Fld) (m n p : Nat) :
      ((((s.modStrand k i f).setRf a x m).setRf b y n).setRf c z p).strand k i = f (s.strand k i) :=
    (State.strand_modStrand wf k k hi hi f).trans (if_pos ⟨rfl, rfl⟩)
  refine ⟨by rw [resumed], by rw [resumed], ?_⟩
  have wf1 := (kept_modStrand s k i (fun x => { x with
    run := .running, pc := if usepc then pc else BitVec.ofNat 48 (s.rf (Reg.CORE_RSTOP k i) Reg.CORE_RSTOP.PC)
    nextSlot := firstSlot ((s.core k).cycle + 8) i })).form wf
  have wf2 := (kept_setRf _ (Reg.CORE_RSTOP k i) Reg.CORE_RSTOP.REASON 0).form wf1
  have wf3 := (kept_setRf _ (Reg.CORE_RSTOP k i) Reg.CORE_RSTOP.CODE 0).form wf2
  rw [State.rf_setRf_disjoint wf3 _ (by decide) _ (by decide), State.rf_setRf_disjoint wf2 _ (by decide) _ (by decide),
    State.rf_setRf wf1 _ (by decide) (by decide)]
  rfl

/-- Settles O34: a boundary of a Running strand, the event registers, and the fields of a resume. -/
theorem causesHaltsAndResumes : Obligations.CausesHaltsAndResumes := by
  unfold Obligations.CausesHaltsAndResumes
  refine ⟨fun w s t known free running => ⟨fun taken => next_congr (exceptionEntry_taken known free running taken), fun halt stands => ?_⟩,
    fun k i c s => ⟨fun due => next_congr (if_pos due), rfl, fun usepc pc halted hi wf => ?_, fun v => ⟨fun off => ?_, fun on => ?_⟩⟩⟩
  · exact next_congr (atBoundary_running known free running stands (wants := fun x _ => x.haltReq) halt _)
  · exact resumeGo_fields usepc pc halted hi wf
  · exact next_congr (modStrand_congr (if_pos off))
  · exact next_congr (modStrand_congr (if_neg on))

/-! ### What taking a cause leaves -/

/-- A strand without a mode in its shadow, a tile or a load outstanding stands as it is when it takes a cause. -/
theorem flushModes_stopTile {x : Strand} (modes : x.shadow = []) (tile : x.tile = none) (loads : x.loads = []) :
    x.flushModes.stopTile = x := by
  have flushed : x.flushModes = x := by
    unfold Strand.flushModes
    rw [modes]
    exact (congrArg (fun l => { x with shadow := l }) modes.symm).trans rfl
  rw [flushed]
  unfold Strand.stopTile Strand.dropLoads
  rw [loads]
  cases x
  simp_all

/-- The flags as XSTATUS and GTO number them. -/
def flagBits (f : Flags) : Nat := bit f.z + 2 * bit f.n + 4 * bit f.c + 8 * bit f.v

theorem testBit_flagBits (f : Flags) : (flagBits f).testBit 0 = f.z ∧ (flagBits f).testBit 1 = f.n ∧ (flagBits f).testBit 2 = f.c
    ∧ (flagBits f).testBit 3 = f.v := by
  obtain ⟨z, n, c, v⟩ := f
  cases z <;> cases n <;> cases c <;> cases v <;> decide

/-- A bit of a number, as arithmetic tells it. -/
theorem getLsbD_ofNat_eq {n : Nat} (m : Nat) {j : Nat} (h : j < n) : (BitVec.ofNat n m).getLsbD j = decide (m / 2 ^ j % 2 = 1) := by
  rw [BitVec.getLsbD_ofNat, decide_eq_true h, Bool.true_and, Nat.testBit_eq_decide_div_mod_eq]

/-- XCAUSE names the cause's code, the delay slot and the precise trap (Table 6-3). -/
theorem xcause_fields (ds p : Bool) (c : Cause) (code : c.code < 32) :
    let v : W32 := BitVec.ofNat 32 (c.code + 32 * bit ds + 64 * bit p + 2 ^ 8 * (c.sub % 256) + 2 ^ 16 * (c.orig % 32))
    fld v 4 0 = c.code ∧ tb v 5 = ds ∧ tb v 6 = p := by
  refine ⟨?_, ?_, ?_⟩
  · rw [fld_eq, BitVec.toNat_ofNat]
    omega
  · rw [tb, getLsbD_ofNat_eq _ (by decide)]
    cases ds <;> cases p <;> simp [bit] <;> omega
  · rw [tb, getLsbD_ofNat_eq _ (by decide)]
    cases ds <;> cases p <;> simp [bit] <;> omega

/-- XSTATUS holds the status word's own bits and the flags (Table 6-3). -/
theorem xstatus_fields (st : W32) (f : Flags) :
    let v := setFld (st &&& 0x7F#32) 11 8 (flagBits f)
    fld v 6 0 = fld st 6 0 ∧ tb v 8 = f.z ∧ tb v 9 = f.n ∧ tb v 10 = f.c ∧ tb v 11 = f.v := by
  obtain ⟨z, n, c, v⟩ := testBit_flagBits f
  refine ⟨?_, ?_, ?_, ?_, ?_⟩
  · rw [fld_setFld_disjoint _ (by decide) _ (by decide), fld_eq, fld_eq, BitVec.toNat_and,
      show BitVec.toNat 0x7F#32 = 2 ^ 7 - 1 from rfl, Nat.and_two_pow_sub_one_eq_mod]
    omega
  all_goals
    rw [tb, getLsbD_setFld _ (by decide), if_pos (by decide)]
    assumption

/-- The handler runs with MASK set at its own level; PRECISE and the rounding mode stay (R165, R176). -/
theorem handler_status (st : W32) (k : Nat) :
    let v := setFld (setBit st 0 true) 2 1 (handlerLevel k)
    tb v 0 = true ∧ fld v 2 1 = (if isSteward k then 3 else 1) ∧ tb v 3 = tb st 3 ∧ fld v 6 4 = fld st 6 4 := by
  have bits (j : Nat) : (setBit st 0 true).getLsbD j = (st.getLsbD j || decide (j = 0)) := by
    simp only [setBit, if_true, BitVec.getLsbD_or, pow_zero]
    congr 1
    cases j <;> simp [BitVec.getLsbD_ofNat, Nat.testBit_succ]
  refine ⟨?_, ?_, ?_, ?_⟩
  · rw [tb, getLsbD_setFld _ (by decide), if_neg (by decide), bits]
    simp
  · rw [fld_setFld _ (by decide) (by decide), handlerLevel]
    split <;> rfl
  · rw [tb, getLsbD_setFld _ (by decide), if_neg (by decide), bits]
    simp [tb]
  · rw [fld_setFld_disjoint _ (by decide) _ (by decide)]
    apply Nat.eq_of_testBit_eq
    intro j
    rw [testBit_fld, testBit_fld, bits]
    simp

/-- Settles O35: the fields that Table 6-3 names, of a strand with no mode in its shadow, no tile and no load outstanding. -/
theorem takingACause : Obligations.TakingACause := by
  unfold Obligations.TakingACause
  intro x k t xpc ds p c modes tile loads code xtval y
  have same := flushModes_stopTile modes tile loads
  have kept {α : Type} (f : Strand → α) : f x.flushModes.stopTile = f x := congrArg f same
  have saved : y.xstatus = setFld (x.status &&& 0x7F#32) 11 8 (flagBits x.flags) :=
    kept fun z => setFld (z.status &&& 0x7F#32) 11 8 (flagBits z.flags)
  have level : y.status = setFld (setBit x.status 0 true) 2 1 (handlerLevel k) :=
    kept fun z => setFld (setBit z.status 0 true) 2 1 (handlerLevel k)
  obtain ⟨own, z, n, cy, v⟩ := xstatus_fields x.status x.flags
  obtain ⟨mask, priv, precise, rm⟩ := handler_status x.status k
  obtain ⟨cause, slot, trap⟩ := xcause_fields ds p c code
  rw [← saved] at own z n cy v
  rw [← level] at mask priv precise rm
  have value : y.xtval.toNat = c.xtval := Nat.mod_eq_of_lt xtval
  exact ⟨rfl, own, z, n, cy, v, cause, slot, trap, value, mask, priv, precise, congrArg Rm.ofCode rm, kept Strand.l0,
    kept Strand.l1, rfl, rfl, kept Strand.tstart, rfl, kept Strand.xvec, rfl, rfl, rfl, kept Strand.g,
    kept Strand.a, kept Strand.v, kept Strand.f, kept Strand.flags⟩

end Sys2Proof.Machine
end

section
/-! PROOF. Invalidations, the firmware fault queue, microcode entries and counter registers (R196, R218, R221, R233, R234, R298, R300). -/

namespace Sys2Proof.Machine

variable {s : State}

/-! ### The same change to several cores -/

theorem clusters_foldl_modCore (l : List Nat) (f : Core → Core) (s : State) :
    (l.foldl (fun s k => s.modCore k f) s).clusters = s.clusters := by
  induction l generalizing s with
  | nil => rfl
  | cons k l ih => rw [List.foldl_cons, ih]; rfl

theorem core_foldl_modCore {l : List Nat} (distinct : l.Nodup) (f : Core → Core) (wf : s.wf = true) (j : Nat) :
    (l.foldl (fun s k => s.modCore k f) s).core j = if j ∈ l then f (s.core j) else s.core j := by
  induction l generalizing s with
  | nil => simp
  | cons k l ih =>
    obtain ⟨fresh, rest⟩ := List.nodup_cons.1 distinct
    rw [List.foldl_cons, ih rest ((kept_modCore s k f).form wf), State.core_modCore wf]
    by_cases e : j = k
    · subst e
      simp [fresh]
    · simp [e]

/-! ### MMU invalidation -/

theorem clusterCores_nodup (u : Nat) : (clusterCores u).Nodup :=
  List.nodup_range.map fun _ _ h => Nat.add_left_cancel h

theorem mem_clusterCores {u k : Nat} (h : k / 40 = u) : k ∈ clusterCores u :=
  List.mem_map.2 ⟨k % 40, List.mem_range.2 (Nat.mod_lt _ (by decide)), by omega⟩

/-- An invalidation's entries leave every buffer of the cluster, and its walks will not install (R233). -/
theorem mmuInvalidate_fields {u : Nat} (x : InvScope) (wf : s.wf = true) (idle : (s.cluster u).inv = none) :
    let t := s.mmuInvalidate u x
    (t.cluster u).inv.isSome = true
      ∧ (t.cluster u).stlb = (s.cluster u).stlb.filter (fun e => !e.named x)
      ∧ (t.cluster u).nonleaf = (s.cluster u).nonleaf.filter (fun e => !e.named x)
      ∧ (∀ y ∈ (t.cluster u).walks, y.stale = true)
      ∧ ∀ k, k / 40 = u → (t.core k).dtlb = (s.core k).dtlb.filter (fun e => !e.named x)
        ∧ (t.core k).itlb = (s.core k).itlb.filter (fun e => !e.named x) := by
  have busy : ¬ (s.cluster u).inv.isSome = true := by simp [idle]
  intro t
  have cluster (f : Cluster → Cluster) (g : Core → Core) :
      ((clusterCores u).foldl (fun s k => s.modCore k g) (s.modCluster u f)).cluster u = f (s.cluster u) := by
    rw [State.cluster, clusters_foldl_modCore]
    exact (State.cluster_modCluster wf u u f).trans (if_pos rfl)
  have core (f : Cluster → Cluster) (g : Core → Core) (k : Nat) (hk : k / 40 = u) :
      ((clusterCores u).foldl (fun s k => s.modCore k g) (s.modCluster u f)).core k = g (s.core k) := by
    rw [core_foldl_modCore (clusterCores_nodup u) g ((kept_modCluster s u f).form wf), if_pos (mem_clusterCores hk)]
    rfl
  have eq : t = _ := if_neg busy
  rw [eq]
  dsimp only
  refine ⟨by rw [cluster]; rfl, by rw [cluster], by rw [cluster], ?_, fun k hk => ⟨by rw [core _ _ k hk], by rw [core _ _ k hk]⟩⟩
  rw [cluster]
  simp

/-! ### Registers -/

theorem ucDecWrite_fields (u e : Nat) (v : W64) (wf : s.wf = true) :
    let r := Reg.CLU_UC_DEC u e
    let t := s.ucDecWrite u e v
    t.rf r Reg.CLU_UC_DEC.VALID = fld v 0 0 ∧ t.rf r Reg.CLU_UC_DEC.UMODE = fld v 1 1
      ∧ t.rf r Reg.CLU_UC_DEC.START = fld v 9 2 ∧ t.rf r Reg.CLU_UC_DEC.LEN = fld v 14 10
      ∧ t.rf r Reg.CLU_UC_DEC.EPOCH = 1 - s.rf r Reg.CLU_UC_DEC.EPOCH := by
  intro r t
  have w1 := (kept_setRf s r Reg.CLU_UC_DEC.VALID (fld v 0 0)).form wf
  have w2 := (kept_setRf _ r Reg.CLU_UC_DEC.UMODE (fld v 1 1)).form w1
  have w3 := (kept_setRf _ r Reg.CLU_UC_DEC.START (fld v 9 2)).form w2
  have w4 := (kept_setRf _ r Reg.CLU_UC_DEC.LEN (fld v 14 10)).form w3
  have small (hi lo : Nat) : fld v hi lo % 2 ^ (hi + 1 - lo) = fld v hi lo := Nat.mod_eq_of_lt (fld_lt v hi lo)
  simp only [t, State.ucDecWrite]
  refine ⟨?_, ?_, ?_, ?_, ?_⟩
  · rw [State.rf_setRf_disjoint w4 _ (by decide) _ (by decide), State.rf_setRf_disjoint w3 _ (by decide) _ (by decide),
      State.rf_setRf_disjoint w2 _ (by decide) _ (by decide), State.rf_setRf_disjoint w1 _ (by decide) _ (by decide),
      State.rf_setRf wf _ (by decide) (by decide)]
    exact small 0 0
  · rw [State.rf_setRf_disjoint w4 _ (by decide) _ (by decide), State.rf_setRf_disjoint w3 _ (by decide) _ (by decide),
      State.rf_setRf_disjoint w2 _ (by decide) _ (by decide), State.rf_setRf w1 _ (by decide) (by decide)]
    exact small 1 1
  · rw [State.rf_setRf_disjoint w4 _ (by decide) _ (by decide), State.rf_setRf_disjoint w3 _ (by decide) _ (by decide),
      State.rf_setRf w2 _ (by decide) (by decide)]
    exact small 9 2
  · rw [State.rf_setRf_disjoint w4 _ (by decide) _ (by decide), State.rf_setRf w3 _ (by decide) (by decide)]
    exact small 14 10
  · rw [State.rf_setRf w4 _ (by decide) (by decide)]
    refine Nat.mod_eq_of_lt (lt_of_le_of_lt (Nat.sub_le _ _) ?_)
    decide

theorem invalidationDone_clear {u b : Nat} {l : List (Nat × Nat)} (going : (s.cluster u).inv = some (b, l))
    (walks : (s.cluster u).walks.any (·.stale) = false) (bursts : (s.cluster u).bursts.any (·.accessOpen b l) = false)
    (cores : (clusterCores u).any (fun k => (s.core k).accessOpen b l) = false) :
    s.invalidationDone u = s.modCluster u fun c => { c with inv := none } := by
  simp only [State.invalidationDone, going, walks, bursts, cores, Bool.or_self, Bool.false_eq_true, if_false]

theorem synValWrite_eq {n : Nat} {v : W32} {c : CounterId} (named : counterOfNum n = some c) (live : ∀ k i, c = .core k i → s.coreLive k = true) :
    s.synValWrite n v = (s.ctrAssign c v.toNat).2 := by
  cases c with
  | core k i => simp only [State.synValWrite, named, live k i rfl, if_true]
  | shared i => simp only [State.synValWrite, named]

/-- Settles O37: what leaves the caches, the buffers and the fault queue, and the fields that the writes set. -/
theorem invalidationsAndFaultQueue : Obligations.InvalidationsAndFaultQueue := by
  unfold Obligations.InvalidationsAndFaultQueue
  refine ⟨fun k s wf => ?_, fun k s => rfl, fun u e v s _ _ wf => ?_, fun u x s _ wf idle => ?_,
    fun u b l s going walks bursts cores => next_congr (invalidationDone_clear going walks bursts cores), fun u q l s head => ?_,
    fun n v c s named live => next_congr (synValWrite_eq named live), fun g h s hg => next_congr (if_pos hg)⟩
  · refine ⟨s.dinv k, rfl, ?_⟩
    have core (f : Core → Core) : (s.modCore k f).core k = f (s.core k) := (State.core_modCore wf k k f).trans (if_pos rfl)
    refine ⟨?_, ?_, rfl⟩ <;> rw [State.dinv, State.dropAllLines, core]
  · intro r
    exact ⟨s.ucDecWrite u e v, rfl, ucDecWrite_fields u e v wf⟩
  · intro i sc
    refine ⟨s.mmuInvalidate u sc, ?_, mmuInvalidate_fields sc wf idle⟩
    cases x <;> rfl
  · intro t
    exact ⟨next_congr (by simp only [State.fqAnswer, head, if_true]; rfl),
      next_congr (by simp only [State.fqAnswer, head, Bool.false_eq_true, if_false]; rfl)⟩

end Sys2Proof.Machine
end

section
/-! PROOF. The channels of a DMA engine, their descriptors and their bursts (R286 to R294, R296). -/

namespace Sys2Proof.Machine

/-- Settles O38. -/
theorem dmaChannelsAndDescriptors : Obligations.DmaChannelsAndDescriptors := by
  intro u n s hu hn cfg
  have there : (!chanOk u n) = false := by simp [chanOk, hu, hn]
  refine ⟨fun h => ?_, fun h => ?_, fun h => ?_, fun h => ?_, fun h run => ?_, fun h quiet none => ?_, fun head => ?_, ?_⟩
  · simp only [exec, execChannelEnable, State.channelEnable, there, h, Bool.false_eq_true, if_false]
    rfl
  · simp only [exec, execChannelEnable, State.channelEnable, there, h, Bool.false_eq_true, if_false]
    rfl
  · simp only [exec, execChannelDisable, State.channelDisable, there, h, Bool.false_eq_true, if_false]
    rfl
  · simp only [exec, execChannelDisable, State.channelDisable, there, h, Bool.false_eq_true, if_false]
    rfl
  · simp only [exec, execChannelOn, State.channelOn, h, run, Bool.false_eq_true, if_false, if_true]
  · intro idle
    have off : exec (.channelOff u n) s = .next (if idle.rbit (Reg.DMA_CH_STAT u n) Reg.DMA_CH_STAT.PENDING_ON
        then (idle.setChanPending u n false).setChanState u n .starting else idle.setChanState u n .off) := by
      simp only [exec, execChannelOff, State.channelOff, h, quiet, none, List.length_nil, writeBackAll, ne_eq,
        not_true, false_or, Bool.false_eq_true, if_false]
      rfl
    exact ⟨fun on => by rw [off, if_pos on], fun on => by rw [off, on]; rfl⟩
  · intro h
    have go : exec (.dmaGo u n head) s = .next (if h.chanState u n = .on ∧ !h.rbit (Reg.DMA_CH_STAT u n) Reg.DMA_CH_STAT.BUSY
        then (h.modChan u n fun c => { c with next := some (head.toNat * 64) }).settleBusy u n else h) := by
      simp only [exec, execDmaGo, State.dmaGo, there, Bool.false_eq_true, if_false]
      rfl
    refine ⟨fun on idle => ?_, fun busy => ?_⟩
    · rw [go, if_pos ⟨on, by rw [idle]; rfl⟩]
    · rw [go, if_neg]
      rintro ⟨on, idle⟩
      rcases busy with off | busy
      · exact off on
      · simp [busy] at idle
  · intro off b t on next ready place read bytes d after
    have free : ((s.cluster u).chan n).runs.getLast?.any (fun r => r.bad.isSome || !r.issuedAll) = false := by
      rw [Option.any_eq_false]
      intro r last
      obtain ⟨good, issued⟩ := ready r last
      simp [good, DescRun.issuedAll, issued]
    have fetched : s.physRead (clmAddr u off) 64 none = (.inr b, t) := Prod.ext bytes read.symm
    have begins : exec (.descriptorRead u n) s = .next (
        if !d.valid then (t.modChan u n fun c => { c with next := none }).settleBusy u n
        else if d.malformed then t.newTag.2.modChan u n fun c =>
          { c with next := after, runs := c.runs ++ [{ id := t.newTag.1, off := off, d := d, bad := some 0x08 }] }
        else if d.fence && !((s.cluster u).chan n).runs.isEmpty then s
        else (t.newTag.2.modChan u n fun c => { c with next := after, runs := c.runs ++ [{ id := t.newTag.1, off := off, d := d }] }).setRf
          (Reg.DMA_CH_STAT u n) Reg.DMA_CH_STAT.CUR (off / 64)) := by
      simp only [exec, execDescriptorRead, State.descriptorRead, next, on, free, fetched, clmBytes, Nat.not_le.2 place, ne_eq,
        not_true, false_or, Bool.false_eq_true, if_false]
      rfl
    refine ⟨fun ended => ?_, fun valid bad => ?_, fun valid good fence => ?_⟩
    · rw [begins, ended]; rfl
    · rw [begins, valid, bad]; rfl
    · have clear : (d.fence && !((s.cluster u).chan n).runs.isEmpty) = false := by
        cases hf : d.fence with
        | false => rfl
        | true => rw [fence hf]; rfl
      rw [begins, valid, good, clear]; rfl

/-! ### Bursts stay in their lines -/

theorem sideAddr_eq (base line : Nat) (stride : W64) (pos : Nat) : (sideAddr base line stride pos : Int) =
    ((base : Int) + (pos / line : Nat) * signed 32 (fld stride 63 32) + (pos % line : Nat)) % (2 ^ 48 : Nat) :=
  Int.toNat_of_nonneg (Int.emod_nonneg _ (by decide))

/-- What stays in its line stays in the transfer. -/
theorem add_le_mul_of_mod_add_le {pos n line count : Nat} (inside : pos < line * count) (fits : pos % line + n ≤ line) :
    pos + n ≤ line * count := by
  have last : pos / line + 1 ≤ count := Nat.div_lt_of_lt_mul inside
  calc pos + n = line * (pos / line) + (pos % line + n) := by rw [← Nat.add_assoc, Nat.div_add_mod]
    _ ≤ line * (pos / line) + line := Nat.add_le_add_left fits _
    _ = line * (pos / line + 1) := rfl
    _ ≤ line * count := Nat.mul_le_mul_left _ last

/-- Settles O39. -/
theorem dmaBurstsStayInTheirLines : Obligations.DmaBurstsStayInTheirLines := by
  intro d pos good inside n
  simp only [Desc.malformed, Bool.or_eq_false_iff, decide_eq_false_iff_not, not_not, beq_eq_false_iff_ne] at good
  obtain ⟨⟨⟨⟨⟨⟨⟨⟨-, hs⟩, -⟩, hd⟩, -⟩, same⟩, -⟩, -⟩, -⟩ := good
  have source := Nat.mod_lt pos (Nat.pos_of_ne_zero hs)
  have dest := Nat.mod_lt pos (Nat.pos_of_ne_zero hd)
  have hn : n = min (min (d.sline - pos % d.sline) (d.dline - pos % d.dline))
    (min (512 - d.srcAt pos % 512) (512 - d.dstAt pos % 512)) := rfl
  have fits : pos % d.sline + n ≤ d.sline := by omega
  exact ⟨by omega, by omega, fits, by omega, by omega, by omega, add_le_mul_of_mod_add_le inside fits, same,
    sideAddr_eq .., sideAddr_eq ..⟩

end Sys2Proof.Machine
end

section
/-! SUPPORT. What every operation keeps: the canonical form of the maps and the queue of commands; and, of the operations that the DMA engine's
translations and requests use, the bursts outstanding at each cluster. -/

namespace Sys2Proof.Machine

/-- What a command started from `a` has kept in `s`; with `b`, the bursts of every cluster too. -/
structure Keeps (b : Bool) (a s : State) : Prop where
  kept : Kept a s
  bursts : b = true → a.wf = true → ∀ u, (s.cluster u).bursts = (a.cluster u).bursts

/-- The parts of a state that are neither a map nor the queue replaced: a record update of the model as a function of its own. -/
def State.withRest (s : State) (waiters : List Waiter) (net : Net) (ext : ExtState) (host : HostState) (parts : List Partition)
    (time : TimeState) (sec : SecState) (phys : PhysState) (traces : List Trace) (notices : List Notice) (stops : List BankId)
    (free : Nat) : State :=
  { s with waiters := waiters, net := net, ext := ext, host := host, parts := parts, time := time, sec := sec,
           phys := phys, traces := traces, notices := notices, stops := stops, free := free }

theorem State.mk_eq_withRest (s : State) (waiters net ext host parts time sec phys traces notices stops free) :
    (⟨s.regs, s.mem, s.cores, s.clusters, s.msgs, waiters, net, ext, s.trail, host, parts, time, sec, phys, traces, notices, stops, free,
      s.pending⟩ : State) = s.withRest waiters net ext host parts time sec phys traces notices stops free := rfl

section
variable {b : Bool} {a s : State}

theorem Keeps.refl (b : Bool) (s : State) : Keeps b s s := ⟨.refl s, fun _ _ _ => rfl⟩

/-- A step that keeps the maps' form and changes no cluster. -/
theorem Keeps.then {t : State} (h : Keeps b a s) (g : Kept s t) (same : t.clusters = s.clusters) : Keeps b a t :=
  ⟨h.kept.trans g, fun on w u => (congrArg (fun m => (Sparse.get (fun _ => ({} : Cluster)) m u).bursts) same).trans (h.bursts on w u)⟩

/-- The decision procedure is a variable of the lemma: the state to keep tells which it is. -/
theorem Keeps.ite {t : State} {c : Prop} {_ : Decidable c} (h : Keeps b a s) (g : Keeps b a t) : Keeps b a (if c then s else t) := by
  split
  · exact h
  · exact g

theorem Keeps.foldl {α : Type} {f : State → α → State} (h : Keeps b a s) (hf : ∀ s x, Keeps b a s → Keeps b a (f s x)) (l : List α) :
    Keeps b a (l.foldl f s) := by
  induction l generalizing s with
  | nil => exact h
  | cons x l ih => exact ih (hf s x h)

theorem Keeps.foldl_snd {α β : Type} {f : β × State → α → β × State} {y : β} {l : List α} (h : Keeps b a s)
    (hf : ∀ y x, Keeps b a y.2 → Keeps b a (f y x).2) : Keeps b a (l.foldl f (y, s)).2 := by
  have all (l : List α) (y : β × State) (h : Keeps b a y.2) : Keeps b a (l.foldl f y).2 := by
    induction l generalizing y with
    | nil => exact h
    | cons x l ih => exact ih _ (hf y x h)
  exact all l (y, s) h

theorem Keeps.foldl_fst {α β : Type} {f : State × β → α → State × β} {y : β} {l : List α} (h : Keeps b a s)
    (hf : ∀ y x, Keeps b a y.1 → Keeps b a (f y x).1) : Keeps b a (l.foldl f (s, y)).1 := by
  have all (l : List α) (y : State × β) (h : Keeps b a y.1) : Keeps b a (l.foldl f y).1 := by
    induction l generalizing y with
    | nil => exact h
    | cons x l ih => exact ih _ (hf y x h)
  exact all l (s, y) h

/-- The state of a pair that has been taken apart. -/
theorem Keeps.of_snd {α : Type} {p : α × State} {x : α} {t : State} (h : Keeps b a p.2) (e : p = (x, t)) : Keeps b a t := by
  rw [e] at h
  exact h

theorem Keeps.withRest (h : Keeps b a s) (waiters net ext host parts time sec phys traces notices stops free) :
    Keeps b a (s.withRest waiters net ext host parts time sec phys traces notices stops free) :=
  h.then (.of_maps rfl rfl rfl rfl rfl rfl rfl) rfl
theorem Keeps.setReg (h : Keeps b a s) (k v) : Keeps b a (s.setReg k v) := h.then (kept_setReg ..) rfl
theorem Keeps.setRf (h : Keeps b a s) (k f v) : Keeps b a (s.setRf k f v) := h.then (kept_setRf ..) rfl
theorem Keeps.bump (h : Keeps b a s) (k f n) : Keeps b a (s.bump k f n) := h.then (kept_bump ..) rfl
theorem Keeps.setCore (h : Keeps b a s) (k c) : Keeps b a (s.setCore k c) := h.then (kept_setCore ..) rfl
theorem Keeps.modCore (h : Keeps b a s) (k f) : Keeps b a (s.modCore k f) := h.then (kept_modCore ..) rfl
theorem Keeps.modStrand (h : Keeps b a s) (k i f) : Keeps b a (s.modStrand k i f) := h.then (kept_modStrand ..) rfl
theorem Keeps.modMsg (h : Keeps b a s) (k f) : Keeps b a (s.modMsg k f) := h.then (kept_modMsg ..) rfl
theorem Keeps.modQueue (h : Keeps b a s) (k q f) : Keeps b a (s.modQueue k q f) := h.then (kept_modQueue ..) rfl
theorem Keeps.modPort (h : Keeps b a s) (p f) : Keeps b a (s.modPort p f) := h.then (kept_modPort ..) rfl
theorem Keeps.setByte (h : Keeps b a s) (p x) : Keeps b a (s.setByte p x) := h.then (kept_setByte ..) rfl
theorem Keeps.setBytes (h : Keeps b a s) (p l) : Keeps b a (s.setBytes p l) := h.then (kept_setBytes ..) rfl
theorem Keeps.setNum (h : Keeps b a s) (p n x) : Keeps b a (s.setNum p n x) := h.then (kept_setNum ..) rfl
theorem Keeps.zeroRange (h : Keeps b a s) (lo n) : Keeps b a (s.zeroRange lo n) := h.then (kept_zeroRange ..) rfl
theorem Keeps.fresh (h : Keeps b a s) : Keeps b a s.fresh.2 := h.then (kept_fresh s) rfl
theorem Keeps.newTag (h : Keeps b a s) : Keeps b a s.newTag.2 := h.then (.of_maps rfl rfl rfl rfl rfl rfl rfl) rfl
theorem Keeps.modHost (h : Keeps b a s) (f) : Keeps b a (s.modHost f) := h.then (kept_modHost ..) rfl
theorem Keeps.modSession (h : Keeps b a s) (n f) : Keeps b a (s.modSession n f) := h.then (kept_modSession ..) rfl

/-- A change of a cluster's part. -/
theorem Keeps.modCluster (h : Keeps false a s) (u f) : Keeps false a (s.modCluster u f) :=
  ⟨h.kept.trans (kept_modCluster ..), nofun⟩

/-- A change of a cluster's part that leaves its bursts. -/
theorem Keeps.modCluster_of_bursts (h : Keeps b a s) (u) {f : Cluster → Cluster} (hf : ∀ c, (f c).bursts = c.bursts) :
    Keeps b a (s.modCluster u f) where
  kept := h.kept.trans (kept_modCluster ..)
  bursts on w v := by
    rw [State.cluster_modCluster (h.kept.form w)]
    split
    · next e => subst e; exact (hf _).trans (h.bursts on w _)
    · exact h.bursts on w v

end
end Sys2Proof.Machine
end

section
/-! SUPPORT. What messages to the host, trace records, causes and the issue of instructions keep. -/

namespace Sys2Proof.Machine
variable {b : Bool} {a s : State}

theorem Keeps.extend (h : Keeps b a s) (slot record) : Keeps b a (s.extend slot record) := by
  simp only [State.extend, State.mk_eq_withRest]
  split <;> exact h.withRest ..

theorem Keeps.measure (h : Keeps b a s) (code slot session params digest) :
    Keeps b a (s.measure code slot session params digest) := by
  simp only [State.measure]
  exact h.extend ..

theorem Keeps.frameOut (h : Keeps b a s) : Keeps b a s.frameOut := by
  simp only [State.frameOut]
  split
  · exact (h.bump ..).bump ..
  · exact h.bump ..

theorem Keeps.transmitRaw (h : Keeps b a s) (dest p) : Keeps b a (State.transmitRaw dest p s) := by
  simp only [State.transmitRaw]
  split
  · exact h.frameOut.modHost ..
  · exact h

/-- A way to send that keeps what is kept, as an argument of `drain`, `sendIn` and `sendEvent`. -/
def SendKeeps (b : Bool) (tx : Peer → KPkt → State → State) : Prop := ∀ {a s : State} p q, Keeps b a s → Keeps b a (tx p q s)

theorem SendKeeps.drain {tx} (ht : SendKeeps b tx) (n f : Nat) (h : Keeps b a s) : Keeps b a (drain tx n f s) := by
  induction f generalizing s with
  | zero => exact h
  | succ f ih =>
    simp only [Machine.drain]
    repeat' split
    · exact h
    · exact h
    · exact h
    · exact ih (ht _ _ (h.modSession ..))

theorem SendKeeps.sendIn {tx} (ht : SendKeeps b tx) (n p place) (h : Keeps b a s) : Keeps b a (sendIn tx n p place s) := by
  simp only [Machine.sendIn]
  split
  · exact h
  · exact ht.drain _ _ (h.modSession ..)

theorem SendKeeps.sendEvent {tx} (ht : SendKeeps b tx) (dest code part data place) (h : Keeps b a s) :
    Keeps b a (sendEvent tx dest code part data place s) :=
  h.foldl (fun _ _ h => ht.sendIn _ _ _ h) _

theorem Keeps.transmit (h : Keeps b a s) (dest p) : Keeps b a (State.transmit dest p s) := by
  simp only [State.transmit]
  split
  · exact SendKeeps.sendEvent (fun _ _ h => h.transmitRaw _ _) _ _ _ _ _ (h.transmitRaw _ _)
  · exact h.transmitRaw _ _

theorem Keeps.sendPkt (h : Keeps b a s) (n p) : Keeps b a (s.sendPkt n p) :=
  SendKeeps.sendIn (fun _ _ h => h.transmit _ _) _ _ _ h

theorem Keeps.event (h : Keeps b a s) (dest code part data) : Keeps b a (s.event dest code part data) :=
  SendKeeps.sendEvent (fun _ _ h => h.transmit _ _) _ _ _ _ _ h

theorem Keeps.reply (h : Keeps b a s) (h' opcode flags status detail data) :
    Keeps b a (s.reply h' opcode flags status detail data) := by
  simp only [State.reply]
  split
  · exact h.transmit ..
  · exact h.sendPkt ..

theorem Keeps.endCommand (h : Keeps b a s) (h') : Keeps b a (s.endCommand h') := by
  simp only [State.endCommand]
  exact h.modSession ..

theorem Keeps.hold (h : Keeps b a s) (h' opcode flags what) : Keeps b a (s.hold h' opcode flags what) := by
  simp only [State.hold]
  exact (h.modHost ..).modSession ..

theorem Keeps.endPending (h : Keeps b a s) (k status detail data) : Keeps b a (s.endPending k status detail data) := by
  simp only [State.endPending]
  exact ((h.modHost ..).reply ..).endCommand ..

theorem Keeps.sendData (h' : Keeps b a s) (h opcode data) : Keeps b a (s.sendData h opcode data) := by
  simp only [State.sendData]
  split
  · exact h'
  · exact h'.foldl (fun _ _ h => h.sendPkt _ _) _

theorem Keeps.measureDebug (h : Keeps b a s) (opcode session params digest) :
    Keeps b a (s.measureDebug opcode session params digest) := by
  simp only [State.measureDebug, State.mk_eq_withRest]
  exact (h.measure ..).withRest ..

theorem Keeps.settleRemote (h : Keeps b a s) (k) : Keeps b a (s.settleRemote k) := by
  simp only [State.settleRemote]
  repeat' split
  · exact ((h.measureDebug ..).sendData ..).endPending ..
  · exact (h.sendData ..).endPending ..
  · exact h

theorem Keeps.settleHalts (h : Keeps b a s) : Keeps b a s.settleHalts := by
  refine h.foldl (fun s k h => ?_) _
  split
  · exact (h.measureDebug ..).endPending ..
  · exact h

theorem Keeps.noticeEvent (h : Keeps b a s) (x1) : Keeps b a (s.noticeEvent x1) := by
  simp only [State.noticeEvent]
  repeat' split
  · exact h.event ..
  · exact h.event ..
  · exact h
  · exact h.event ..
  · exact h.event ..
  · exact h.event ..
  · exact h.event ..
  · exact h.event ..
  · exact h
  · exact h

theorem Keeps.note (h : Keeps b a s) (n) : Keeps b a (s.note n) := by
  simp only [State.note, State.mk_eq_withRest]
  exact ((h.withRest ..).noticeEvent ..).settleHalts

theorem Keeps.trace (h : Keeps b a s) (k i ev pc extra) : Keeps b a (s.trace k i ev pc extra) := by
  refine h.foldl (fun s k h => ?_) _
  exact (h.setBytes ..).setRf ..

theorem Keeps.offer (h : Keeps b a s) (k q n) : Keeps b a (s.offer k q n) := by
  induction n generalizing s with
  | zero => exact h
  | succ n ih =>
    simp only [State.offer]
    split
    · exact ih ((h.modQueue ..).modStrand ..)
    · exact h

theorem Keeps.giveUp (h : Keeps b a s) (k i) : Keeps b a (s.giveUp k i) := by
  refine h.foldl (fun s e h => ?_) _
  split
  · exact (h.modQueue ..).offer ..
  · exact h

theorem Keeps.takeCause (h : Keeps b a s) (k i t xpc ds p c) : Keeps b a (s.takeCause k i t xpc ds p c) := by
  simp only [State.takeCause]
  exact (((h.giveUp ..).trace ..).modStrand ..).bump ..

theorem Keeps.enterRest (h : Keeps b a s) (k i reason code orig pc) :
    Keeps b a (s.enterRest k i reason code orig pc) := by
  simp only [State.enterRest]
  exact (((((h.giveUp ..).trace ..).modStrand ..).setReg ..).bump ..).note ..

theorem Keeps.microCause (h : Keeps b a s) (k m c) : Keeps b a (s.microCause k m c).1 := by
  simp only [State.microCause]
  exact h.bump ..

theorem Keeps.syncCause (h : Keeps b a s) (k i t c) : Keeps b a (s.syncCause k i t c) := by
  simp only [State.syncCause]
  repeat' split
  · exact (h.microCause ..).enterRest ..
  · exact (h.microCause ..).enterRest ..
  · exact h.enterRest ..
  · exact h.enterRest ..
  · exact (h.microCause ..).takeCause ..
  · exact (h.microCause ..).takeCause ..
  · exact h.takeCause ..
  · exact h.takeCause ..

theorem Keeps.countLost (h : Keeps b a s) (k i t) : Keeps b a (s.countLost k i t) := by
  simp only [State.countLost]
  split
  · exact h
  · exact (h.bump ..).modStrand ..

theorem Keeps.issued (h : Keeps b a s) (k i t) : Keeps b a (s.issued k i t) := by
  simp only [State.issued]
  exact (h.modStrand ..).bump ..

theorem Keeps.setRun (h : Keeps b a s) (k i r lost) : Keeps b a (s.setRun k i r lost) := by
  simp only [State.setRun]
  exact h.modStrand ..

/-- What a body answers keeps what is kept, wherever it answers a state. -/
def Res.Keeps (a : State) : Res → Prop
  | .done s | .fp s _ _ | .mx s | .branch s _ _ _ | .goto s _ | .ret s | .rest s | .stay s | .hold s _ _ | .wait s _ _ | .shape s _
  | .late s _ _ | .settled s => Machine.Keeps false a s
  | .trap _ => True
theorem Res.Keeps.trap (c : Cause) : (Res.trap c).Keeps a := trivial
theorem Res.Keeps.illegal (e : Env) : (illegal e).Keeps a := trivial
theorem Res.Keeps.privileged (e : Env) : (privileged e).Keeps a := trivial
theorem Res.Keeps.done (h : Machine.Keeps false a s) : (Res.done s).Keeps a := h
theorem Res.Keeps.fp (h : Machine.Keeps false a s) (d trap) : (Res.fp s d trap).Keeps a := h
theorem Res.Keeps.mx (h : Machine.Keeps false a s) : (Res.mx s).Keeps a := h
theorem Res.Keeps.branch (h : Machine.Keeps false a s) (next link guards) : (Res.branch s next link guards).Keeps a := h
theorem Res.Keeps.goto (h : Machine.Keeps false a s) (next) : (Res.goto s next).Keeps a := h
theorem Res.Keeps.ret (h : Machine.Keeps false a s) : (Res.ret s).Keeps a := h
theorem Res.Keeps.rest (h : Machine.Keeps false a s) : (Res.rest s).Keeps a := h
theorem Res.Keeps.stay (h : Machine.Keeps false a s) : (Res.stay s).Keeps a := h
theorem Res.Keeps.hold (h : Machine.Keeps false a s) (why lost) : (Res.hold s why lost).Keeps a := h
theorem Res.Keeps.wait (h : Machine.Keeps false a s) (r lost) : (Res.wait s r lost).Keeps a := h
theorem Res.Keeps.shape (h : Machine.Keeps false a s) (c) : (Res.shape s c).Keeps a := h
theorem Res.Keeps.late (h : Machine.Keeps false a s) (c n) : (Res.late s c n).Keeps a := h
theorem Res.Keeps.settled (h : Machine.Keeps false a s) : (Res.settled s).Keeps a := h

theorem Keeps.settle {r : Res} (h : Keeps false a s) (hr : r.Keeps a) (e len) : Keeps false a (s.settle e len r) := by
  cases r <;> simp only [Res.Keeps] at hr <;> simp only [State.settle]
  case done => exact (hr.modStrand ..).issued ..
  case goto => exact (hr.modStrand ..).issued ..
  case ret => exact (hr.modStrand ..).bump ..
  case rest => exact ((hr.modStrand ..).bump ..).enterRest ..
  case stay => exact hr.issued ..
  case hold => exact hr.setRun ..
  case trap => exact h.syncCause ..
  case shape => exact hr.syncCause ..
  case late => exact (hr.issued ..).syncCause ..
  case settled => exact hr
  case fp =>
    split
    · exact ((hr.modStrand ..).issued ..).modStrand ..
    · exact (hr.modStrand ..).issued ..
  case mx =>
    split
    · exact ((hr.modStrand ..).issued ..).setRun ..
    · exact (hr.modStrand ..).issued ..
  case branch =>
    split
    · exact ((hr.trace ..).modStrand ..).issued ..
    · exact (hr.modStrand ..).issued ..
  case wait =>
    split
    · exact ((hr.trace ..).issued ..).setRun ..
    · exact (hr.issued ..).setRun ..

theorem Keeps.atSlot (h : Keeps b a s) (k i t) : Keeps b a (s.atSlot k i t) := by
  simp only [State.atSlot]
  exact (h.modCore ..).countLost ..

theorem Keeps.of_tryDeferrable {t : State} (h : Keeps b a s) {k i n} (e : s.tryDeferrable k i n = some t) : Keeps b a t := by
  simp only [State.tryDeferrable] at e
  split at e
  · cases e
  · split at e
    · cases e
    · cases e; exact h.takeCause ..

/-- A body that keeps what is kept in every slot. -/
def BodyKeeps (a : State) (body : Env → State → Res) : Prop := ∀ e s, Keeps false a s → (body e s).Keeps a

theorem Keeps.issue {body : Env → State → Res} (hb : BodyKeeps a body) (h : Keeps false a s) (w info) :
    Keeps false a (issue w info body s) := by
  have slot (t : Nat) : Keeps false a (s.atSlot w.core w.strand t) := by exact h.atSlot ..
  simp only [Machine.issue]
  repeat' split
  · exact h
  · exact (slot _).enterRest ..
  · next e => exact (slot _).of_tryDeferrable e
  · exact (slot _).settle (.illegal _) _ _
  · exact (slot _).settle (hb _ _ (slot _)) _ _

end Sys2Proof.Machine
end

section
/-! SUPPORT. What packets and accesses to memory by physical address keep. -/

namespace Sys2Proof.Machine
variable {b : Bool} {a s : State}

theorem Keeps.combineVec (h : Keeps b a s) (r a' b') : Keeps b a (s.combineVec r a' b').2 := by
  simp only [State.combineVec]
  repeat' split
  · exact h.fresh
  · exact h.fresh
  · exact h

theorem Keeps.redCombine (h : Keeps b a s) (q p) : Keeps b a (s.redCombine q p).2 := by
  simp only [State.redCombine]
  split
  · exact h
  · exact h.combineVec ..

theorem Keeps.place (h : Keeps b a s) (at_ x) : Keeps b a (s.place at_ x) := by
  simp only [State.place, State.mk_eq_withRest]
  split <;> exact h.withRest ..

theorem Keeps.creditNode (h : Keeps b a s) (n inp p) : Keeps b a (s.creditNode n inp p) := by
  simp only [State.creditNode, State.mk_eq_withRest]
  split
  · exact h.withRest ..
  · exact (h.withRest ..).place ..

theorem Keeps.enterNode (h : Keeps b a s) (n inp p) : Keeps b a (s.enterNode n inp p) := by
  simp only [State.enterNode]
  repeat' split
  · exact h.creditNode ..
  · exact h
  · exact h.place ..
  · exact h
  · exact ((h.redCombine ..).place ..).bump ..
  · exact (h.redCombine ..).place ..

theorem Keeps.inject (h : Keeps b a s) (p) : Keeps b a (s.inject p) := by
  simp only [State.inject]
  exact h.enterNode ..

theorem Keeps.countRefusal (h : Keeps b a s) (u p) : Keeps b a (s.countRefusal u p) := by
  simp only [State.countRefusal]
  exact (((h.bump ..).setRf ..).setRf ..).setRf ..

theorem Keeps.refuse (h : Keeps b a s) (u p) : Keeps b a (s.refuse u p) := by
  simp only [State.refuse]
  split
  · exact (h.countRefusal ..).inject ..
  · exact h.countRefusal ..

theorem Keeps.deliver (h : Keeps b a s) (ep p) : Keeps b a (s.deliver ep p) := by
  simp only [State.deliver, State.mk_eq_withRest]
  exact h.withRest ..

theorem Keeps.setUnitKey (h : Keeps b a s) (unit k) : Keeps b a (s.setUnitKey unit k) := by
  simp only [State.setUnitKey, State.mk_eq_withRest]
  exact h.withRest ..

theorem Keeps.ddrUnit (h : Keeps b a s) (unit slot) : Keeps b a (s.ddrUnit unit slot).2 := by
  simp only [State.ddrUnit]
  split
  · exact h
  · exact h.fresh

theorem Keeps.physRead (h : Keeps b a s) (pa n key) : Keeps b a (s.physRead pa n key).2 := by
  simp only [State.physRead]
  by_cases p : (unitsOf pa n).any s.poisoned = true <;> simp only [p, if_true, Bool.false_eq_true, if_false]
  · split
    case h_5 => exact h.bump ..
    case h_6 =>
      split
      · exact h
      · exact h.bump ..
    all_goals (try split) <;> exact h
  · split
    case h_6 =>
      split
      · exact h
      · refine Keeps.foldl_snd h fun _ _ h => ?_
        exact h.ddrUnit ..
    all_goals (try split) <;> exact h

theorem Keeps.allocPage (h : Keeps b a s) (m owner) : Keeps b a (s.allocPage m owner).2 := by
  simp only [State.allocPage, State.mk_eq_withRest]
  repeat' split
  · exact h
  · exact h.fresh.withRest ..
  · exact h.fresh

theorem Keeps.writeTag (h : Keeps b a s) (n page slot) : Keeps b a (s.writeTag n page slot) := by
  simp only [State.writeTag]
  repeat' split
  · exact (((h.setRf ..).setRf ..).setByte ..).setByte ..
  · exact ((h.setRf ..).setRf ..).setByte ..
  · exact ((h.setRf ..).setByte ..).setByte ..
  · exact (h.setRf ..).setByte ..
  · exact ((h.setRf ..).setByte ..).setByte ..
  · exact (h.setRf ..).setByte ..
  · exact (h.setByte ..).setByte ..
  · exact h.setByte ..

theorem Keeps.copyUnit (h : Keeps b a s) (src dst sslot dslot) : Keeps b a (s.copyUnit src dst sslot dslot) := by
  simp only [State.copyUnit, State.mk_eq_withRest]
  repeat' split
  · exact h
  · exact h.withRest ..
  · exact (((h.ddrUnit ..).withRest ..).setBytes ..).setUnitKey ..
  · exact ((h.withRest ..).setBytes ..).setUnitKey ..
  · exact ((h.ddrUnit ..).withRest ..).setBytes ..
  · exact (h.withRest ..).setBytes ..

theorem Keeps.copyPage (h : Keeps b a s) (src dst) : Keeps b a (s.copyPage src dst) :=
  h.foldl (fun _ _ h => h.copyUnit ..) _

theorem Keeps.poisonUnit (h : Keeps b a s) (m off patrol) : Keeps b a (s.poisonUnit m off patrol) := by
  simp only [State.poisonUnit, State.mk_eq_withRest]
  repeat' split
  · exact ((((h.bump ..).setRf ..).setRf ..).setRf ..).note ..
  · exact (((((h.withRest ..).bump ..).setRf ..).setRf ..).setRf ..).note ..
  · exact ((((((h.bump ..).fresh).setRf ..).setRf ..).setRf ..).setRf ..).note ..
  · exact (((((((h.withRest ..).bump ..).fresh).setRf ..).setRf ..).setRf ..).setRf ..).note ..

theorem Keeps.corrected (h : Keeps b a s) (m off) : Keeps b a (s.corrected m off) := by
  simp only [State.corrected, State.mk_eq_withRest]
  exact (h.bump ..).withRest ..

theorem Keeps.extEcc (h : Keeps b a s) (m ecc off n patrol) : Keeps b a (s.extEcc m ecc off n patrol) :=
  (h.foldl (fun _ _ h => h.corrected ..) _).foldl (fun _ _ h => h.poisonUnit ..) _

theorem Keeps.writeUnit (h : Keeps b a s) (unit pa bytes slot) : Keeps b a (s.writeUnit unit pa bytes slot).2 := by
  simp only [State.writeUnit, State.mk_eq_withRest]
  repeat' split
  · exact h
  · exact (h.withRest ..).setBytes ..
  · exact ((((h.withRest ..).ddrUnit ..).setBytes ..).setBytes ..).setUnitKey ..
  · exact ((h.withRest ..).setBytes ..).setUnitKey ..

theorem Keeps.of_makeAside {t : State} (h : Keeps b a s) {pg part} (e : s.makeAside pg part = some t) : Keeps b a t := by
  simp only [State.makeAside, State.mk_eq_withRest] at e
  split at e
  · cases e
  · next page s1 e1 =>
    have h1 := (h.allocPage ..).of_snd e1
    rw [← Option.some.inj e]
    split
    · exact ((h1.writeTag ..).copyPage ..).withRest ..
    · exact (h1.copyPage ..).withRest ..

theorem Keeps.of_makeAsides {t : State} {l : List (Nat × Nat)} (h : Keeps b a s)
    (e : l.foldl (fun r g => r.bind fun s => s.makeAside g.1 g.2) (some s) = some t) : Keeps b a t := by
  have all (l : List (Nat × Nat)) (r : Option State) (hr : ∀ t, r = some t → Keeps b a t) :
      ∀ t, l.foldl (fun r g => r.bind fun s => s.makeAside g.1 g.2) r = some t → Keeps b a t := by
    induction l generalizing r with
    | nil => exact hr
    | cons g l ih =>
      refine ih _ fun t e => ?_
      obtain ⟨s1, e1, e2⟩ := Option.bind_eq_some_iff.1 e
      exact (hr _ e1).of_makeAside e2
  exact all _ _ (fun _ e => Option.some.inj e ▸ h) _ e

theorem Keeps.of_asidesFor {t : State} (h : Keeps b a s) {pa n} (e : s.asidesFor pa n = some t) : Keeps b a t := h.of_makeAsides e

theorem Keeps.asidesFor_getD (h : Keeps b a s) (pa n) : Keeps b a ((s.asidesFor pa n).getD s) := by
  cases e : s.asidesFor pa n with
  | none => exact h
  | some t => exact h.of_asidesFor e

theorem Keeps.writeUnits (h : Keeps b a s) (l : List Nat) (pa : Nat) (bytes : List Byte) (slot : Option Nat) (bad : Bool) :
    Keeps b a (l.foldl (fun (acc : Bool × State) u =>
      (acc.1 || (acc.2.writeUnit u pa bytes slot).1, (acc.2.writeUnit u pa bytes slot).2)) (bad, s)).2 := by
  refine Keeps.foldl_snd h fun _ _ h => ?_
  exact h.writeUnit ..

theorem Keeps.physWrite (h : Keeps b a s) (pa bytes key) : Keeps b a (s.physWrite pa bytes key).2 := by
  simp only [State.physWrite]
  split
  case h_3 =>
    split
    · exact h.setBytes ..
    · exact h
  case h_4 =>
    split
    · exact h.setBytes ..
    · exact h
  case h_5 => exact (h.asidesFor_getD ..).writeUnits ..
  case h_6 =>
    split
    · exact h
    · exact (h.asidesFor_getD ..).writeUnits ..
  all_goals exact h

end Sys2Proof.Machine
end

section
/-! SUPPORT. What address translation keeps (R228 to R232). -/

namespace Sys2Proof.Machine
variable {b : Bool} {a s : State}

theorem Keeps.capped {α : Type} (h : Keeps b a s) (n : Nat) (l : List α) (x : α) : Keeps b a (s.capped n l x).2 := by
  simp only [State.capped, State.mk_eq_withRest]
  split
  · exact h
  · exact h.withRest ..

theorem Keeps.cachePointer (h : Keeps b a s) (u va level table) : Keeps b a (s.cachePointer u va level table) := by
  simp only [State.cachePointer]
  refine Keeps.modCluster_of_bursts ?_ _ fun _ => rfl
  exact h.capped ..

theorem Keeps.walkFrom (h : Keeps b a s) (u va fuel level table) : Keeps b a (State.walkFrom u va fuel level table s).2 := by
  induction fuel generalizing level table s with
  | zero => exact h
  | succ fuel ih =>
    have read := h.physRead (table + 8 * (va / 2 ^ walkShift level % 2 ^ walkBits level)) 8 none
    simp only [State.walkFrom]
    split
    · next e => exact read.of_snd e
    · next e =>
      have h1 := read.of_snd e
      repeat' split
      · exact h1
      · exact h1
      · exact h1
      · exact h1
      · exact ih (h1.cachePointer ..) _ _

theorem Keeps.walk (h : Keeps b a s) (u va) : Keeps b a (s.walk u va).2 := by
  simp only [State.walk]
  split <;> exact h.walkFrom ..

theorem Keeps.installShared (h : Keeps b a s) (u va e level at_) : Keeps b a (s.installShared u va e level at_).2 := by
  simp only [State.installShared, State.mk_eq_withRest]
  refine Keeps.modCluster_of_bursts ?_ _ fun _ => rfl
  repeat' split
  · exact h
  · exact h
  · exact h.withRest ..
  · exact h.physWrite ..
  · exact h.physWrite ..
  · exact (h.physWrite ..).withRest ..

theorem Keeps.installCore (h : Keeps b a s) (k acc t) : Keeps b a (s.installCore k acc t) := by
  simp only [State.installCore]
  split <;> exact (h.capped ..).modCore ..

theorem Keeps.replaceTlb (h : Keeps b a s) (u k t new) : Keeps b a (s.replaceTlb u k t new) := by
  simp only [State.replaceTlb]
  split
  · refine (Keeps.modCluster_of_bursts h _ fun _ => ?_).modCore ..
    rfl
  · exact h.modCluster_of_bursts _ fun _ => rfl

theorem Keeps.setDirty (h : Keeps b a s) (u k t) : Keeps b a (s.setDirty u k t).2 := by
  have read := h.physRead t.at_ 8 none
  simp only [State.setDirty]
  split
  · exact h
  · split
    · next e =>
      have h1 := read.of_snd e
      exact h1.replaceTlb ..
    · next e =>
      have h1 := read.of_snd e
      split
      · exact (h1.physWrite ..).replaceTlb ..
      · exact h1.replaceTlb ..

theorem Keeps.joinWalk (h : Keeps b a s) (u va w) : Keeps b a (s.joinWalk u va w) := by
  simp only [State.joinWalk]
  split
  · exact h.modCluster_of_bursts _ fun _ => rfl
  · refine Keeps.modCluster_of_bursts ?_ _ fun _ => rfl
    split
    · exact h.bump ..
    · exact h

theorem Keeps.of_tlbLookup {t : TlbEnt} {s1 : State} (h : Keeps b a s) {u k acc va} (e : s.tlbLookup u k acc va = some (t, s1)) :
    Keeps b a s1 := by
  simp only [State.tlbLookup] at e
  split at e
  · cases e; exact h
  · split at e
    · cases e
      split
      · exact h.installCore ..
      · exact h
    · cases e

theorem Keeps.xlate (h : Keeps b a s) (u k acc user va now w) : Keeps b a (s.xlate u k acc user va now w).2 := by
  simp only [State.xlate]
  split
  · exact h
  · split
    · next e =>
      have h1 := h.of_tlbLookup e
      have dirty t := h1.setDirty u k t
      repeat' split
      · exact h1
      · next e => exact (dirty _).of_snd e
      · next e => exact ((dirty _).of_snd e).joinWalk ..
      · exact h1
    · have missed := h.bump (Reg.MMU_STLB_MISS u) Reg.MMU_STLB_MISS.MISSES 1
      have walked := (missed.bump (Reg.MMU_WALKS u) Reg.MMU_WALKS.WALKS 1).walk u va
      split
      · split
        · next e =>
          have h1 := walked.of_snd e
          repeat' split
          · exact h1
          · exact (h1.installShared ..).installCore ..
          · exact h1.installShared ..
        · next e => exact walked.of_snd e
      · exact missed.joinWalk ..

theorem Keeps.xlateFor (h : Keeps b a s) (k i acc va now) : Keeps b a (s.xlateFor k i acc va now).2 := by
  simp only [State.xlateFor]
  split
  · exact h
  · exact h.xlate ..

theorem Keeps.leaveWalks (h : Keeps b a s) (k i) : Keeps b a (s.leaveWalks k i) := by
  simp only [State.leaveWalks]
  exact h.modCluster_of_bursts _ fun _ => rfl

end Sys2Proof.Machine
end

section
/-! PROOF. A cycle of a DMA engine starts at most eight bursts (R291); what becomes of a burst that is answered (R290 to R293, R296). -/

namespace Sys2Proof.Machine
section
variable {b : Bool} {a s t : State}

theorem Keeps.modChan (h : Keeps b a s) (u n f) : Keeps b a (s.modChan u n f) := by
  simp only [State.modChan]
  exact h.modCluster_of_bursts _ fun _ => rfl

theorem Keeps.dmaXlate (h : Keeps b a s) (u n id write va) : Keeps b a (s.dmaXlate u n id write va).2 := by
  simp only [State.dmaXlate]
  repeat' split
  · exact h
  · exact h.xlate ..
  · exact h.xlate ..

theorem Keeps.dmaRequest (h : Keeps b a s) (u kind pa tag size key payload) :
    Keeps b a (s.dmaRequest u kind pa tag size key payload) := by
  simp only [State.dmaRequest]
  exact h.inject ..

/-- What a place in the engine's cycle has come to: a burst more if it was taken, and none if it was not. -/
structure Started (s : State) (u : Nat) (r : Bool × State) : Prop where
  form : r.2.wf = true
  count : (r.2.cluster u).bursts.length = (s.cluster u).bursts.length + bit r.1

theorem Started.none {u : Nat} (k : Keeps true s t) (w : s.wf = true) : Started s u (false, t) :=
  ⟨k.kept.form w, congrArg List.length (k.bursts rfl w u)⟩

theorem Started.one {u : Nat} {x : Burst} (before : Keeps true s a)
    (after : Keeps true (a.modCluster u fun c => { c with bursts := c.bursts ++ [x] }) t) (w : s.wf = true) : Started s u (true, t) := by
  have wa := before.kept.form w
  have wx := (kept_modCluster a u fun c => { c with bursts := c.bursts ++ [x] }).form wa
  refine ⟨after.kept.form wx, ?_⟩
  rw [after.bursts rfl wx u, State.cluster_modCluster wa, if_pos rfl, List.length_append, before.bursts rfl w u]
  rfl

theorem started_startBurst (s : State) (u n : Nat) (w : s.wf = true) : Started s u (s.startBurst u n) := by
  have h := Keeps.refl true s
  simp only [State.startBurst]
  split
  · exact .none h w
  · next r _ =>
    split
    · exact .none h w
    · have source := h.dmaXlate u n r.id false (r.d.srcAt r.issued)
      split
      · next e => exact .none ((source.of_snd e).modChan ..) w
      · next e => exact .none ((source.of_snd e).modChan ..) w
      · next src _ skey s1 e =>
        have dest := (source.of_snd e).dmaXlate u n r.id true (r.d.dstAt r.issued)
        split
        · next e => exact .none ((dest.of_snd e).modChan ..) w
        · next e => exact .none ((dest.of_snd e).modChan ..) w
        · next e => exact .one (dest.of_snd e).newTag (((Keeps.refl ..).modChan ..).dmaRequest ..) w

/-- Within one priority: the bursts outstanding and the places left do not grow together. -/
theorem startPrio_bound (u p : Nat) (l : List Nat) (left : Nat) (s : State) (w : s.wf = true) :
    (startPrio u p l left s).2.wf = true ∧ ((startPrio u p l left s).2.cluster u).bursts.length + (startPrio u p l left s).1
      ≤ (s.cluster u).bursts.length + left := by
  induction l generalizing left s with
  | nil => exact ⟨w, le_rfl⟩
  | cons n l ih =>
    cases left with
    | zero => exact ⟨w, le_rfl⟩
    | succ left =>
      simp only [startPrio]
      have start := started_startBurst s u n w
      split
      · exact ⟨w, by dsimp only; omega⟩
      · split
        · next s1 e =>
          rw [e] at start
          have turn := (Keeps.refl true s1).modCluster_of_bursts u (f := fun c => { c with rr := vset c.rr p n }) fun _ => rfl
          obtain ⟨form, bound⟩ := ih left _ (turn.kept.form start.form)
          refine ⟨form, bound.trans ?_⟩
          rw [turn.bursts rfl start.form u, start.count]
          simp only [bit, if_true]
          omega
        · next s1 e =>
          rw [e] at start
          obtain ⟨form, bound⟩ := ih (left + 1) _ start.form
          exact ⟨form, bound.trans (by rw [start.count]; exact le_rfl)⟩

theorem startPrios_bound (u : Nat) (l : List Nat) (r : Nat × State) (w : r.2.wf = true) :
    ((l.foldl (fun (acc : Nat × State) p => startPrio u p (acc.2.prioOrder u p) acc.1 acc.2) r).2.cluster u).bursts.length
      ≤ (r.2.cluster u).bursts.length + r.1 := by
  induction l generalizing r with
  | nil => exact Nat.le_add_right _ _
  | cons p l ih =>
    obtain ⟨form, bound⟩ := startPrio_bound u p (r.2.prioOrder u p) r.1 r.2 w
    exact (ih _ form).trans bound

/-- The initial state of an algorithm fits its register (Table 9-9). -/
theorem checkAlg_init (alg : Nat) : (checkAlg alg).2.1 % 2 ^ (checkAlg alg).1 =
    match alg with | 0 => 0xFFFFFFFF | 1 => 0xFFFFFFFF | 2 => 0 | _ => 0xFFFF := by
  match alg with
  | 0 | 1 | 2 | _ + 3 => rfl

/-- Settles O40. -/
theorem dmaBurstsAndCheckUnits : Obligations.DmaBurstsAndCheckUnits := by
  intro u s hu
  refine ⟨fun runs => ?_, fun j code x here failed => ?_, fun j x here good => ?_, fun n code r l first bad quiet => ?_, fun k hk => ?_⟩
  · have cycle : exec (.burstStart u) s = .next ([7, 6, 5, 4, 3, 2, 1, 0].foldl
        (fun (a : Nat × State) p => startPrio u p (a.2.prioOrder u p) a.1 a.2) (8, s)).2 := by
      simp only [exec, execBurstStart, State.burstStart, Nat.not_le.2 hu, runs, Bool.false_eq_true, or_false, if_false]
    refine ⟨cycle, fun t w e => ?_⟩
    rw [cycle] at e
    cases e
    exact startPrios_bound u _ (8, s) w
  · simp only [exec, execBurstComplete, State.burstComplete, here, failed]
  · simp only [exec, execBurstComplete, State.burstComplete, here, good]
  · have oldest : ((s.cluster u).chan n).runs.find? (fun r =>
        (r.bad.isSome || (s.chanState u n == .stopping && !r.complete)) && !s.burstsOpen u n r.id) = some r := by
      rw [first, List.find?_cons_of_pos]
      simp only [bad, State.burstsOpen, quiet, Option.isSome_some, Bool.true_or, Bool.not_false, Bool.and_self]
    simp only [exec, execDescriptorBad, State.descriptorBad, oldest, bad, Option.getD_some]
  · simp only [exec, execChkInit, State.chkInit, hu, hk, and_self, if_true, State.setChk, State.chkAlg]
    exact congrArg (fun v => Host.Outcome.next (s.setRf (Reg.CHK_STATE u k) Reg.CHK_STATE.STATE v)) (checkAlg_init _)

end
end Sys2Proof.Machine
end

section
/-! SUPPORT. What the L1 data cache keeps (R211 to R217). -/

namespace Sys2Proof.Machine
variable {a s : State}

theorem Keeps.startFetch (h : Keeps false a s) (k line age demand key) : Keeps false a (s.startFetch k line age demand key) := by
  simp only [State.startFetch]
  exact h.modCore ..

theorem Keeps.coreRequest (h : Keeps false a s) (k kind pa tag size key payload) :
    Keeps false a (s.coreRequest k kind pa tag size key payload) := by
  simp only [State.coreRequest]
  exact h.inject ..

theorem Keeps.startWanted (h : Keeps false a s) (k) : Keeps false a (s.startWanted k) := by
  simp only [State.startWanted]
  repeat' split
  · exact h
  · exact h
  · exact h.modCore ..
  · exact (h.startFetch ..).modCore ..
  · exact h

theorem Keeps.sendFetches (h : Keeps false a s) (k) : Keeps false a (s.sendFetches k) := by
  simp only [State.sendFetches]
  exact (h.modCore ..).foldl (fun _ _ h => h.coreRequest ..) _

theorem Keeps.sendPicks (h : Keeps false a s) (k) : Keeps false a (s.sendPicks k) := by
  simp only [State.sendPicks]
  exact (h.modCore ..).foldl (fun _ _ h => h.inject ..) _

theorem Keeps.pump (h : Keeps false a s) (k) : Keeps false a (s.pump k) := by
  simp only [State.pump]
  exact ((((h.startWanted ..).sendFetches ..).sendPicks ..).startWanted ..).sendFetches ..

theorem Keeps.of_l1Hit {d : VReg} {t : State} (h : Keeps false a s) {k line} (e : s.l1Hit k line = some (d, t)) : Keeps false a t := by
  simp only [State.l1Hit] at e
  split at e
  · cases e; exact (h.modCore ..).bump ..
  · split at e
    · cases e; exact ((h.modCore ..).bump ..).bump ..
    · cases e

theorem Keeps.cachedPart (h : Keeps false a s) (k pa size dst key) : Keeps false a (s.cachedPart k pa size dst key).2 := by
  simp only [State.cachedPart]
  repeat' split
  · exact h.of_l1Hit ‹_›
  · exact h.bump ..
  · exact (h.bump ..).newTag.startFetch ..
  · exact (h.bump ..).newTag

theorem Keeps.directPart (h : Keeps false a s) (k pa size dst key) : Keeps false a (s.directPart k pa size dst key).2 := by
  simp only [State.directPart]
  exact h.newTag.coreRequest ..

theorem Keeps.loadPart (h : Keeps false a s) (k pa size nc dst key) : Keeps false a (s.loadPart k pa size nc dst key).2 := by
  simp only [State.loadPart]
  split
  · exact h.directPart ..
  · exact h.cachedPart ..

theorem Keeps.pushStore (h : Keeps false a s) (k i pa nc key bytes) : Keeps false a (s.pushStore k i pa nc key bytes) := by
  simp only [State.pushStore]
  split <;> exact h.newTag.modCore ..

theorem Keeps.dropLine (h : Keeps false a s) (k line) : Keeps false a (s.dropLine k line) := by
  simp only [State.dropLine]
  exact h.modCore ..

theorem Keeps.dropAllLines (h : Keeps false a s) (k) : Keeps false a (s.dropAllLines k) := by
  simp only [State.dropAllLines]
  exact h.modCore ..

theorem Keeps.prefetch (h : Keeps false a s) (k i va) : Keeps false a (s.prefetch k i va) := by
  simp only [State.prefetch]
  repeat' split
  · exact h
  · exact (h.xlateFor ..).of_snd ‹_›
  · exact (((h.xlateFor ..).of_snd ‹_›).newTag.startFetch ..).pump ..
  · exact (h.xlateFor ..).of_snd ‹_›

theorem Keeps.hintAccess (h : Keeps false a s) (k i an ea) : Keeps false a (s.hintAccess k i an ea) := by
  simp only [State.hintAccess]
  split
  · exact (h.modStrand ..).prefetch ..
  · exact h.modStrand ..

end Sys2Proof.Machine
end

section
/-! SUPPORT. What the scalar instructions, the control registers and the accesses to local stores and memory keep (R134 to R183). -/

namespace Sys2Proof.Machine
variable {a s : State}

theorem BodyKeeps.aluBody (op o) : BodyKeeps a (aluBody op o) := by
  intro e s h
  simp only [Machine.aluBody]
  repeat' split
  · exact .illegal _
  · exact .trap _
  · exact .done (h.modStrand ..)
  · exact .done (h.modStrand ..)
  · exact .done (h.modStrand ..)
  · exact .done (h.modStrand ..)

theorem BodyKeeps.jumpRegBody (link o) : BodyKeeps a (jumpRegBody link o) := by
  intro e s h
  simp only [Machine.jumpRegBody]
  repeat' split
  · exact .illegal _
  · exact .trap _
  · exact .branch (h.modStrand ..) _ _ _
  · exact .branch h _ _ _

theorem BodyKeeps.immBody (rd bad v trap) : BodyKeeps a (immBody rd bad v trap) := by
  intro e s h
  simp only [Machine.immBody]
  repeat' split
  · exact .illegal _
  · exact .trap _
  · exact .done (h.modStrand ..)

theorem BodyKeeps.addiBody (o) : BodyKeeps a (addiBody o) := BodyKeeps.immBody _ _ _ _

theorem BodyKeeps.andiBody (o) : BodyKeeps a (andiBody o) := BodyKeeps.immBody _ _ _ _

theorem BodyKeeps.oriBody (o) : BodyKeeps a (oriBody o) := BodyKeeps.immBody _ _ _ _

theorem BodyKeeps.xoriBody (o) : BodyKeeps a (xoriBody o) := BodyKeeps.immBody _ _ _ _

theorem BodyKeeps.shiBody (o) : BodyKeeps a (shiBody o) := by
  simp only [Machine.shiBody]
  exact BodyKeeps.immBody _ _ _ _

theorem BodyKeeps.luiBody (o) : BodyKeeps a (luiBody o) := BodyKeeps.immBody _ _ _ _

theorem BodyKeeps.cmpiBody (o) : BodyKeeps a (cmpiBody o) := by
  intro e s h
  simp only [Machine.cmpiBody]
  split
  · exact .illegal _
  · exact .done (h.modStrand ..)

theorem BodyKeeps.bcBody (cond disp) : BodyKeeps a (bcBody cond disp) := by
  intro e s h
  simp only [Machine.bcBody]
  repeat' split
  · exact .illegal _
  · exact .branch h _ _ _
  · exact .branch h _ _ _

theorem BodyKeeps.jalBody (rd disp) : BodyKeeps a (jalBody rd disp) := by
  intro e s h
  simp only [Machine.jalBody]
  exact .branch (h.modStrand ..) _ _ _

theorem BodyKeeps.loopBody (o) : BodyKeeps a (loopBody o) := by
  intro e s h
  simp only [Machine.loopBody]
  repeat' split
  · exact .illegal _
  · exact .goto (h.modStrand ..) _
  · exact .goto (h.modStrand ..) _
  · exact .goto (h.modStrand ..) _
  · exact .goto (h.modStrand ..) _
  · exact .done (h.modStrand ..)
  · exact .done (h.modStrand ..)
  · exact .goto (h.modStrand ..) _
  · exact .goto (h.modStrand ..) _
  · exact .goto (h.modStrand ..) _
  · exact .goto (h.modStrand ..) _
  · exact .done (h.modStrand ..)
  · exact .done (h.modStrand ..)

theorem BodyKeeps.waitlBody (n) : BodyKeeps a (waitlBody n) := by
  intro e s h
  simp only [Machine.waitlBody]
  repeat' split
  · exact .illegal _
  · exact .done h
  · exact .wait h _ _

theorem BodyKeeps.waitmBody (n) : BodyKeeps a (waitmBody n) := by
  intro e s h
  simp only [Machine.waitmBody]
  repeat' split
  · exact .illegal _
  · exact .done h
  · exact .wait h _ _

theorem BodyKeeps.csrReadBody (toA r num) : BodyKeeps a (csrReadBody toA r num) := by
  intro e s h
  simp only [Machine.csrReadBody]
  repeat' split
  · exact .illegal _
  · exact .illegal _
  · exact .privileged _
  · exact .done (h.modStrand ..)
  · exact .done (h.modStrand ..)
  · exact .done (h.modStrand ..)
  · exact .done (h.modStrand ..)

theorem BodyKeeps.csrWriteBody (fromA r num) : BodyKeeps a (csrWriteBody fromA r num) := by
  intro e s h
  simp only [Machine.csrWriteBody]
  repeat' split
  · exact .illegal _
  · exact .illegal _
  · exact .illegal _
  · exact .privileged _
  · exact .privileged _
  · exact .done (h.modStrand ..)
  · exact .privileged _
  · exact .done (h.modStrand ..)

theorem BodyKeeps.xretBody : BodyKeeps a xretBody := by
  intro e s h
  simp only [Machine.xretBody]
  split
  · exact .privileged _
  · exact .ret h

theorem BodyKeeps.rstopBody : BodyKeeps a rstopBody := by
  intro e s h
  simp only [Machine.rstopBody]
  exact .rest h

theorem Keeps.storeEcc (h : Keeps false a s) (k st off ecc) : Keeps false a (s.storeEcc k st off ecc) := by
  simp only [State.storeEcc]
  repeat' split
  · exact h
  · exact h.bump ..
  · exact (((h.bump ..).setRf ..).setRf ..).note ..
  · exact (((h.bump ..).setRf ..).setRf ..).note ..
  · exact (((h.bump ..).setRf ..).setRf ..).note ..
  · exact (((h.bump ..).setRf ..).setRf ..).note ..

theorem Keeps.readStore (h : Keeps false a s) (k st off n ecc) : Keeps false a (s.readStore k st off n ecc).2 := by
  simp only [State.readStore]
  split
  · exact (h.storeEcc ..).fresh
  · exact h.storeEcc ..

theorem BodyKeeps.rkstBody (o) : BodyKeeps a (rkstBody o) := by
  intro e s h
  simp only [Machine.rkstBody]
  repeat' split
  · exact .illegal _
  · exact .privileged _
  · exact .trap _
  · exact .done (h.setBytes ..)
  · exact .done (h.setBytes ..)
  · exact .done (h.setBytes ..)

theorem BodyKeeps.rkldBody (o) : BodyKeeps a (rkldBody o) := by
  intro e s h
  simp only [Machine.rkldBody]
  repeat' split
  · exact .illegal _
  · exact .privileged _
  · exact .trap _
  · exact .done ((h.readStore ..).modStrand ..)
  · exact .done ((h.readStore ..).modStrand ..)
  · exact .done ((h.readStore ..).modStrand ..)

theorem Keeps.exitIfDone (h : Keeps false a s) (k i) : Keeps false a (s.exitIfDone k i) := by
  simp only [State.exitIfDone]
  split
  · exact h.modStrand ..
  · exact h

theorem BodyKeeps.sexitBody : BodyKeeps a sexitBody := by
  intro e s h
  simp only [Machine.sexitBody]
  exact .stay ((h.modStrand ..).exitIfDone ..)

theorem BodyKeeps.ldlBody (o) : BodyKeeps a (ldlBody o) := by
  intro e s h
  simp only [Machine.ldlBody]
  repeat' split
  · exact .illegal _
  · exact .trap _
  · exact .trap _
  · exact .done ((h.readStore ..).modStrand ..)
  · exact .done ((h.readStore ..).modStrand ..)
  · exact .done ((h.readStore ..).modStrand ..)
  · exact .done ((h.readStore ..).modStrand ..)

theorem BodyKeeps.stlBody (o) : BodyKeeps a (stlBody o) := by
  intro e s h
  simp only [Machine.stlBody]
  repeat' split
  · exact .illegal _
  · exact .trap _
  · exact .trap _
  · exact .done ((h.setBytes ..).modStrand ..)

theorem BodyKeeps.ldBody (o) : BodyKeeps a (ldBody o) := by
  intro e s h
  simp only [Machine.ldBody]
  repeat' split
  · exact .illegal _
  · exact .privileged _
  · exact .trap _
  · exact .hold h _ _
  · exact .done (((h.modStrand ..).hintAccess ..).pump ..)
  · exact .trap _
  · exact .trap _
  · exact .hold ((h.xlateFor ..).of_snd ‹_›) _ _
  · exact .done ((((((h.xlateFor ..).of_snd ‹_›).loadPart ..).modStrand ..).hintAccess ..).pump ..)

theorem BodyKeeps.stBody (o) : BodyKeeps a (stBody o) := by
  intro e s h
  simp only [Machine.stBody]
  repeat' split
  · exact .illegal _
  · exact .privileged _
  · exact .trap _
  · exact .trap _
  · exact .hold h _ _
  · exact .done ((h.newTag.modCore ..).modStrand ..)
  · exact .trap _
  · exact .hold ((h.xlateFor ..).of_snd ‹_›) _ _
  · exact .hold ((h.xlateFor ..).of_snd ‹_›) _ _
  · exact .done ((((h.xlateFor ..).of_snd ‹_›).pushStore ..).modStrand ..)

theorem BodyKeeps.prefBody (o) : BodyKeeps a (prefBody o) := by
  intro e s h
  simp only [Machine.prefBody]
  split
  · exact .illegal _
  · exact .done ((h.prefetch ..).modStrand ..)

theorem BodyKeeps.prefSBody (o) : BodyKeeps a (prefSBody o) := by
  intro e s h
  simp only [Machine.prefSBody]
  split
  · exact .illegal _
  · exact .done (h.modStrand ..)

theorem BodyKeeps.cinvBody (o) : BodyKeeps a (cinvBody o) := by
  intro e s h
  simp only [Machine.cinvBody]
  repeat' split
  · exact .illegal _
  · exact .done (h.modStrand ..)
  · exact .done (((h.xlateFor ..).of_snd ‹_›).modStrand ..)
  · exact .hold ((h.xlateFor ..).of_snd ‹_›) _ _
  · exact .done ((((h.xlateFor ..).of_snd ‹_›).dropLine ..).modStrand ..)

theorem BodyKeeps.cinvAllBody (o) : BodyKeeps a (cinvAllBody o) := by
  intro e s h
  simp only [Machine.cinvAllBody]
  split
  · exact .illegal _
  · exact .done (h.dropAllLines ..)

theorem BodyKeeps.dpickBody (o) : BodyKeeps a (dpickBody o) := by
  intro e s h
  simp only [Machine.dpickBody]
  repeat' split
  · exact .illegal _
  · exact .privileged _
  · exact .trap _
  · exact .trap _
  · exact .hold h _ _
  · exact .trap _
  · exact .hold ((h.xlateFor ..).of_snd ‹_›) _ _
  · exact .trap _
  · exact .done (((((h.xlateFor ..).of_snd ‹_›).newTag.dropLine ..).modStrand ..).pump ..)
  · exact .trap _

theorem BodyKeeps.aaddiBody (ad as imm) : BodyKeeps a (aaddiBody ad as imm) := by
  intro e s h
  simp only [Machine.aaddiBody]
  exact .done (h.modStrand ..)

theorem BodyKeeps.amodBody (ad as imm) : BodyKeeps a (amodBody ad as imm) := by
  intro e s h
  simp only [Machine.amodBody]
  exact .done (h.modStrand ..)

theorem BodyKeeps.amovBody (ad gl gh) : BodyKeeps a (amovBody ad gl gh) := by
  intro e s h
  simp only [Machine.amovBody]
  exact .done (h.modStrand ..)

theorem BodyKeeps.aaddBody (ad as g) : BodyKeeps a (aaddBody ad as g) := by
  intro e s h
  simp only [Machine.aaddBody]
  exact .done (h.modStrand ..)

theorem Keeps.writeDst (h : Keeps false a s) (k i size dst data) : Keeps false a (s.writeDst k i size dst data) := by
  simp only [State.writeDst]
  repeat' split
  all_goals exact h.modStrand ..

end Sys2Proof.Machine
end

section
/-! SUPPORT. What tiles, the matrix unit and the banks keep (R73 to R107, R198 to R208). -/

namespace Sys2Proof.Machine
variable {a s : State}

theorem Keeps.releaseLoads (h : Keeps false a s) (k i) : Keeps false a (s.releaseLoads k i) := by
  simp only [State.releaseLoads]
  repeat' split
  · exact (h.modStrand ..).exitIfDone ..
  · exact h.exitIfDone ..
  · exact (h.modStrand ..).exitIfDone ..
  · exact h.exitIfDone ..
  · exact h.exitIfDone ..

/-- A way to read a register that keeps what is kept, as an argument of `writePart` and `completeLoad`. -/
def ReadKeeps (a : State) (rd : State → Nat → W64 × State) : Prop := ∀ s n, Keeps false a s → Keeps false a (rd s n).2

theorem Keeps.writePart {rd : State → Nat → W64 × State} (h : Keeps false a s) (hr : ReadKeeps a rd) (k i p) :
    Keeps false a (s.writePart k i rd p) := by
  simp only [State.writePart]
  split
  · exact h.writeDst ..
  · exact (hr _ _ h).writeDst ..
  · exact h

theorem Keeps.completeLoad {rd : State → Nat → W64 × State} (h : Keeps false a s) (hr : ReadKeeps a rd) (k i n) :
    Keeps false a (s.completeLoad k i n rd) := by
  simp only [State.completeLoad]
  split
  · exact h
  · exact ((h.foldl (fun _ _ h => h.writePart hr ..) _).modStrand ..).releaseLoads ..

theorem Keeps.lineFill (h : Keeps false a s) (k line) : Keeps false a (s.lineFill k line) := by
  simp only [State.lineFill]
  repeat' split
  · exact h
  · exact (h.modCore ..).pump ..
  · exact (h.fresh.modCore ..).pump ..
  · exact ((h.modCore ..).modCore ..).pump ..
  · exact ((h.fresh.modCore ..).modCore ..).pump ..
  · exact (((h.modCore ..).modCore ..).bump ..).pump ..
  · exact ((h.modCore ..).modCore ..).pump ..
  · exact (((h.fresh.modCore ..).modCore ..).bump ..).pump ..
  · exact ((h.fresh.modCore ..).modCore ..).pump ..

theorem Keeps.instructionFill (h : Keeps false a s) (w va) : Keeps false a (s.instructionFill w va) := by
  simp only [State.instructionFill]
  repeat' split
  · exact h
  · exact (h.modCore ..).syncCause ..
  · exact (((h.modCore ..).xlateFor ..).of_snd ‹_›).syncCause ..
  · exact (((h.modCore ..).xlateFor ..).of_snd ‹_›).setRun ..
  · exact ((h.modCore ..).xlateFor ..).of_snd ‹_›
  · exact ((((h.modCore ..).xlateFor ..).of_snd ‹_›).modCore ..).modStrand ..
  · exact ((((((h.modCore ..).xlateFor ..).of_snd ‹_›).bump ..).physRead ..).of_snd ‹_›).syncCause ..
  · exact (((((((h.modCore ..).xlateFor ..).of_snd ‹_›).bump ..).physRead ..).of_snd ‹_›).modCore ..).modStrand ..

theorem Keeps.walkAgain (h : Keeps false a s) (u w) : Keeps false a (s.walkAgain u w) := by
  simp only [State.walkAgain]
  repeat' split
  · exact h.modStrand ..
  · exact h.modStrand ..
  · exact h
  · exact h.modCluster ..

theorem Keeps.walkFails (h : Keeps false a s) (u w) : Keeps false a (s.walkFails u w) := by
  simp only [State.walkFails]
  repeat' split
  · exact h.modStrand ..
  · exact (h.atSlot ..).syncCause ..
  · exact h.modCluster ..

theorem Keeps.pageWalkEnd (h : Keeps false a s) (u k) : Keeps false a (s.pageWalkEnd u k) := by
  simp only [State.pageWalkEnd]
  repeat' split
  · exact h
  · exact h
  · exact ((h.bump ..).modCluster ..).foldl (fun _ _ h => h.walkAgain ..) _
  · exact (h.modCluster ..).foldl (fun _ _ h => h.walkAgain ..) _
  · exact ((((h.walk ..).of_snd ‹_›).bump ..).modCluster ..).foldl (fun _ _ h => h.walkFails ..) _
  · exact (((h.walk ..).of_snd ‹_›).modCluster ..).foldl (fun _ _ h => h.walkFails ..) _
  · exact ((((h.walk ..).of_snd ‹_›).bump ..).modCluster ..).modCluster ..
  · exact (((h.walk ..).of_snd ‹_›).modCluster ..).modCluster ..
  · exact (((((h.walk ..).of_snd ‹_›).bump ..).modCluster ..).modCluster ..).note ..
  · exact ((((h.walk ..).of_snd ‹_›).modCluster ..).modCluster ..).note ..
  · exact (h.walk ..).of_snd ‹_›
  · exact ((((h.walk ..).of_snd ‹_›).bump ..).modCluster ..).foldl (fun _ _ h => Keeps.ite (h.walkAgain ..) (h.walkFails ..)) _
  · exact ((((((h.walk ..).of_snd ‹_›).bump ..).modCluster ..).installShared ..).foldl
      (fun _ _ h => (by split; exacts [h.installCore .., h])) _).foldl (fun _ _ h => Keeps.ite (h.walkAgain ..) (h.walkFails ..)) _
  · exact (((h.walk ..).of_snd ‹_›).modCluster ..).foldl (fun _ _ h => Keeps.ite (h.walkAgain ..) (h.walkFails ..)) _
  · exact (((((h.walk ..).of_snd ‹_›).modCluster ..).installShared ..).foldl (fun _ _ h => (by split; exacts [h.installCore .., h]))
      _).foldl (fun _ _ h => Keeps.ite (h.walkAgain ..) (h.walkFails ..)) _

theorem Res.Keeps.shapeFault (h : Machine.Keeps false a s) (e op reason) : (shapeFault e op reason s).Keeps a := by
  simp only [Machine.shapeFault]
  exact .shape ((h.setRf ..).setRf ..) _

theorem Keeps.rowXlate (h : Keeps false a s) (k i acc va l done) : Keeps false a (s.rowXlate k i acc va l done).2 := by
  induction l generalizing s done with
  | nil => exact h
  | cons p l ih =>
    have address := h.xlate (clusterOf k) (some k) acc ((s.strand k i).priv == 0) p.1 false (.strand k i acc va)
    simp only [State.rowXlate]
    split
    · exact ih (address.of_snd ‹_›) _
    · exact address.of_snd ‹_›

/-- What the issue of a row comes to keeps what is kept, where it comes to a state. -/
def RowRes.Keeps (a : State) : RowRes → Prop
  | .issued s | .hold s _ _ => Machine.Keeps false a s
  | .trap _ => True

theorem RowRes.Keeps.issued (h : Machine.Keeps false a s) : (RowRes.issued s).Keeps a := h
theorem RowRes.Keeps.hold (h : Machine.Keeps false a s) (why lost) : (RowRes.hold s why lost).Keeps a := h
theorem RowRes.Keeps.trap (c : Cause) : (RowRes.trap c).Keeps a := trivial

theorem RowRes.keeps_rowIssue (h : Machine.Keeps false a s) (r e) : (rowIssue r e s).Keeps a := by
  obtain ⟨store, o, base, stride, delay⟩ := r
  cases store <;> simp only [rowIssue, if_true, Bool.false_eq_true, if_false, Bool.true_and, Bool.false_and]
  · split
    · exact .trap _
    · split
      · exact .trap _
      · split
        · exact .hold ((h.rowXlate ..).of_snd ‹_›) _ _
        · exact .trap _
        · refine .issued (.pump (.hintAccess ?_ ..) _)
          refine Keeps.foldl_fst ((h.rowXlate ..).of_snd ‹_›) fun _ _ h => ?_
          dsimp only
          exact (h.loadPart ..).modStrand ..
  · repeat' split
    · exact .trap _
    · exact .trap _
    · exact .hold ((h.rowXlate ..).of_snd ‹_›) _ _
    · exact .trap _
    · exact .hold ((h.rowXlate ..).of_snd ‹_›) _ _
    · exact .issued (Keeps.foldl_fst ((h.rowXlate ..).of_snd ‹_›) fun _ _ h => h.pushStore ..)
    · exact .issued (Keeps.foldl_fst ((h.rowXlate ..).of_snd ‹_›) fun _ _ h => h.pushStore ..)

theorem Keeps.of_rowIssue_issued {t : State} (h : Keeps false a s) {r e} (i : rowIssue r e s = .issued t) : Keeps false a t := by
  have row := RowRes.keeps_rowIssue h r e
  rw [i] at row
  exact row

theorem Keeps.of_rowIssue_hold {t : State} {why lost} (h : Keeps false a s) {r e} (i : rowIssue r e s = .hold t why lost) :
    Keeps false a t := by
  have row := RowRes.keeps_rowIssue h r e
  rw [i] at row
  exact row

theorem Keeps.afterRow (h : Keeps false a s) (k i last) : Keeps false a (s.afterRow k i last) := by
  simp only [State.afterRow]
  exact h.modStrand ..

theorem BodyKeeps.tileBody (store o) : BodyKeeps a (tileBody store o) := by
  intro e s h
  simp only [Machine.tileBody]
  repeat' split
  · exact .illegal _
  · exact .shapeFault h ..
  · exact .shapeFault h ..
  · exact .hold h _ _
  · exact .done (h.modStrand ..)
  · exact .trap _
  · exact .hold (((h.modStrand ..).of_rowIssue_hold ‹_›).modStrand ..) _ _
  · exact .done (((h.modStrand ..).of_rowIssue_issued ‹_›).afterRow ..)
  · exact .stay (((h.modStrand ..).of_rowIssue_issued ‹_›).afterRow ..)

theorem Keeps.tileRow (h : Keeps false a s) (w) : Keeps false a (s.tileRow w) := by
  simp only [State.tileRow]
  repeat' split
  · exact h
  · exact h
  · exact (h.atSlot ..).enterRest ..
  · exact (h.atSlot ..).of_tryDeferrable ‹_›
  · exact (h.atSlot ..).syncCause ..
  · exact ((h.atSlot ..).of_rowIssue_hold ‹_›).setRun ..
  · exact (((h.atSlot ..).of_rowIssue_issued ‹_›).afterRow ..).modStrand ..
  · exact (((h.atSlot ..).of_rowIssue_issued ‹_›).afterRow ..).modStrand ..

theorem Keeps.pushMx (h : Keeps false a s) (e r) : Keeps false a (s.pushMx e r) := by
  simp only [State.pushMx]
  exact (h.modCore ..).modStrand ..

theorem BodyKeeps.mmaBody (g o) : BodyKeeps a (mmaBody g o) := by
  intro e s h
  simp only [Machine.mmaBody]
  repeat' split
  · exact .illegal _
  · exact .hold h _ _
  · exact .shapeFault h ..
  · exact .trap _
  · exact .mx (h.pushMx ..)
  · exact .mx (h.pushMx ..)

theorem BodyKeeps.drainBody (g o) : BodyKeeps a (drainBody g o) := by
  intro e s h
  simp only [Machine.drainBody]
  repeat' split
  · exact .illegal _
  · exact .illegal _
  · exact .hold h _ _
  · exact .shapeFault h ..
  · exact .trap _
  · exact .mx (h.pushMx ..)
  · exact .mx (h.pushMx ..)

theorem Keeps.readB (h : Keeps false a s) (k r k0 n ecc) : Keeps false a (s.readB k r k0 n ecc).2 := by
  simp only [State.readB]
  exact h.readStore ..

theorem Keeps.bankRun (h : Keeps false a s) (k r cols k0 n m) : Keeps false a (s.bankRun k r cols k0 n m).2 := by
  simp only [State.bankRun]
  split
  · dsimp only
    exact h.modCore ..
  · refine Keeps.foldl_snd (h.modCore ..) fun _ _ h => ?_
    exact h.setNum ..

theorem Keeps.mmaRun (h : Keeps false a s) (k r) : Keeps false a (s.mmaRun k r).2 := by
  simp only [State.mmaRun]
  refine Keeps.bump ?_ ..
  refine Keeps.foldl_snd (h.readB ..) fun _ _ h => ?_
  exact h.bankRun ..

theorem Keeps.setLowBits (h : Keeps false a s) (pa n x) : Keeps false a (s.setLowBits pa n x) := by
  simp only [State.setLowBits]
  exact h.setNum ..

theorem Keeps.putRow (h : Keeps false a s) (k r y td i xs) : Keeps false a (s.putRow k r y td i xs) := by
  simp only [State.putRow]
  exact Keeps.ite (h.modStrand ..) (Keeps.ite (h.foldl (fun _ _ h => h.setLowBits ..) _) (h.setLowBits ..))

theorem Keeps.drainSource (h : Keeps false a s) (k r y i ecc) : Keeps false a (s.drainSource k r y i ecc).2.2 := by
  simp only [State.drainSource]
  repeat' split
  · exact h
  · exact h.readStore ..
  · exact h.readStore ..

theorem Keeps.drainRow (h : Keeps false a s) (k r y i) : Keeps false a (s.drainRow k r y i).2.2 := by
  simp only [State.drainRow]
  exact Keeps.ite ((Keeps.ite (((((h.drainSource ..).modCore ..).putRow ..).modStrand ..).setNum ..)
    ((((h.drainSource ..).modCore ..).putRow ..).modStrand ..)).bump ..)
      (Keeps.ite (((((h.drainSource ..).modCore ..).putRow ..).modStrand ..).setNum ..)
        ((((h.drainSource ..).modCore ..).putRow ..).modStrand ..))

theorem Keeps.drainWork (h : Keeps false a s) (k r) : Keeps false a (s.drainWork k r).2 := by
  simp only [State.drainWork]
  exact Keeps.foldl_snd h fun _ _ h => Keeps.foldl_snd h fun _ _ h => h.drainRow ..

theorem Keeps.mxWork (h : Keeps false a s) (k) : Keeps false a (s.mxWork k) := by
  simp only [State.mxWork]
  repeat' split
  · exact h
  · exact (h.mmaRun ..).modCore ..
  · exact (h.drainWork ..).modCore ..
  · exact h

theorem Keeps.drainsFirst (h : Keeps false a s) (k n) : Keeps false a (State.drainsFirst k n s) := by
  induction n generalizing s with
  | zero => exact h
  | succ n ih =>
    simp only [State.drainsFirst]
    split
    · exact ih (h.mxWork k)
    · exact h

theorem Keeps.runTransfer (h : Keeps false a s) (k) : Keeps false a (s.runTransfer k) := by
  simp only [State.runTransfer]
  exact Keeps.ite ((h.drainsFirst ..).mxWork ..) h

theorem Keeps.releaseMatrix (h : Keeps false a s) (k i) : Keeps false a (s.releaseMatrix k i) := by
  simp only [State.releaseMatrix]
  repeat' split
  · exact (h.modStrand ..).exitIfDone ..
  · exact h.exitIfDone ..
  · exact (h.modStrand ..).exitIfDone ..
  · exact h.exitIfDone ..
  · exact (h.modStrand ..).exitIfDone ..
  · exact h.exitIfDone ..
  · exact h.exitIfDone ..

theorem Keeps.mxFlags (h : Keeps false a s) (k y e) : Keeps false a (s.mxFlags k y e) := by
  simp only [State.mxFlags]
  exact h.modStrand ..

theorem Keeps.matrixComplete (h : Keeps false a s) (k) : Keeps false a (s.matrixComplete k) := by
  simp only [State.matrixComplete]
  repeat' split
  · exact h
  · exact h
  · exact (((h.modCore ..).foldl (fun _ _ h => h.mxFlags ..) _).modStrand ..).releaseMatrix ..
  · exact ((((h.drainsFirst ..).modCore ..).foldl (fun _ _ h => h.mxFlags ..) _).modStrand ..).releaseMatrix ..

theorem Keeps.setBankState (h : Keeps false a s) (y p) : Keeps false a (s.setBankState y p) := by
  simp only [State.setBankState]
  split
  · exact h
  · exact h.setRf ..

theorem Keeps.setBankPending (h : Keeps false a s) (y v) : Keeps false a (s.setBankPending y v) := by
  simp only [State.setBankPending]
  split
  · exact h
  · exact h.setRf ..

theorem Keeps.setBankEnable (h : Keeps false a s) (y v) : Keeps false a (s.setBankEnable y v) := by
  simp only [State.setBankEnable]
  split
  · exact h
  · exact h.setRf ..

theorem Keeps.bankEnable (h : Keeps false a s) (y) : Keeps false a (s.bankEnable y) := by
  simp only [State.bankEnable]
  repeat' split
  · exact (h.setBankEnable ..).setBankState ..
  · exact (h.setBankEnable ..).setBankPending ..
  · exact h.setBankEnable ..
  · exact h.setBankEnable ..

theorem Keeps.bankDisable (h : Keeps false a s) (y) : Keeps false a (s.bankDisable y) := by
  simp only [State.bankDisable, State.mk_eq_withRest]
  repeat' split
  · exact h
  · exact (h.setBankEnable ..).withRest ..
  · exact (h.setBankEnable ..).withRest ..
  · exact (h.setBankEnable ..).setBankPending ..
  · exact h.setBankEnable ..

theorem Keeps.bankStopping (h : Keeps false a s) (y) : Keeps false a (s.bankStopping y) := by
  simp only [State.bankStopping, State.mk_eq_withRest]
  exact Keeps.ite ((h.setBankState ..).withRest ..) h

theorem Keeps.bankOff (h : Keeps false a s) (y) : Keeps false a (s.bankOff y) := by
  simp only [State.bankOff]
  exact Keeps.ite (Keeps.ite ((h.setBankPending ..).setBankState ..) (h.setBankState ..)) h

theorem Keeps.bankOn (h : Keeps false a s) (y) : Keeps false a (s.bankOn y) := by
  simp only [State.bankOn]
  exact Keeps.ite ((h.zeroRange ..).setBankState ..) h

end Sys2Proof.Machine
end

section
/-! SUPPORT. What counters, synchronisation, events, external memory, the host port and the MMU keep (R205 to R207, R226 to R234, R265 to R335). -/

namespace Sys2Proof.Machine
variable {a s : State}

theorem Keeps.finishSync (h : Keeps false a s) (k i) : Keeps false a (s.finishSync k i) := by
  simp only [State.finishSync]
  repeat' split
  · exact ((h.trace ..).dropAllLines ..).modStrand ..
  · exact (h.dropAllLines ..).modStrand ..
  · exact (h.trace ..).modStrand ..
  · exact h.modStrand ..

theorem Keeps.wakeWaiter (h : Keeps false a s) (w) : Keeps false a (s.wakeWaiter w) := by
  simp only [State.wakeWaiter]
  split
  · exact h.finishSync ..
  · exact h.inject ..

theorem Keeps.serveTakers (h : Keeps false a s) (c l) : Keeps false a (serveTakers c l s) := by
  induction l generalizing s with
  | nil => exact h
  | cons w l ih =>
    simp only [Machine.serveTakers, State.mk_eq_withRest]
    split
    · exact ih (((h.setRf ..).withRest ..).wakeWaiter ..)
    · exact h

theorem Keeps.serveWaiters (h : Keeps false a s) (c) : Keeps false a (s.serveWaiters c) := by
  simp only [State.serveWaiters, State.mk_eq_withRest]
  exact ((h.withRest ..).foldl (fun _ _ h => h.wakeWaiter ..) _).serveTakers ..

theorem Keeps.countOp (h : Keeps false a s) (c) : Keeps false a (s.countOp c) := by
  simp only [State.countOp]
  split
  · exact h.bump ..
  · exact h

theorem Keeps.ctrAdd (h : Keeps false a s) (c d) : Keeps false a (s.ctrAdd c d).2 := by
  simp only [State.ctrAdd]
  repeat' split
  · exact ((((h.countOp ..).setRf ..).setRf ..).setRf ..).serveWaiters ..
  · exact (((h.countOp ..).setRf ..).setRf ..).serveWaiters ..
  · exact (((h.countOp ..).setRf ..).setRf ..).serveWaiters ..
  · exact ((h.countOp ..).setRf ..).serveWaiters ..

theorem Keeps.ctrAssign (h : Keeps false a s) (c x) : Keeps false a (s.ctrAssign c x).2 := by
  simp only [State.ctrAssign]
  exact (Keeps.ite (((h.countOp ..).setRf ..).setRf ..) ((h.countOp ..).setRf ..)).serveWaiters ..

theorem Keeps.ctrWait (h : Keeps false a s) (w) : Keeps false a (s.ctrWait w).2 := by
  simp only [State.ctrWait, State.mk_eq_withRest]
  repeat' split
  · exact (h.countOp ..).setRf ..
  · exact (h.countOp ..).withRest ..
  · exact h.countOp ..
  · exact (h.countOp ..).withRest ..

theorem Keeps.ctrErr (h : Keeps false a s) (u p code) : Keeps false a (s.ctrErr u p code) := by
  simp only [State.ctrErr]
  exact (Keeps.ite (h.countRefusal ..) h).inject ..

theorem Keeps.apertureAmo (h : Keeps false a s) (p) : Keeps false a (s.apertureAmo p) := by
  simp only [State.apertureAmo]
  split
  · exact (h.bump ..).inject ..
  · exact h.inject ..

theorem Keeps.of_takeSink {p : Packet} {t : State} (h : Keeps false a s) {ep vc ok} (e : s.takeSink ep vc ok = some (p, t)) :
    Keeps false a t := by
  simp only [State.takeSink, State.mk_eq_withRest] at e
  split at e
  · cases e
  · split at e
    · split at e
      · obtain ⟨-, rfl⟩ := Prod.mk.inj (Option.some.inj e)
        exact h.withRest ..
      · cases e
    · cases e

theorem Keeps.serveAmo {f : CounterId → Packet → State → State} (h : Keeps false a s)
    (hf : ∀ c p s, Keeps false a s → Keeps false a (f c p s)) (ep code) : Keeps false a (s.serveAmo ep code f) := by
  simp only [State.serveAmo]
  split
  · exact h
  · have h1 := h.of_takeSink ‹_›
    repeat' split
    · exact h1.apertureAmo ..
    · exact h1.ctrErr ..
    · exact hf _ _ _ h1
    · exact h1

theorem Keeps.amoReply (h : Keeps false a s) (p ep v ovf unf done) : Keeps false a (s.amoReply p ep v ovf unf done) := by
  simp only [State.amoReply]
  exact h.inject ..

theorem Keeps.amoAdd (h : Keeps false a s) (ep) : Keeps false a (s.amoAdd ep) := by
  simp only [State.amoAdd]
  exact h.serveAmo (fun _ _ _ h => (h.ctrAdd ..).amoReply ..) ..

theorem Keeps.amoSet (h : Keeps false a s) (ep) : Keeps false a (s.amoSet ep) := by
  simp only [State.amoSet]
  exact h.serveAmo (fun _ _ _ h => (h.ctrAssign ..).amoReply ..) ..

theorem Keeps.amoWait (h : Keeps false a s) (ep take) : Keeps false a (s.amoWait ep take) := by
  simp only [State.amoWait]
  exact h.serveAmo (fun _ _ _ h => Keeps.ite ((h.ctrWait ..).amoReply ..) (h.ctrWait ..)) ..

theorem Keeps.amoRead (h : Keeps false a s) (ep) : Keeps false a (s.amoRead ep) := by
  simp only [State.amoRead]
  exact h.serveAmo (fun _ _ _ h => (h.countOp ..).amoReply ..) ..

theorem Keeps.amoCancel (h : Keeps false a s) (ep) : Keeps false a (s.amoCancel ep) := by
  simp only [State.amoCancel, State.mk_eq_withRest]
  exact h.serveAmo (fun _ _ _ h => (((h.withRest ..).countOp ..).serveWaiters ..).amoReply ..) ..

theorem Keeps.sigServe (h : Keeps false a s) (ep set) : Keeps false a (s.sigServe ep set) := by
  simp only [State.sigServe]
  repeat' split
  · exact h
  · exact (h.of_takeSink ‹_›).ctrErr ..
  · exact h.of_takeSink ‹_›
  · exact (h.of_takeSink ‹_›).ctrAdd ..
  · exact (h.of_takeSink ‹_›).ctrAssign ..
  · exact h.of_takeSink ‹_›

theorem Keeps.tokServe (h : Keeps false a s) (ep) : Keeps false a (s.tokServe ep) := by
  simp only [State.tokServe]
  repeat' split
  · exact h
  · exact (h.of_takeSink ‹_›).countRefusal ..
  · exact h.of_takeSink ‹_›
  · exact h.of_takeSink ‹_›
  · exact (h.of_takeSink ‹_›).ctrAdd ..

theorem Keeps.amoDpick (h : Keeps false a s) (ep) : Keeps false a (s.amoDpick ep) := by
  simp only [State.amoDpick]
  repeat' split
  · exact h
  · exact (((h.of_takeSink ‹_›).physRead ..).of_snd ‹_›).inject ..
  · exact (((((h.of_takeSink ‹_›).physRead ..).of_snd ‹_›).bump ..).setNum ..).inject ..
  · exact ((((h.of_takeSink ‹_›).physRead ..).of_snd ‹_›).bump ..).inject ..

theorem Keeps.sendAmo (h : Keeps false a s) (k c op tag x) : Keeps false a (s.sendAmo k c op tag x) := by
  simp only [State.sendAmo]
  exact h.inject ..

theorem Keeps.applySignal (h : Keeps false a s) (o) : Keeps false a (s.applySignal o).2 := by
  simp only [State.applySignal]
  split
  · exact h.ctrAdd ..
  · exact h.ctrAssign ..

theorem Keeps.askCounter (h : Keeps false a s) (k i o) : Keeps false a (s.askCounter k i o) := by
  simp only [State.askCounter]
  exact (h.newTag.modStrand ..).sendAmo ..

theorem BodyKeeps.syncBody (f o) : BodyKeeps a (syncBody f o) := by
  intro e s h
  simp only [Machine.syncBody]
  repeat' split
  · exact .illegal _
  · exact .illegal _
  · exact .done ((h.applySignal ..).of_snd ‹_›)
  · exact .late ((h.applySignal ..).of_snd ‹_›) _ _
  · exact .wait (h.askCounter ..) _ _
  · exact .wait (h.modStrand ..) _ _
  · exact .done ((h.applySignal ..).of_snd ‹_›)
  · exact .late ((h.applySignal ..).of_snd ‹_›) _ _
  · exact .wait (h.askCounter ..) _ _
  · exact .wait (h.modStrand ..) _ _
  · exact .done (((h.ctrWait ..).of_snd ‹_›).dropAllLines ..)
  · exact .done ((h.ctrWait ..).of_snd ‹_›)
  · exact .wait (((h.ctrWait ..).of_snd ‹_›).modStrand ..) _ _
  · exact .wait (h.askCounter ..) _ _
  · exact .done (((h.ctrWait ..).of_snd ‹_›).dropAllLines ..)
  · exact .done ((h.ctrWait ..).of_snd ‹_›)
  · exact .wait (((h.ctrWait ..).of_snd ‹_›).modStrand ..) _ _
  · exact .wait (h.askCounter ..) _ _
  · exact .done ((h.countOp ..).modStrand ..)
  · exact .wait (h.askCounter ..) _ _
  · exact .hold h _ _
  · exact .done (h.newTag.modCore ..)
  · exact .done (h.ctrAdd ..)
  · exact .done (h.inject ..)

theorem Keeps.fenceRelease (h : Keeps false a s) (k i) : Keeps false a (s.fenceRelease k i) := by
  simp only [State.fenceRelease]
  repeat' split
  · exact h
  · exact ((h.applySignal ..).of_snd ‹_›).finishSync ..
  · exact ((h.applySignal ..).of_snd ‹_›).syncCause ..
  · exact (h.askCounter ..).setRun ..
  · exact h

theorem Keeps.counterAnswer (h : Keeps false a s) (k i v) : Keeps false a (s.counterAnswer k i v) := by
  simp only [State.counterAnswer]
  repeat' split
  · exact h
  · exact h.finishSync ..
  · exact h.syncCause ..
  · exact h.finishSync ..
  · exact h.syncCause ..
  · exact (h.modStrand ..).finishSync ..
  · exact h
  · exact h.finishSync ..
  · exact h
  · exact h.finishSync ..

theorem Keeps.cancelAnswer (h : Keeps false a s) (k i v) : Keeps false a (s.cancelAnswer k i v) := by
  simp only [State.cancelAnswer]
  exact Keeps.ite (h.finishSync ..) (h.modStrand ..)

theorem Keeps.counterError (h : Keeps false a s) (k i) : Keeps false a (s.counterError k i) := by
  simp only [State.counterError]
  split
  · exact h
  · exact h.syncCause ..

theorem Keeps.withdrawCounter (h : Keeps false a s) (k i) : Keeps false a (s.withdrawCounter k i).2 := by
  simp only [State.withdrawCounter, State.mk_eq_withRest]
  repeat' split
  · dsimp only
    exact h.modStrand ..
  · dsimp only
    exact (h.withRest ..).modStrand ..
  · dsimp only
    exact (h.newTag.modStrand ..).inject ..

theorem Keeps.atBoundary {f : State → Nat → State} (h : Keeps false a s) (hf : ∀ s n, Keeps false a s → Keeps false a (f s n)) (w wants) :
    Keeps false a (s.atBoundary w wants f) := by
  simp only [State.atBoundary]
  split
  · exact h
  · split
    · exact h
    · split
      · exact h
      · exact h
      · split
        · exact hf _ _ (((h.atSlot ..).withdrawCounter ..).of_snd ‹_›)
        · exact ((h.atSlot ..).withdrawCounter ..).of_snd ‹_›
      · exact hf _ _ ((h.atSlot ..).leaveWalks ..)
      · exact hf _ _ ((h.atSlot ..).leaveWalks ..)
      · split
        · exact h
        · exact hf _ _ (h.atSlot ..)
      · exact hf _ _ (h.atSlot ..)

theorem Keeps.tryDeferrable_getD (h : Keeps false a s) (k i n) : Keeps false a ((s.tryDeferrable k i n).getD s) := by
  cases e : s.tryDeferrable k i n with
  | none => exact h
  | some t => exact h.of_tryDeferrable e

theorem Keeps.exceptionEntry (h : Keeps false a s) (w) : Keeps false a (s.exceptionEntry w) := by
  simp only [State.exceptionEntry]
  exact h.atBoundary (fun _ _ h => h.tryDeferrable_getD ..) ..

theorem Keeps.restStopEntry (h : Keeps false a s) (w) : Keeps false a (s.restStopEntry w) := by
  simp only [State.restStopEntry]
  exact h.atBoundary (fun _ _ h => h.enterRest ..) ..

theorem Keeps.timerInterrupt (h : Keeps false a s) (k i cycle) : Keeps false a (s.timerInterrupt k i cycle) := by
  simp only [State.timerInterrupt]
  exact Keeps.ite (h.modCore ..) h

theorem Keeps.xirqSet (h : Keeps false a s) (k i) : Keeps false a (s.xirqSet k i) := by
  simp only [State.xirqSet]
  exact h.modStrand ..

theorem Keeps.resumeGo (h : Keeps false a s) (k i usepc pc) : Keeps false a (s.resumeGo k i usepc pc) := by
  simp only [State.resumeGo]
  exact Keeps.ite ((((h.modStrand ..).setRf ..).setRf ..).setRf ..) h

theorem Keeps.vfpCtlWrite (h : Keeps false a s) (k i v) : Keeps false a (s.vfpCtlWrite k i v) := by
  simp only [State.vfpCtlWrite]
  exact h.modStrand ..

theorem Keeps.dinv (h : Keeps false a s) (k) : Keeps false a (s.dinv k) := by
  simp only [State.dinv]
  exact h.dropAllLines ..

theorem Keeps.iinv (h : Keeps false a s) (k) : Keeps false a (s.iinv k) := by
  simp only [State.iinv]
  exact h.modCore ..

theorem Keeps.ucDecWrite (h : Keeps false a s) (u e v) : Keeps false a (s.ucDecWrite u e v) := by
  simp only [State.ucDecWrite]
  exact ((((h.setRf ..).setRf ..).setRf ..).setRf ..).setRf ..

theorem Keeps.setScrub (h : Keeps false a s) (m first count busy) : Keeps false a (s.setScrub m first count busy) := by
  simp only [State.setScrub]
  split <;> exact ((h.setRf ..).setRf ..).setRf ..

theorem Keeps.setScrubDone (h : Keeps false a s) (m done) : Keeps false a (s.setScrubDone m done) := by
  simp only [State.setScrubDone]
  split <;> exact h.setRf ..

theorem Keeps.addScrub (h : Keeps false a s) (m first count) : Keeps false a (s.addScrub m first count).2 := by
  simp only [State.addScrub, State.mk_eq_withRest]
  exact Keeps.ite (h.newTag.withRest ..) (((h.newTag.withRest ..).setScrub ..).setScrubDone ..)

theorem Keeps.scrubGo (h : Keeps false a s) (m first count) : Keeps false a (s.scrubGo m first count) := by
  simp only [State.scrubGo]
  repeat' split
  · exact h
  · exact h.setScrub ..
  · exact (h.setScrub ..).setRf ..
  · exact h.addScrub ..
  · exact h.addScrub ..
  · exact h
  · exact h.setScrub ..
  · exact (h.setScrub ..).setRf ..
  · exact h.addScrub ..
  · exact h.addScrub ..

theorem Keeps.zeroPage (h : Keeps false a s) (pg) : Keeps false a (s.zeroPage pg) := by
  simp only [State.zeroPage, State.mk_eq_withRest]
  split <;> exact (h.zeroRange ..).withRest ..

theorem Keeps.of_asidesOfPages {t : State} (h : Keeps false a s) {l} (e : s.asidesOfPages l = some t) : Keeps false a t :=
  h.of_makeAsides e

theorem Keeps.moveGo (h : Keeps false a s) (n hpage dpage toHbm) : Keeps false a (s.moveGo n hpage dpage toHbm) := by
  simp only [State.moveGo, State.mk_eq_withRest]
  exact Keeps.ite h (Keeps.ite (((h.setRf ..).setRf ..).setRf ..)
    (Keeps.ite ((((h.setRf ..).setRf ..).setRf ..).setRf ..) (((((h.setRf ..).setRf ..).setRf ..).setRf ..).withRest ..)))

theorem Keeps.moveEnd (h : Keeps false a s) (n) : Keeps false a (s.moveEnd n) := by
  simp only [State.moveEnd, State.mk_eq_withRest]
  repeat' split
  · exact h
  · exact ((h.setRf ..).withRest ..).setRf ..
  · exact h
  · exact (((h.of_asidesOfPages ‹_›).copyPage ..).setRf ..).withRest ..
  · exact (((h.of_asidesOfPages ‹_›).copyPage ..).setRf ..).withRest ..

theorem Keeps.writeTags (h : Keeps false a s) (n first count slot) : Keeps false a (s.writeTags n first count slot) := by
  simp only [State.writeTags]
  exact h.foldl (fun _ _ h => h.writeTag ..) _

theorem Keeps.setTagCmd (h : Keeps false a s) (n first count slot) : Keeps false a (s.setTagCmd n first count slot) := by
  simp only [State.setTagCmd]
  split
  · exact (((h.setRf ..).setRf ..).setRf ..).setRf ..
  · exact ((h.setRf ..).setRf ..).setRf ..

theorem Keeps.tagGo (h : Keeps false a s) (n first count slot) : Keeps false a (s.tagGo n first count slot) := by
  simp only [State.tagGo]
  repeat' split
  · exact h
  · exact h.setTagCmd ..
  · exact (h.setTagCmd ..).setRf ..
  · exact ((h.setTagCmd ..).writeTags ..).setRf ..
  · exact (h.setTagCmd ..).setRf ..
  · exact ((h.setTagCmd ..).writeTags ..).setRf ..

theorem Keeps.settleRekey (h : Keeps false a s) : Keeps false a s.settleRekey := by
  simp only [State.settleRekey, State.mk_eq_withRest]
  exact Keeps.ite ((h.withRest ..).setRf ..) (h.withRest ..)

theorem Keeps.rekeyGo (h : Keeps false a s) (src dst rate) : Keeps false a (s.rekeyGo src dst rate) := by
  simp only [State.rekeyGo, State.mk_eq_withRest]
  exact Keeps.ite h (Keeps.ite ((((h.setRf ..).setRf ..).setRf ..).setRf ..)
    ((((((h.setRf ..).setRf ..).setRf ..).setRf ..).setRf ..).withRest ..).settleRekey)

theorem Keeps.rekeyPage (h : Keeps false a s) (n) : Keeps false a (s.rekeyPage n) := by
  simp only [State.rekeyPage, State.mk_eq_withRest]
  repeat' split
  · exact h
  · exact h.settleRekey
  · exact ((((h.foldl (fun _ _ h => h.copyUnit ..) _).writeTag ..).bump ..).withRest ..).settleRekey

theorem Keeps.retireSlot (h : Keeps false a s) (k) : Keeps false a (s.retireSlot k) := by
  simp only [State.retireSlot, State.mk_eq_withRest]
  exact Keeps.ite h (Keeps.ite (h.setRf ..) ((h.setRf ..).withRest ..))

theorem Keeps.patrolPass (h : Keeps false a s) (m ecc) : Keeps false a (s.patrolPass m ecc) := by
  simp only [State.patrolPass]
  repeat' split
  · exact h
  · exact (h.extEcc ..).bump ..
  · exact (h.extEcc ..).bump ..

theorem Keeps.setHostState (h : Keeps false a s) (p) : Keeps false a (s.setHostState p) := by
  simp only [State.setHostState]
  exact h.setRf ..

theorem Keeps.setHostLink (h : Keeps false a s) (l) : Keeps false a (s.setHostLink l) := by
  simp only [State.setHostLink]
  exact h.setRf ..

theorem Keeps.hostEnable (h : Keeps false a s) : Keeps false a s.hostEnable := by
  simp only [State.hostEnable]
  repeat' split
  · exact (h.setRf ..).setHostState ..
  · exact (h.setRf ..).setRf ..
  · exact h.setRf ..
  · exact h.setRf ..

theorem Keeps.hostDisable (h : Keeps false a s) : Keeps false a s.hostDisable := by
  simp only [State.hostDisable]
  repeat' split
  · exact (h.setRf ..).setHostState ..
  · exact (h.setRf ..).modHost ..
  · exact (h.setRf ..).setRf ..
  · exact h.setRf ..

theorem Keeps.hostStarted (h : Keeps false a s) : Keeps false a s.hostStarted := by
  simp only [State.hostStarted]
  exact Keeps.ite h (Keeps.ite ((h.modHost ..).setHostState ..) (((h.modHost ..).setHostState ..).setHostLink ..))

theorem Keeps.hostStopped (h : Keeps false a s) : Keeps false a s.hostStopped := by
  simp only [State.hostStopped]
  exact Keeps.ite h (Keeps.ite (((h.setHostLink ..).setRf ..).setHostState ..) ((h.setHostLink ..).setHostState ..))

theorem Keeps.hostRetry (h : Keeps false a s) : Keeps false a s.hostRetry := by
  simp only [State.hostRetry]
  exact Keeps.ite (h.setHostLink ..) h

theorem Keeps.sendFrame (h : Keeps false a s) (f) : Keeps false a (s.sendFrame f) := by
  simp only [State.sendFrame]
  exact Keeps.ite (h.frameOut.modHost ..) h

theorem Keeps.hostUp (h : Keeps false a s) : Keeps false a s.hostUp := by
  simp only [State.hostUp]
  exact Keeps.ite (Keeps.ite ((h.setHostLink ..).sendFrame ..) (h.setHostLink ..)) h

theorem Keeps.hostDown (h : Keeps false a s) : Keeps false a s.hostDown := by
  simp only [State.hostDown]
  exact Keeps.ite (h.setHostLink ..) h

theorem Keeps.mmuInvalidate (h : Keeps false a s) (u x) : Keeps false a (s.mmuInvalidate u x) := by
  simp only [State.mmuInvalidate]
  exact Keeps.ite h ((h.modCluster ..).foldl (fun _ _ h => h.modCore ..) _)

theorem Keeps.invalidationDone (h : Keeps false a s) (u) : Keeps false a (s.invalidationDone u) := by
  simp only [State.invalidationDone]
  repeat' split
  · exact h
  · exact h
  · exact h.modCluster ..

theorem Keeps.fqAnswer (h : Keeps false a s) (u retry) : Keeps false a (s.fqAnswer u retry) := by
  simp only [State.fqAnswer]
  repeat' split
  · exact h
  · exact (h.modCluster ..).foldl (fun _ _ h => h.walkAgain ..) _
  · exact (h.modCluster ..).foldl (fun _ _ h => h.walkFails ..) _

theorem Keeps.synValWrite (h : Keeps false a s) (n v) : Keeps false a (s.synValWrite n v) := by
  simp only [State.synValWrite]
  repeat' split
  · exact h
  · exact h.ctrAssign ..
  · exact h
  · exact h.ctrAssign ..

theorem Keeps.shomeWrite (h : Keeps false a s) (g hub) : Keeps false a (s.shomeWrite g hub) := by
  simp only [State.shomeWrite]
  exact Keeps.ite (h.setRf ..) h

end Sys2Proof.Machine
end

section
/-! SUPPORT. What DMA channels, check units and message channels keep (R246 to R264, R286 to R297). -/

namespace Sys2Proof.Machine
variable {a s : State}

theorem Keeps.setChanState (h : Keeps false a s) (u n p) : Keeps false a (s.setChanState u n p) := by
  simp only [State.setChanState]
  exact h.setRf ..

theorem Keeps.setChanPending (h : Keeps false a s) (u n y) : Keeps false a (s.setChanPending u n y) := by
  simp only [State.setChanPending]
  exact h.setRf ..

theorem Keeps.channelEnable (h : Keeps false a s) (u n) : Keeps false a (s.channelEnable u n) := by
  simp only [State.channelEnable]
  repeat' split
  · exact h
  · exact (h.setRf ..).setChanState ..
  · exact (h.setRf ..).setChanPending ..
  · exact h.setRf ..
  · exact h.setRf ..

theorem Keeps.channelDisable (h : Keeps false a s) (u n) : Keeps false a (s.channelDisable u n) := by
  simp only [State.channelDisable]
  repeat' split
  · exact h
  · exact (h.setRf ..).setChanState ..
  · exact (h.setRf ..).modChan ..
  · exact (h.setRf ..).setChanPending ..
  · exact h.setRf ..

theorem Keeps.channelOn (h : Keeps false a s) (u n) : Keeps false a (s.channelOn u n) := by
  simp only [State.channelOn]
  exact Keeps.ite ((h.modChan ..).setChanState ..) h

theorem Keeps.dmaPulse (h : Keeps false a s) (u cnt amt) : Keeps false a (s.dmaPulse u cnt amt) := by
  simp only [State.dmaPulse]
  repeat' split
  · exact h
  · exact h.inject ..
  · exact h.inject ..

theorem Keeps.countBad (h : Keeps false a s) (u n) : Keeps false a (s.countBad u n) := by
  simp only [State.countBad]
  exact Keeps.ite ((h.bump ..).dmaPulse ..) (h.bump ..)

theorem Keeps.settleBusy (h : Keeps false a s) (u n) : Keeps false a (s.settleBusy u n) := by
  simp only [State.settleBusy]
  exact h.setRf ..

theorem Keeps.dmaGo (h : Keeps false a s) (u n head) : Keeps false a (s.dmaGo u n head) := by
  simp only [State.dmaGo]
  exact Keeps.ite h (Keeps.ite (((h.setRf ..).modChan ..).settleBusy ..) (h.setRf ..))

theorem Keeps.descriptorRead (h : Keeps false a s) (u n) : Keeps false a (s.descriptorRead u n) := by
  unfold State.descriptorRead
  extract_lets c
  split
  · exact h
  · next off _ =>
    have read := h.physRead (clmAddr u off) 64 none
    split
    · exact h
    · next stop _ _ _ =>
      have stopped {t : State} (h : Keeps false a t) : Keeps false a (stop t) := (h.modChan ..).settleBusy ..
      split
      · exact stopped (h.countBad ..)
      · split
        · exact stopped ((read.of_snd ‹_›).countBad ..)
        · have fetched := read.of_snd ‹_›
          extract_lets d next
          split
          · exact stopped fetched
          · split
            · exact fetched.newTag.modChan ..
            · split
              · exact h
              · exact (fetched.newTag.modChan ..).setRf ..

theorem Keeps.startBurst (h : Keeps false a s) (u n) : Keeps false a (s.startBurst u n).2 := by
  simp only [State.startBurst]
  repeat' split
  · exact h
  · exact h
  · dsimp only
    exact ((h.dmaXlate ..).of_snd ‹_›).modChan ..
  · dsimp only
    exact ((h.dmaXlate ..).of_snd ‹_›).modChan ..
  · dsimp only
    exact ((((h.dmaXlate ..).of_snd ‹_›).dmaXlate ..).of_snd ‹_›).modChan ..
  · dsimp only
    exact ((((h.dmaXlate ..).of_snd ‹_›).dmaXlate ..).of_snd ‹_›).modChan ..
  · dsimp only
    exact ((((((h.dmaXlate ..).of_snd ‹_›).dmaXlate ..).of_snd ‹_›).newTag.modCluster ..).modChan ..).dmaRequest ..

theorem Keeps.startPrio (h : Keeps false a s) (u p l left) : Keeps false a (startPrio u p l left s).2 := by
  induction l generalizing s left with
  | nil => exact h
  | cons n l ih =>
    cases left with
    | zero => exact h
    | succ left =>
      simp only [Machine.startPrio]
      have start := h.startBurst u n
      split
      · exact h
      · split
        · exact ih ((start.of_snd ‹_›).modCluster ..) _
        · exact ih (start.of_snd ‹_›) _

theorem Keeps.burstStart (h : Keeps false a s) (u) : Keeps false a (s.burstStart u) := by
  simp only [State.burstStart]
  exact Keeps.ite h (Keeps.foldl_snd h fun _ _ h => h.startPrio ..)

theorem Keeps.dmaAnswer (h : Keeps false a s) (u p) : Keeps false a (s.dmaAnswer u p) := by
  simp only [State.dmaAnswer]
  repeat' split
  · exact h.bump ..
  · exact h
  · exact h.modCluster ..
  · exact (h.newTag.modCluster ..).dmaRequest ..
  · exact h.modCluster ..
  · exact h

theorem Keeps.setChk (h : Keeps false a s) (u k v) : Keeps false a (s.setChk u k v) := by
  simp only [State.setChk]
  exact h.setRf ..

theorem Keeps.chkInit (h : Keeps false a s) (u k) : Keeps false a (s.chkInit u k) := by
  simp only [State.chkInit]
  exact Keeps.ite (h.setChk ..) h

theorem Keeps.absorb (h : Keeps false a s) (u n l) : Keeps false a (s.absorb u n l) := by
  simp only [State.absorb]
  exact h.foldl (fun _ _ h => h.setChk ..) _

theorem Keeps.absorbRun (h : Keeps false a s) (u n f) : Keeps false a (absorbRun u n f s) := by
  induction f generalizing s with
  | zero => exact h
  | succ f ih =>
    simp only [Machine.absorbRun]
    repeat' split
    · exact h
    · exact h
    · exact ih ((h.absorb ..).modChan ..)

theorem Keeps.settleRuns (h : Keeps false a s) (u n f) : Keeps false a (settleRuns u n f s) := by
  induction f generalizing s with
  | zero => exact h
  | succ f ih =>
    have absorbed := h.absorbRun u n
    simp only [Machine.settleRuns]
    split
    · split
      · exact ih (.ite (((absorbed _).modChan ..).dmaPulse ..) ((absorbed _).modChan ..))
      · exact absorbed _
    · exact absorbed _

theorem Keeps.settleChan (h : Keeps false a s) (u n) : Keeps false a (s.settleChan u n) := by
  simp only [State.settleChan]
  exact (h.settleRuns ..).settleBusy ..

theorem Keeps.burstComplete (h : Keeps false a s) (u y) : Keeps false a (s.burstComplete u y) := by
  simp only [State.burstComplete]
  repeat' split
  · exact h
  · exact (h.modCluster ..).modChan ..
  · exact (((h.modCluster ..).bump ..).modChan ..).settleChan ..
  · exact h

theorem Keeps.writeBack (h : Keeps false a s) (u n r code) : Keeps false a (s.writeBack u n r code) := by
  simp only [State.writeBack]
  exact ((((h.physWrite ..).foldl (fun _ _ h => Keeps.ite (h.setRf ..) ((h.setRf ..).fresh.setChk ..))
    _).modChan ..).countBad ..).settleChan ..

theorem Keeps.descriptorBad (h : Keeps false a s) (u n) : Keeps false a (s.descriptorBad u n) := by
  simp only [State.descriptorBad]
  split
  · exact h
  · exact h.writeBack ..

theorem Keeps.writeBackAll (h : Keeps false a s) (u n f) : Keeps false a (writeBackAll u n f s) := by
  induction f generalizing s with
  | zero => exact h
  | succ f ih => exact ih (h.descriptorBad u n)

theorem Keeps.channelOff (h : Keeps false a s) (u n) : Keeps false a (s.channelOff u n) := by
  simp only [State.channelOff]
  repeat' split
  · exact h
  · exact ((((h.writeBackAll ..).modChan ..).settleBusy ..).setChanPending ..).setChanState ..
  · exact (((h.writeBackAll ..).modChan ..).settleBusy ..).setChanState ..

theorem Keeps.ringWrites (h : Keeps false a s) (k base runs) : Keeps false a (s.ringWrites k base runs).2 := by
  simp only [State.ringWrites]
  refine Keeps.foldl_snd h fun _ _ h => ?_
  dsimp only
  exact h.newTag.coreRequest ..

theorem Keeps.countSent (h : Keeps false a s) (k n) : Keeps false a (s.countSent k n) := by
  simp only [State.countSent]
  exact h.setRf ..

theorem Keeps.of_trySend {t : State} (h : Keeps false a s) {k n payload} (e : s.trySend k n payload = some t) : Keeps false a t := by
  have sent {p : Packet} : Keeps false a ((s.inject p).countSent k n) := (h.inject ..).countSent ..
  simp only [State.trySend] at e
  split at e
  · split at e
    · rw [← Option.some.inj e]
      exact ((h.inject ..).modMsg ..).countSent ..
    · split at e
      · cases e
      · split at e
        · cases e
        · rw [← Option.some.inj e]
          exact ((((((h.ringWrites ..).setRf ..).setRf ..).setRf ..)).modMsg ..).countSent ..
  · split at e
    · rw [← Option.some.inj e]
      exact sent
    · cases e
  · split at e
    · split at e
      · cases e
      · rw [← Option.some.inj e]
        exact sent
    · cases e

theorem Keeps.of_trySends {t : State} {l : List (Nat × List Byte)} {k} (h : Keeps false a s) (e : trySends k l s = .inr t) : Keeps false
    a t := by
  induction l generalizing s with
  | nil => exact Sum.inr.inj e ▸ h
  | cons p l ih =>
    simp only [trySends] at e
    split at e
    · cases e
    · exact ih (h.of_trySend ‹_›) e

theorem Keeps.traceSend (h : Keeps false a s) (k i x) : Keeps false a (s.traceSend k i x) := by
  simp only [State.traceSend]
  exact h.trace ..

theorem BodyKeeps.sendBody (fn o) : BodyKeeps a (sendBody fn o) := by
  intro e s h
  simp only [Machine.sendBody]
  repeat' split
  · exact .illegal _
  · exact .done (((h.of_trySends ‹_›).bump ..).traceSend ..)
  · exact .hold (h.modStrand ..) _ _

theorem Keeps.retrySend (h : Keeps false a s) (w) : Keeps false a (s.retrySend w) := by
  simp only [State.retrySend]
  repeat' split
  · exact h
  · exact h
  · exact (((h.modCore ..).countLost ..).bump ..).syncCause ..
  · exact (((h.modCore ..).countLost ..).bump ..).syncCause ..
  · exact ((h.modCore ..).countLost ..).syncCause ..
  · exact h
  · exact ((((((h.modCore ..).of_trySends ‹_›).countLost ..).bump ..).traceSend ..).modStrand ..).issued ..

theorem Keeps.qramWrite (h : Keeps false a s) (k off l) : Keeps false a (s.qramWrite k off l) := by
  simp only [State.qramWrite]
  exact (h.setBytes ..).setBytes ..

theorem Keeps.unbound (h : Keeps false a s) (k) : Keeps false a (s.unbound k) := by
  simp only [State.unbound]
  exact h.bump ..

theorem Keeps.becomeReady (h : Keeps false a s) (k q p) : Keeps false a (s.becomeReady k q p) := by
  simp only [State.becomeReady]
  exact (h.modQueue ..).offer ..

theorem Keeps.msgAtTap (h : Keeps false a s) (k p) : Keeps false a (s.msgAtTap k p) := by
  simp only [State.msgAtTap]
  repeat' split
  · exact h.unbound ..
  · exact h.unbound ..
  · exact h.unbound ..
  · exact ((h.qramWrite ..).modQueue ..).becomeReady ..

theorem Keeps.sendCrd (h : Keeps false a s) (k q) : Keeps false a (s.sendCrd k q) := by
  simp only [State.sendCrd]
  repeat' split
  · exact h.place ..
  · exact h
  · exact h.inject ..

theorem Keeps.release (h : Keeps false a s) (k q) : Keeps false a (s.release k q) := by
  simp only [State.release]
  exact (h.setRf ..).sendCrd ..

theorem Keeps.sendRls (h : Keeps false a s) (k q) : Keeps false a (s.sendRls k q) := by
  simp only [State.sendRls]
  repeat' split
  · exact h.place ..
  · exact h
  · exact h.inject ..

theorem BodyKeeps.recvvBody (o) : BodyKeeps a (recvvBody o) := by
  intro e s h
  simp only [Machine.recvvBody]
  repeat' split
  · exact .illegal _
  · exact .wait (h.modQueue ..) _ _
  · exact .done (((((((((h.modQueue ..).modStrand ..).bump ..).trace ..).qramWrite ..).modQueue ..).setRf ..).sendRls ..).modStrand ..)
  · exact .done (((((h.modQueue ..).modStrand ..).bump ..).trace ..).release ..)

theorem BodyKeeps.recvfBody (o) : BodyKeeps a (recvfBody o) := by
  intro e s h
  simp only [Machine.recvfBody]
  repeat' split
  · exact .illegal _
  · exact .wait (h.modQueue ..) _ _
  · exact .done ((((h.modQueue ..).modStrand ..).bump ..).trace ..)

theorem BodyKeeps.qrelBody (o) : BodyKeeps a (qrelBody o) := by
  intro e s h
  simp only [Machine.qrelBody]
  repeat' split
  · exact .illegal _
  · exact .illegal _
  · exact .done ((h.modQueue ..).release ..)

theorem BodyKeeps.qpollBody (o) : BodyKeeps a (qpollBody o) := by
  intro e s h
  simp only [Machine.qpollBody]
  split
  · exact .illegal _
  · exact .done (h.modStrand ..)

theorem Keeps.htlAtTap (h : Keeps false a s) (k p) : Keeps false a (s.htlAtTap k p) := by
  simp only [State.htlAtTap]
  split
  · exact h
  · exact (h.setRf ..).setRf ..

theorem Keeps.sendTails (h : Keeps false a s) (k n) : Keeps false a (sendTails k n s) := by
  induction n generalizing s with
  | zero => exact h
  | succ n ih =>
    simp only [Machine.sendTails]
    split
    · split
      · exact ih ((h.modMsg ..).inject ..)
      · exact h
    · exact h

theorem Keeps.ringAnswer (h : Keeps false a s) (k tag err) : Keeps false a (s.ringAnswer k tag err) := by
  simp only [State.ringAnswer]
  repeat' split
  · exact h
  · exact (((h.bump ..).setRf ..).modMsg ..).sendTails ..
  · exact (h.modMsg ..).sendTails ..

theorem Keeps.hamperFetch (h : Keeps false a s) (k q) : Keeps false a (s.hamperFetch k q) := by
  simp only [State.hamperFetch]
  split
  · exact h
  · split
    · exact h
    · refine Keeps.modQueue ?_ ..
      refine Keeps.foldl_snd ((h.setRf ..).setRf ..) fun _ _ h => ?_
      dsimp only
      exact h.newTag.coreRequest ..

theorem Keeps.fetchAnswer (h : Keeps false a s) (k q tag data) : Keeps false a (s.fetchAnswer k q tag data) := by
  simp only [State.fetchAnswer]
  repeat' split
  · exact h
  · exact ((((((h.foldl (fun _ _ h => h.qramWrite ..) _).setRf ..).setRf ..).setRf ..).modQueue ..).becomeReady ..).sendCrd ..
  · exact ((((((h.fresh.foldl (fun _ _ h => h.qramWrite ..) _).setRf ..).setRf ..).setRf ..).modQueue ..).becomeReady ..).sendCrd ..
  · exact h.modQueue ..
  · exact h.fresh.modQueue ..

theorem Keeps.crdAtTap (h : Keeps false a s) (k p) : Keeps false a (s.crdAtTap k p) := by
  simp only [State.crdAtTap]
  exact h.foldl (fun _ _ h => Keeps.ite ((((h.setRf ..).setRf ..).modMsg ..).setRf ..) (((h.setRf ..).setRf ..).modMsg ..)) _

theorem Keeps.rlsAtTap (h : Keeps false a s) (k p) : Keeps false a (s.rlsAtTap k p) := by
  simp only [State.rlsAtTap]
  exact h.foldl (fun _ _ h => h.setRf ..) _

theorem Keeps.readyRounds (h : Keeps false a s) (k q n) : Keeps false a (readyRounds k q n s) := by
  induction n generalizing s with
  | zero => exact h
  | succ n ih =>
    simp only [Machine.readyRounds]
    split
    · exact h
    · exact ih ((h.modQueue ..).becomeReady ..)

theorem Keeps.redAtTap (h : Keeps false a s) (k p) : Keeps false a (s.redAtTap k p) := by
  simp only [State.redAtTap]
  repeat' split
  · exact h.unbound ..
  · exact h.unbound ..
  · exact h.unbound ..
  · exact ((((h.qramWrite ..).modQueue ..).setRf ..).bump ..).readyRounds ..
  · exact ((h.qramWrite ..).modQueue ..).readyRounds ..
  · exact (((((h.combineVec ..).qramWrite ..).modQueue ..).setRf ..).bump ..).readyRounds ..
  · exact (((h.combineVec ..).qramWrite ..).modQueue ..).readyRounds ..

end Sys2Proof.Machine
end

section
/-! SUPPORT. What trail links keep (R336 to R373). -/

namespace Sys2Proof.Machine
variable {a s : State}

theorem Keeps.queueTableWrite (h : Keeps false a s) (k q second v) : Keeps false a (s.queueTableWrite k q second v) := by
  simp only [State.queueTableWrite]
  repeat' split
  · exact h
  · exact h
  · exact ((h.setRf ..).foldl (fun _ _ h => h.modStrand ..) _).modQueue ..
  · exact h.setReg ..
  · exact h.setReg ..

theorem Keeps.setPortState (h : Keeps false a s) (p x) : Keeps false a (s.setPortState p x) := by
  simp only [State.setPortState]
  exact h.setRf ..

theorem Keeps.setLink (h : Keeps false a s) (p l) : Keeps false a (s.setLink p l) := by
  simp only [State.setLink]
  exact Keeps.ite h ((h.setRf ..).event ..)

theorem Keeps.dropTrail (h : Keeps false a s) (p) : Keeps false a (s.dropTrail p) := by
  simp only [State.dropTrail]
  exact h.bump ..

theorem Keeps.settleSpoils (h : Keeps false a s) (p) : Keeps false a (s.settleSpoils p) := by
  simp only [State.settleSpoils]
  exact (h.setRf ..).setRf ..

theorem Keeps.spoilWrite (h : Keeps false a s) (p n) : Keeps false a (s.spoilWrite p n) := by
  simp only [State.spoilWrite]
  exact Keeps.ite h ((h.modPort ..).settleSpoils ..)

theorem Keeps.unspoil (h : Keeps false a s) (p n) : Keeps false a (s.unspoil p n) := by
  simp only [State.unspoil]
  exact Keeps.ite h ((h.modPort ..).settleSpoils ..)

theorem Keeps.enqueue (h : Keeps false a s) (p n) : Keeps false a (s.enqueue p n) := by
  simp only [State.enqueue]
  repeat' split
  · exact h.modPort ..
  · exact h
  · exact (h.redCombine ..).modPort ..

theorem Keeps.respond (h : Keeps false a s) (p n kind code payload) : Keeps false a (s.respond p n kind code payload) := by
  simp only [State.respond]
  repeat' split
  · exact h.dropTrail ..
  · exact h.enqueue ..
  · exact h.dropTrail ..

theorem Keeps.answerRequest (h : Keeps false a s) (p r kind code payload) :
    Keeps false a (s.answerRequest p r kind code payload) := by
  simp only [State.answerRequest]
  exact (Keeps.ite (h.bump ..) h).inject ..

theorem Keeps.nakRequest (h : Keeps false a s) (p r code) : Keeps false a (s.nakRequest p r code) := by
  simp only [State.nakRequest]
  exact (h.bump ..).answerRequest ..

theorem Keeps.refuseTrail (h : Keeps false a s) (p n own code) : Keeps false a (s.refuseTrail p n own code) := by
  simp only [State.refuseTrail]
  repeat' split
  · exact (h.bump ..).nakRequest ..
  · exact (h.spoilWrite ..).nakRequest ..
  · exact (h.bump ..).respond ..
  · exact (h.spoilWrite ..).respond ..
  · exact (h.bump ..).dropTrail ..
  · exact (h.spoilWrite ..).dropTrail ..

theorem Keeps.sendTrail (h : Keeps false a s) (p n own) : Keeps false a (s.sendTrail p n own) := by
  simp only [State.sendTrail]
  repeat' split
  · exact h.refuseTrail ..
  · exact h.refuseTrail ..
  · exact ((h.unspoil ..).modPort ..).enqueue ..
  · exact (h.unspoil ..).enqueue ..
  · exact (h.unspoil ..).enqueue ..

theorem Keeps.apertureRequest (h : Keeps false a s) (p q) : Keeps false a (s.apertureRequest p q).2 := by
  simp only [State.apertureRequest]
  repeat' split
  · dsimp only
    exact h.inject ..
  · dsimp only
    exact h
  · dsimp only
    exact h.sendTrail ..
  · dsimp only
    exact h
  · dsimp only
    exact h.sendTrail ..
  · dsimp only
    exact h.answerRequest ..
  · dsimp only
    exact h.sendTrail ..
  · dsimp only
    exact h
  · dsimp only
    exact h.sendTrail ..
  · dsimp only
    exact h.answerRequest ..

theorem Keeps.egress (h : Keeps false a s) (p q) : Keeps false a (s.egress p q) := by
  simp only [State.egress]
  repeat' split
  · exact h.dropTrail ..
  · exact h.sendTrail ..
  · exact h.sendTrail ..

theorem Keeps.creditOut (h : Keeps false a s) (p q) : Keeps false a (s.creditOut p q) := by
  simp only [State.creditOut]
  exact h.foldl (fun _ _ h => h.sendTrail ..) _

theorem Keeps.multicastIn (h : Keeps false a s) (u q) : Keeps false a (s.multicastIn u q) := by
  simp only [State.multicastIn]
  exact h.enterNode ..

theorem Keeps.ingress (h : Keeps false a s) (p n) : Keeps false a (s.ingress p n) := by
  simp only [State.ingress]
  repeat' split
  · exact h.dropTrail ..
  · exact (h.bump ..).multicastIn ..
  · exact (h.bump ..).multicastIn ..
  · exact (h.bump ..).inject ..
  · exact (h.bump ..).inject ..

theorem Keeps.creditIn (h : Keeps false a s) (p n) : Keeps false a (s.creditIn p n) := by
  simp only [State.creditIn]
  repeat' split
  · exact h.dropTrail ..
  · exact h.multicastIn ..
  · exact h.multicastIn ..
  · exact h.inject ..
  · exact h.inject ..

theorem Keeps.spoilWindow (h : Keeps false a s) (n code) : Keeps false a (s.spoilWindow n code) := by
  simp only [State.spoilWindow]
  exact Keeps.ite (h.setRf ..) h

theorem Keeps.remoteEffect (h : Keeps false a s) (p n) : Keeps false a (s.remoteEffect p n) := by
  simp only [State.remoteEffect]
  repeat' split
  · exact h.newTag.respond ..
  · exact ((h.newTag.modPort ..).inject ..).respond ..
  · exact (h.newTag.modPort ..).inject ..
  · exact (h.newTag.modPort ..).inject ..

theorem Keeps.remoteRequest (h : Keeps false a s) (p n) : Keeps false a (s.remoteRequest p n) := by
  simp only [State.remoteRequest]
  repeat' split
  · exact ((h.bump ..).spoilWindow ..).respond ..
  · exact (h.bump ..).spoilWindow ..
  · exact h.remoteEffect ..
  · exact h.inject ..
  · exact h
  · exact h.remoteEffect ..
  · exact h.newTag.modPort ..

theorem Keeps.releaseHeld (h : Keeps false a s) (p n) : Keeps false a (releaseHeld p n s) := by
  induction n generalizing s with
  | zero => exact h
  | succ n ih =>
    simp only [Machine.releaseHeld]
    split
    · split
      · exact ih ((h.modPort ..).remoteEffect ..)
      · exact h
    · exact h

theorem Keeps.settleWindows (h : Keeps false a s) : Keeps false a s.settleWindows := by
  simp only [State.settleWindows]
  exact h.foldl (fun _ _ h => h.endPending ..) _

theorem Keeps.trailAnswer (h : Keeps false a s) (p q) : Keeps false a (s.trailAnswer p q) := by
  simp only [State.trailAnswer]
  repeat' split
  · exact (((h.modPort ..).respond ..).releaseHeld ..).settleWindows
  · exact (((h.modPort ..).respond ..).releaseHeld ..).settleWindows
  · exact ((((h.modPort ..).spoilWindow ..).respond ..).releaseHeld ..).settleWindows
  · exact ((((h.modPort ..).spoilWindow ..).respond ..).releaseHeld ..).settleWindows
  · exact (h.modPort ..).respond ..
  · exact h
  · exact h

theorem Keeps.forward (h : Keeps false a s) (p n) : Keeps false a (s.forward p n) := by
  simp only [State.forward]
  repeat' split
  · exact h.refuseTrail ..
  · exact h.refuseTrail ..
  · exact h.sendTrail ..

theorem Keeps.remoteAnswer (h : Keeps false a s) (p n) : Keeps false a (s.remoteAnswer p n) := by
  simp only [State.remoteAnswer]
  repeat' split
  · exact h
  · exact (h.modPort ..).answerRequest ..
  · exact (h.modPort ..).answerRequest ..
  · exact (h.modPort ..).nakRequest ..

theorem Keeps.takeTrail {f : TPkt → State → State} (h : Keeps false a s) (hf : ∀ t s, Keeps false a s → Keeps false a (f t s)) (p k) :
    Keeps false a (s.takeTrail p k f) := by
  simp only [State.takeTrail]
  repeat' split
  · exact h
  · exact h
  · exact h
  · exact hf _ _ (h.modPort ..)
  · exact (h.modPort ..).forward ..

theorem Keeps.emitFlit (h : Keeps false a s) (p ftype cls slots seq body) :
    Keeps false a (s.emitFlit p ftype cls slots seq body) := by
  simp only [State.emitFlit]
  exact Keeps.ite ((h.modPort ..).bump ..) (h.modPort ..)

theorem Keeps.gather (h : Keeps false a s) (p cls start n y) : Keeps false a (gather p cls start n y s).2 := by
  induction n generalizing s y with
  | zero => exact h
  | succ n ih =>
    simp only [Machine.gather]
    split
    · exact h
    · split
      · exact ih (h.modPort ..) _
      · split
        · exact h
        · split
          · exact h
          · split
            · exact ih ((h.modPort ..).answerRequest ..) _
            · exact ih (h.modPort ..) _

theorem Keeps.flitSend (h : Keeps false a s) (p) : Keeps false a (s.flitSend p) := by
  simp only [State.flitSend]
  repeat' split
  · exact h
  · exact (h.modPort ..).emitFlit ..
  · exact (h.modPort ..).emitFlit ..
  · exact (h.modPort ..).emitFlit ..
  · exact h.emitFlit ..
  · exact h.emitFlit ..
  · exact ((h.gather ..).emitFlit ..).modPort ..

theorem Keeps.reassemble (h : Keeps false a s) (p cls n) : Keeps false a (reassemble p cls n s) := by
  induction n generalizing s with
  | zero => exact h
  | succ n ih =>
    simp only [Machine.reassemble]
    split
    · exact h
    · split
      · exact h
      · split
        · exact ih (((h.modPort ..).modPort ..).dropTrail ..)
        · exact ih ((h.modPort ..).modPort ..)

theorem Keeps.linkDown (h : Keeps false a s) (p) : Keeps false a (s.linkDown p) := by
  simp only [State.linkDown]
  split
  · exact h
  · exact (((((h.modPort ..).setRf ..).setRf ..).setLink ..).foldl (fun _ _ h => (h.spoilWrite ..).nakRequest ..) _).foldl
      (fun _ _ h => (by split; exacts [(h.dropTrail ..).nakRequest .., h.refuseTrail ..])) _

theorem Keeps.retrain (h : Keeps false a s) (p) : Keeps false a (s.retrain p) := by
  simp only [State.retrain]
  exact (h.bump ..).modPort ..

theorem Keeps.flitReturns (h : Keeps false a s) (p hd) : Keeps false a (s.flitReturns p hd) := by
  simp only [State.flitReturns]
  exact h.modPort ..

theorem Keeps.flitIn (h : Keeps false a s) (p f) : Keeps false a (s.flitIn p f) := by
  simp only [State.flitIn]
  repeat' split
  · exact h
  · exact (h.bump ..).modPort ..
  · exact ((h.flitReturns ..).modPort ..).reassemble ..
  · exact h.flitReturns ..
  · exact (((h.flitReturns ..).bump ..).modPort ..).retrain ..
  · exact ((h.flitReturns ..).bump ..).modPort ..
  · exact (h.flitReturns ..).linkDown ..
  · exact h.flitReturns ..

theorem Keeps.trainingDone (h : Keeps false a s) (p lanes peer) : Keeps false a (s.trainingDone p lanes peer) := by
  simp only [State.trainingDone]
  exact Keeps.ite h (Keeps.ite ((h.setRf ..).setRf ..) ((((((h.setRf ..).setRf ..).setRf ..).setRf ..).modPort ..).setLink ..))

theorem Keeps.trainingAttempt (h : Keeps false a s) (p) : Keeps false a (s.trainingAttempt p) := by
  simp only [State.trainingAttempt]
  exact Keeps.ite (h.setLink ..) h

theorem Keeps.laneFailure (h : Keeps false a s) (p lane) : Keeps false a (s.laneFailure p lane) := by
  simp only [State.laneFailure]
  exact Keeps.ite h (Keeps.ite ((h.setRf ..).retrain ..) (h.setRf ..))

theorem Keeps.retrainDone (h : Keeps false a s) (p peer) : Keeps false a (s.retrainDone p peer) := by
  simp only [State.retrainDone]
  exact Keeps.ite h (Keeps.ite (h.linkDown ..) ((h.setRf ..).modPort ..))

theorem Keeps.trailEnable (h : Keeps false a s) (p) : Keeps false a (s.trailEnable p) := by
  simp only [State.trailEnable]
  repeat' split
  · exact h
  · exact (h.setRf ..).setPortState ..
  · exact (h.setRf ..).setRf ..
  · exact h.setRf ..
  · exact h.setRf ..

theorem Keeps.trailDisable (h : Keeps false a s) (p) : Keeps false a (s.trailDisable p) := by
  simp only [State.trailDisable]
  repeat' split
  · exact h
  · exact (h.setRf ..).setPortState ..
  · exact (h.setRf ..).modPort ..
  · exact (h.setRf ..).setRf ..
  · exact h.setRf ..

theorem Keeps.trailStarted (h : Keeps false a s) (p) : Keeps false a (s.trailStarted p) := by
  simp only [State.trailStarted]
  exact Keeps.ite h ((h.modPort ..).setPortState ..)

theorem Keeps.trailStopped (h : Keeps false a s) (p) : Keeps false a (s.trailStopped p) := by
  simp only [State.trailStopped]
  repeat' split
  · exact h
  · exact (((h.emitFlit ..).linkDown ..).setRf ..).setPortState ..
  · exact ((h.emitFlit ..).linkDown ..).setPortState ..
  · exact ((h.linkDown ..).setRf ..).setPortState ..
  · exact (h.linkDown ..).setPortState ..

end Sys2Proof.Machine
end

section
/-! SUPPORT. What the services of packets and the accesses to registers keep (R6, R27, R245). -/

namespace Sys2Proof.Machine
variable {a s : State}

theorem Keeps.countBytes (h : Keeps false a s) (n out p) : Keeps false a (s.countBytes n out p) := by
  simp only [State.countBytes]
  repeat' split
  · exact h.bump ..
  · exact h.bump ..
  · exact h
  · exact h.bump ..
  · exact h.bump ..
  · exact h.bump ..
  · exact h.bump ..
  · exact h.bump ..
  · exact h.bump ..
  · exact h.bump ..
  · exact h.bump ..
  · exact h.bump ..
  · exact h.bump ..
  · exact h.bump ..
  · exact h.bump ..
  · exact h

theorem Keeps.passOutput (h : Keeps false a s) (n out p) : Keeps false a (s.passOutput n out p) := by
  simp only [State.passOutput]
  repeat' split
  · exact (h.countBytes ..).enterNode ..
  · exact (h.countBytes ..).deliver ..
  · exact (h.countBytes ..).enterNode ..
  · exact (h.countBytes ..).deliver ..
  · exact h.refuse ..
  · exact h.inject ..
  · exact h
  · exact (h.countBytes ..).enterNode ..
  · exact (h.countBytes ..).deliver ..

theorem Keeps.routerArrival (h : Keeps false a s) (n out) : Keeps false a (s.routerArrival n out) := by
  simp only [State.routerArrival, State.mk_eq_withRest]
  repeat' split
  · exact h
  · exact (h.withRest ..).passOutput ..
  · exact (h.withRest ..).passOutput ..

theorem Keeps.chipEcc (h : Keeps false a s) (site ecc off n read data) : Keeps false a (s.chipEcc site ecc off n read data).2 := by
  simp only [State.chipEcc]
  repeat' split
  · exact Keeps.foldl_snd (h.foldl (fun _ _ h => h.storeEcc ..) _) fun _ _ h => (h.storeEcc ..).fresh
  · exact Keeps.foldl_snd (h.foldl (fun _ _ h => ((h.bump ..).setRf ..).note ..) _) fun _ _ h => (((h.bump ..).setRf ..).note ..).fresh
  · exact Keeps.foldl_snd (h.foldl (fun _ _ h => h.bump ..) _) fun _ _ h => (((h.bump ..).setRf ..).note ..).fresh
  · exact Keeps.foldl_snd (h.foldl (fun _ _ h => ((h.bump ..).setRf ..).note ..) _) fun _ _ h => (h.bump ..).fresh
  · exact Keeps.foldl_snd (h.foldl (fun _ _ h => h.bump ..) _) fun _ _ h => (h.bump ..).fresh
  · exact Keeps.foldl_snd (h.foldl (fun _ _ h => h) _) fun _ _ h => h.fresh

theorem Keeps.memRead (h : Keeps false a s) (pa n key ecc) : Keeps false a (s.memRead pa n key ecc).2 := by
  simp only [State.memRead]
  repeat' split
  · dsimp only
    exact ((h.physRead ..).of_snd ‹_›).chipEcc ..
  · exact h.physRead ..
  · dsimp only
    exact ((h.physRead ..).of_snd ‹_›).chipEcc ..
  · exact h.physRead ..
  · exact (h.extEcc ..).physRead ..
  · exact h.physRead ..
  · exact (h.extEcc ..).physRead ..
  · exact h.physRead ..

theorem Keeps.of_memWrite {r : Option Nat} {t : State} (h : Keeps false a s) {pa y key ecc} (e : s.memWrite pa y key ecc = some (r, t)) :
    Keeps false a t := by
  have direct {r t} (e : some (s.physWrite pa y key) = some (r, t)) : Keeps false a t :=
    (h.physWrite ..).of_snd (Option.some.inj e)
  have ext {m : ExtMem} {l : Ecc} {o n : Nat} {r t}
      (e : (s.asidesFor pa y.length).map (fun s => (s.extEcc m l o n false).physWrite pa y key) = some (r, t)) : Keeps false a t := by
    obtain ⟨s1, e1, e2⟩ := Option.map_eq_some_iff.1 e
    exact (((h.of_asidesFor e1).extEcc ..).physWrite ..).of_snd e2
  have chip {o n : Nat} {r t} (e : (match s.physWrite pa y key with
      | (none, s1) => some ((none : Option Nat), (s1.chipEcc (s.site pa) ecc o n false []).2)
      | r => some r) = some (r, t)) : Keeps false a t := by
    split at e
    · obtain ⟨-, rfl⟩ := Prod.mk.inj (Option.some.inj e)
      exact ((h.physWrite ..).of_snd ‹_›).chipEcc ..
    · exact direct e
  simp only [State.memWrite] at e
  split at e
  · exact chip e
  · exact chip e
  · exact ext e
  · split at e
    · exact direct e
    · exact ext e
  · exact direct e

theorem Keeps.answerHole (h : Keeps false a s) (ep p) : Keeps false a (s.answerHole ep p) := by
  simp only [State.answerHole]
  repeat' split
  · exact (h.bump ..).inject ..
  · exact ((h.bump ..).countRefusal ..).inject ..
  · exact h.inject ..

theorem Keeps.serveRd (h : Keeps false a s) (ep ecc) : Keeps false a (s.serveRd ep ecc) := by
  simp only [State.serveRd]
  repeat' split
  · exact h
  · exact ((h.of_takeSink ‹_›).apertureRequest ..).of_snd ‹_›
  · exact h
  · exact (h.of_takeSink ‹_›).answerHole ..
  · exact (((h.of_takeSink ‹_›).memRead ..).of_snd ‹_›).inject ..
  · exact (((h.of_takeSink ‹_›).memRead ..).of_snd ‹_›).inject ..

theorem Keeps.serveWr (h : Keeps false a s) (ep ecc) : Keeps false a (s.serveWr ep ecc) := by
  simp only [State.serveWr]
  repeat' split
  · exact h
  · exact ((h.of_takeSink ‹_›).apertureRequest ..).of_snd ‹_›
  · exact h
  · exact (h.of_takeSink ‹_›).answerHole ..
  · exact h
  · exact ((h.of_takeSink ‹_›).of_memWrite ‹_›).inject ..
  · exact ((h.of_takeSink ‹_›).of_memWrite ‹_›).inject ..

theorem Keeps.noteParts (h : Keeps false a s) (k code hit) : Keeps false a (s.noteParts k code hit) := by
  simp only [State.noteParts]
  exact h.foldl (fun _ _ h => h.foldl (fun _ _ h => Keeps.ite (h.note ..) h) _) _

theorem Keeps.fetchLineAnswer (h : Keeps false a s) (k p) : Keeps false a (s.fetchLineAnswer k p) := by
  simp only [State.fetchLineAnswer]
  exact Keeps.ite ((h.modCore ..).noteParts ..) (h.modCore ..)

theorem Keeps.partAnswer (h : Keeps false a s) (k p) : Keeps false a (s.partAnswer k p) := by
  simp only [State.partAnswer]
  split
  · exact (h.noteParts ..).fresh.modCore ..
  · exact h.modCore ..

theorem Keeps.storeAnswer (h : Keeps false a s) (k p) : Keeps false a (s.storeAnswer k p) := by
  simp only [State.storeAnswer]
  split
  · exact ((h.foldl (fun _ _ h => (by split; exacts [h.note .., h])) _).modCore ..).pump ..
  · exact (h.modCore ..).pump ..

theorem Keeps.strayAnswer (h : Keeps false a s) (k p) : Keeps false a (s.strayAnswer k p) := by
  simp only [State.strayAnswer]
  repeat' split
  · exact h
  · exact h.bump ..
  · exact (h.bump ..).setRf ..
  · exact h
  · exact h.bump ..

theorem Keeps.coreAnswer (h : Keeps false a s) (k p) : Keeps false a (s.coreAnswer k p) := by
  simp only [State.coreAnswer]
  repeat' split
  · exact h.fetchLineAnswer ..
  · exact h.partAnswer ..
  · exact h.storeAnswer ..
  · exact h.ringAnswer ..
  · exact h.fetchAnswer ..
  · exact h.fetchAnswer ..
  · exact h.counterAnswer ..
  · exact h.counterError ..
  · exact h.cancelAnswer ..
  · exact h.cancelAnswer ..
  · exact h.strayAnswer ..

theorem Keeps.cheterAnswer (h : Keeps false a s) (p) : Keeps false a (s.cheterAnswer p) := by
  simp only [State.cheterAnswer]
  repeat' split
  · exact h.coreAnswer ..
  · exact h
  · exact (h.modHost ..).settleRemote ..
  · exact ((h.modHost ..).reply ..).endCommand ..
  · exact ((h.modHost ..).reply ..).endCommand ..

theorem Keeps.serveAnswer (h : Keeps false a s) (ep k) : Keeps false a (s.serveAnswer ep k) := by
  simp only [State.serveAnswer]
  repeat' split
  · exact h
  · exact (h.of_takeSink ‹_›).cheterAnswer ..
  · exact (h.of_takeSink ‹_›).trailAnswer ..
  · exact (h.of_takeSink ‹_›).coreAnswer ..
  · exact (h.of_takeSink ‹_›).dmaAnswer ..
  · exact h.of_takeSink ‹_›

theorem Keeps.mailRelease (h : Keeps false a s) (chid src) : Keeps false a (s.mailRelease chid src) := by
  simp only [State.mailRelease]
  exact (h.modMsg ..).inject ..

theorem Keeps.mailbox (h : Keeps false a s) (p) : Keeps false a (s.mailbox p) := by
  simp only [State.mailbox]
  split
  · exact SendKeeps.sendEvent (fun _ _ h => h.transmit ..) _ _ _ _ _ (h.bump ..)
  · exact ((h.bump ..).bump ..).mailRelease ..

theorem Keeps.servePacket {tap link : Nat → Packet → State → State} {cheter : Packet → State → State} (h : Keeps false a s)
    (ht : ∀ n p s, Keeps false a s → Keeps false a (tap n p s)) (hl : ∀ n p s, Keeps false a s → Keeps false a (link n p s))
    (hc : ∀ p s, Keeps false a s → Keeps false a (cheter p s)) (ep k) : Keeps false a (s.servePacket ep k tap link cheter) := by
  simp only [State.servePacket]
  repeat' split
  · exact h
  · exact hc _ _ (h.of_takeSink ‹_›)
  · exact hl _ _ _ (h.of_takeSink ‹_›)
  · exact ht _ _ _ (h.of_takeSink ‹_›)
  · exact h.of_takeSink ‹_›

theorem Keeps.latchTime (h : Keeps false a s) (ep) : Keeps false a (s.latchTime ep) := by
  simp only [State.latchTime, State.mk_eq_withRest]
  exact h.withRest ..

theorem Keeps.regLoad (h : Keeps false a s) (ep x) : Keeps false a (s.regLoad ep x).2 := by
  simp only [State.regLoad]
  exact Keeps.ite (h.latchTime ..) h

theorem Keeps.writeFields (h : Keeps false a s) (x v all) : Keeps false a (s.writeFields x v all) := by
  simp only [State.writeFields]
  repeat' split
  · exact h
  · exact h.setReg ..
  · exact h.setReg ..

theorem Keeps.coreStore (h : Keeps false a s) (fw k o x v) : Keeps false a (s.coreStore fw k o x v) := by
  simp only [State.coreStore]
  repeat' split
  · exact h.xirqSet ..
  · exact h
  · exact h.resumeGo ..
  · exact h
  · exact h.foldl (fun _ _ h => Keeps.ite (h.bankEnable ..) (h.bankDisable ..)) _
  · exact ((h.setRf ..).dinv ..).iinv ..
  · exact ((h.setRf ..).dinv ..).iinv ..
  · exact (h.setRf ..).iinv ..
  · exact (h.setRf ..).iinv ..
  · exact (h.setRf ..).dinv ..
  · exact (h.setRf ..).dinv ..
  · exact h.setRf ..
  · exact h.setRf ..
  · exact h.vfpCtlWrite ..
  · exact h.modStrand ..
  · exact h.modStrand ..
  · exact h.modCore ..
  · exact h.modCore ..
  · exact h.setRf ..
  · exact h.writeFields ..

theorem Keeps.clusterStore (h : Keeps false a s) (fw u o x v) : Keeps false a (s.clusterStore fw u o x v) := by
  unfold State.clusterStore
  repeat' split
  · exact h
  · exact h.writeFields ..
  · exact h.mmuInvalidate ..
  · exact h.mmuInvalidate ..
  · exact h
  · exact h.fqAnswer ..
  · exact h.fqAnswer ..
  · exact h
  · exact h
  · exact (h.setReg ..).channelEnable ..
  · exact (h.setReg ..).channelDisable ..
  · exact h.dmaGo ..
  · exact h.setRf ..
  · exact h
  · exact h.synValWrite ..
  · exact h
  · exact h.queueTableWrite ..
  · exact h.writeFields ..
  · exact h.foldl (fun _ _ h => Keeps.ite (h.bankEnable ..) (h.bankDisable ..)) _
  · exact h.ucDecWrite ..
  · exact (h.writeFields ..).chkInit ..
  · exact h.writeFields ..
  · exact h.writeFields ..

theorem Keeps.deviceStore (h : Keeps false a s) (fw y o x v) : Keeps false a (s.deviceStore fw y o x v) := by
  simp only [State.deviceStore, State.mk_eq_withRest]
  repeat' split
  · exact h.synValWrite ..
  · exact h.shomeWrite ..
  · exact h.writeFields ..
  · exact h
  · exact h.writeFields ..
  · exact h.setRf ..
  · exact h.scrubGo ..
  · exact h.setScrub ..
  · exact h
  · exact h
  · exact (h.setRf ..).rekeyGo ..
  · exact h.rekeyGo ..
  · exact (((h.setRf ..).setRf ..).setRf ..).setRf ..
  · exact ((h.setRf ..).setRf ..).setRf ..
  · exact h.writeFields ..
  · exact h
  · exact h.writeFields ..
  · exact h.setRf ..
  · exact (h.setRf ..).scrubGo ..
  · exact h.scrubGo ..
  · exact (h.setRf ..).setScrub ..
  · exact h.setScrub ..
  · exact (h.setRf ..).moveGo ..
  · exact h.moveGo ..
  · exact (h.setRf ..).writeFields ..
  · exact h.writeFields ..
  · exact ((h.setRf ..).setRf ..).tagGo ..
  · exact ((h.setRf ..).setRf ..).tagGo ..
  · exact (h.setRf ..).tagGo ..
  · exact (h.setRf ..).tagGo ..
  · exact (h.setRf ..).writeFields ..
  · exact h.writeFields ..
  · exact h
  · exact h
  · exact (h.writeFields ..).retireSlot ..
  · exact h.writeFields ..
  · exact h
  · exact h.setRf ..
  · exact h.setRf ..
  · exact (h.setRf ..).trailEnable ..
  · exact (h.setRf ..).trailEnable ..
  · exact (h.setRf ..).trailDisable ..
  · exact (h.setRf ..).trailDisable ..
  · exact h.writeFields ..
  · exact h
  · exact (h.setReg ..).hostEnable
  · exact (h.setReg ..).hostDisable
  · exact h.writeFields ..
  · exact h.setReg ..
  · exact h.setReg ..
  · exact h.withRest ..
  · exact h.writeFields ..
  · exact h.writeFields ..
  · exact h.setRf ..
  · exact h.writeFields ..
  · exact h.writeFields ..
  · exact h

theorem Keeps.regStore (h : Keeps false a s) (g x v) : Keeps false a (s.regStore g x v) := by
  simp only [State.regStore]
  repeat' split
  · exact h
  · exact h
  · exact h.coreStore ..
  · exact h.clusterStore ..
  · exact h.deviceStore ..

theorem Keeps.coreRegLoad (h : Keeps false a s) (k x) : Keeps false a (s.coreRegLoad k x).2 := by
  simp only [State.coreRegLoad]
  repeat' split
  · dsimp only
    exact h.fresh
  · exact h.regLoad ..
  · dsimp only
    exact h.fresh
  · exact h.regLoad ..
  · dsimp only
    exact h.fresh
  · exact h.regLoad ..

theorem Keeps.releaseStores (h : Keeps false a s) (k) : Keeps false a (s.releaseStores k) := by
  simp only [State.releaseStores]
  exact h.foldl (fun _ _ h => (by split; exacts [h.modStrand .., h])) _

theorem Keeps.storeQueueSend (h : Keeps false a s) (k) : Keeps false a (s.storeQueueSend k) := by
  simp only [State.storeQueueSend]
  repeat' split
  · exact h
  · exact h
  · exact (((h.modCore ..).modCore ..).coreRequest ..).releaseStores ..
  · exact ((h.modCore ..).regStore ..).releaseStores ..
  · exact ((h.modCore ..).ctrAdd ..).releaseStores ..
  · exact ((h.modCore ..).inject ..).releaseStores ..

end Sys2Proof.Machine
end

section
/-! SUPPORT. What firmware's accesses to memory, the checks of commands and transfers keep (R383 to R400). -/

namespace Sys2Proof.Machine
variable {a s : State}

theorem Keeps.modPart (h : Keeps false a s) (p f) : Keeps false a (s.modPart p f) := by
  simp only [State.modPart, State.mk_eq_withRest]
  exact h.withRest ..

theorem Keeps.assign (h : Keeps false a s) (u p) : Keeps false a (s.assign u p) := by
  simp only [State.assign]
  exact h.setRf ..

theorem Keeps.setClu (h : Keeps false a s) (u x) : Keeps false a (s.setClu u x) := by
  simp only [State.setClu]
  exact h.setRf ..

theorem Keeps.allocRun (h : Keeps false a s) (m k owner) : Keeps false a (s.allocRun m k owner).2 := by
  simp only [State.allocRun, State.mk_eq_withRest]
  repeat' split
  · dsimp only
    exact h
  · dsimp only
    exact h.fresh.withRest ..
  · dsimp only
    exact h.fresh

theorem Keeps.allocFrom (h : Keeps false a s) (k owner l) : Keeps false a (s.allocFrom k owner l).2 := by
  induction l generalizing s with
  | nil => exact h
  | cons m l ih =>
    simp only [State.allocFrom]
    split
    · exact (h.allocRun ..).of_snd ‹_›
    · exact ih ((h.allocRun ..).of_snd ‹_›)

theorem Keeps.tagPage (h : Keeps false a s) (pg slot) : Keeps false a (s.tagPage pg slot) := by
  simp only [State.tagPage]
  repeat' split
  · exact h.writeTag ..
  · exact h
  · exact h

theorem Keeps.freePage (h : Keeps false a s) (pg) : Keeps false a (s.freePage pg) := by
  simp only [State.freePage, State.mk_eq_withRest]
  exact (h.foldl (fun _ _ h => h.tagPage ..) _).withRest ..

theorem Keeps.freePages (h : Keeps false a s) (l) : Keeps false a (s.freePages l) := by
  simp only [State.freePages]
  exact h.foldl (fun _ _ h => h.freePage ..) _

theorem Keeps.of_newTable_next {x : Nat} {t : State} (h : Keeps false a s) {p n} (e : State.newTable.next s p n = some (x, t)) :
    Keeps false a t := by
  simp only [State.newTable.next] at e
  split at e
  · cases e
  · obtain ⟨-, rfl⟩ := Prod.mk.inj (Option.some.inj e)
    exact (((h.allocFrom ..).of_snd ‹_›).zeroPage ..).modPart ..

theorem Keeps.of_newTable {x : Nat} {t : State} (h : Keeps false a s) {p level} (e : s.newTable p level = some (x, t)) : Keeps false a t
    := by
  simp only [State.newTable] at e
  split at e
  · cases e
  · split at e
    · split at e
      · obtain ⟨-, rfl⟩ := Prod.mk.inj (Option.some.inj e)
        exact h.modPart ..
      · exact h.of_newTable_next e
    · exact h.of_newTable_next e

theorem Keeps.of_entryAt {x : Nat} {t : State} (h : Keeps false a s) {p va target f level table}
    (e : State.entryAt p va target f level table s = some (x, t)) : Keeps false a t := by
  induction f generalizing s level table with
  | zero => cases e
  | succ f ih =>
    simp only [State.entryAt] at e
    split at e
    · obtain ⟨-, rfl⟩ := Prod.mk.inj (Option.some.inj e)
      exact h
    · split at e
      · cases e
      · split at e
        · exact ih h e
        · split at e
          · cases e
          · exact ih ((h.of_newTable ‹_›).setNum ..) e

theorem Keeps.invalidateNow (h : Keeps false a s) (u x) : Keeps false a (s.invalidateNow u x) := by
  simp only [State.invalidateNow]
  exact ((h.modCluster ..).mmuInvalidate ..).modCluster ..

theorem Keeps.invalidatePart (h : Keeps false a s) (p x) : Keeps false a (s.invalidatePart p x) := by
  simp only [State.invalidatePart]
  exact h.foldl (fun _ _ h => h.invalidateNow ..) _

theorem Keeps.startScrub (h : Keeps false a s) (pgs free) : Keeps false a (s.startScrub pgs free).2 := by
  simp only [State.startScrub, State.mk_eq_withRest]
  refine Keeps.foldl_snd h fun _ _ h => ?_
  split
  · exact (h.addScrub ..).withRest ..
  · exact h.addScrub ..

theorem Keeps.renamePage (h : Keeps false a s) (old new) : Keeps false a (s.renamePage old new) := by
  simp only [State.renamePage, State.mk_eq_withRest]
  exact h.withRest ..

theorem Keeps.of_bringBack {t : State} (h : Keeps false a s) {p l at_ e want} (i : s.bringBack p l at_ e want = some t) :
    Keeps false a t := by
  have taken (g : Option Nat × State) (hg : Keeps false a g.2) (i : (match g.1 with
      | none => none
      | some pg => some ((((((g.2.copyPage (l.pa / pageBytes) pg).renamePage (l.pa / pageBytes) pg).setNum at_ 8
          (setFld (setFld (setBit (setBit e 0 true) 9 false) 17 12 0) 55 20 pg).toNat).freePage (l.pa / pageBytes))).modPart p fun x =>
          { x with leaves := x.leaves.map fun y => if y = l then { y with pa := pg * pageBytes, out := false } else y })) = some t) :
      Keeps false a t := by
    split at i
    · cases i
    · rw [← Option.some.inj i]
      exact ((((hg.copyPage ..).renamePage ..).setNum ..).freePage ..).modPart ..
  simp only [State.bringBack, State.mk_eq_withRest] at i
  cases want with
  | none => exact taken _ (h.allocFrom ..) i
  | some g => exact taken (_, _) (h.withRest ..) i

theorem Keeps.partXlate (h : Keeps false a s) (p va write) : Keeps false a (s.partXlate p va write).2 := by
  simp only [State.partXlate]
  repeat' split
  · dsimp only
    exact h.of_bringBack ‹_›
  · dsimp only
    exact h.of_bringBack ‹_›
  · dsimp only
    exact h.of_bringBack ‹_›
  · dsimp only
    exact h.of_bringBack ‹_›
  · dsimp only
    exact h.of_bringBack ‹_›
  · dsimp only
    exact h
  · dsimp only
    exact h
  · dsimp only
    exact h
  · dsimp only
    exact h
  · dsimp only
    exact h
  · dsimp only
    exact h
  · dsimp only
    exact h
  · dsimp only
    exact h
  · dsimp only
    exact h
  · dsimp only
    exact h
  · dsimp only
    exact h

theorem Keeps.place_ (h : Keeps false a s) (w x write) : Keeps false a (s.place_ w x write).2 := by
  simp only [State.place_]
  split
  · dsimp only
    exact h
  · exact h.partXlate ..

theorem Keeps.detailOf (h : Keeps false a s) (code) : Keeps false a (s.detailOf code).2 := by
  simp only [State.detailOf]
  repeat' split
  · dsimp only
    exact h
  · dsimp only
    exact h
  · dsimp only
    exact h.fresh

theorem Keeps.askRemote (h : Keeps false a s) (kind pa n y) : Keeps false a (s.askRemote kind pa n y).2 := by
  simp only [State.askRemote]
  exact h.newTag.inject ..

theorem Keeps.writePiece (h : Keeps false a s) (w x off y m) : Keeps false a (s.writePiece w x off y m).2 := by
  simp only [State.writePiece]
  repeat' split
  · dsimp only
    exact (h.place_ ..).of_snd ‹_›
  · dsimp only
    exact ((h.place_ ..).of_snd ‹_›).askRemote ..
  · dsimp only
    exact (h.place_ ..).of_snd ‹_›
  · dsimp only
    exact ((((h.place_ ..).of_snd ‹_›).of_asidesFor ‹_›).physWrite ..).of_snd ‹_›
  · dsimp only
    exact (((((h.place_ ..).of_snd ‹_›).of_asidesFor ‹_›).physWrite ..).of_snd ‹_›).detailOf ..
  · dsimp only
    exact ((h.place_ ..).of_snd ‹_›).askRemote ..
  · dsimp only
    exact (h.place_ ..).of_snd ‹_›
  · dsimp only
    exact ((((h.place_ ..).of_snd ‹_›).of_asidesFor ‹_›).physWrite ..).of_snd ‹_›
  · dsimp only
    exact (((((h.place_ ..).of_snd ‹_›).of_asidesFor ‹_›).physWrite ..).of_snd ‹_›).detailOf ..

theorem Keeps.readPiece (h : Keeps false a s) (w x off n m) : Keeps false a (s.readPiece w x off n m).2 := by
  simp only [State.readPiece]
  repeat' split
  · dsimp only
    exact (h.place_ ..).of_snd ‹_›
  · dsimp only
    exact ((h.place_ ..).of_snd ‹_›).askRemote ..
  · dsimp only
    exact (((h.place_ ..).of_snd ‹_›).physRead ..).of_snd ‹_›
  · dsimp only
    exact ((((h.place_ ..).of_snd ‹_›).physRead ..).of_snd ‹_›).detailOf ..
  · dsimp only
    exact ((h.place_ ..).of_snd ‹_›).askRemote ..
  · dsimp only
    exact (((h.place_ ..).of_snd ‹_›).physRead ..).of_snd ‹_›
  · dsimp only
    exact ((((h.place_ ..).of_snd ‹_›).physRead ..).of_snd ‹_›).detailOf ..

theorem Keeps.writeRange (h : Keeps false a s) (w f x off l m) : Keeps false a (writeRange w f x off l m s).2 := by
  induction f generalizing s x off l m with
  | zero => exact h
  | succ f ih =>
    simp only [Machine.writeRange]
    split
    · exact h
    · exact ih (h.writePiece ..) ..

theorem Keeps.readRange (h : Keeps false a s) (w f x off len m) : Keeps false a (readRange w f x off len m s).2 := by
  induction f generalizing s x off m with
  | zero => exact h
  | succ f ih =>
    simp only [Machine.readRange]
    split
    · exact h
    · exact ih (h.readPiece ..) ..

theorem Keeps.fwWrite (h : Keeps false a s) (w x l) : Keeps false a (s.fwWrite w x l).2 := by
  simp only [State.fwWrite]
  exact h.writeRange ..

theorem Keeps.fwRead (h : Keeps false a s) (w x len) : Keeps false a (s.fwRead w x len).2 := by
  simp only [State.fwRead]
  exact h.readRange ..

theorem Keeps.setArrived (h : Keeps false a s) (n l) : Keeps false a (s.setArrived n l) := by
  simp only [State.setArrived]
  exact Keeps.ite (h.modHost ..) (h.modSession ..)

theorem Keeps.settleFrom (h : Keeps false a s) (n w f) : Keeps false a (settleFrom n w f s) := by
  induction f generalizing s with
  | zero => exact h
  | succ f ih =>
    simp only [Machine.settleFrom]
    repeat' split
    · exact h
    · exact h
    · exact h
    · exact h
    · exact ih ((h.setArrived ..).reply ..)

theorem Keeps.settleHeads (h : Keeps false a s) (n) : Keeps false a (s.settleHeads n) := by
  simp only [State.settleHeads]
  repeat' split
  · exact h
  · exact h
  · exact h.settleFrom ..

theorem Keeps.answer (h : Keeps false a s) (n status detail data) : Keeps false a (s.answer n status detail data) := by
  simp only [State.answer]
  exact h.reply ..

theorem Keeps.ok (h : Keeps false a s) (n us data) : Keeps false a (s.ok n us data) := by
  simp only [State.ok]
  exact h.answer ..

theorem Keeps.accept (h : Keeps false a s) (n) : Keeps false a (s.accept n) := by
  simp only [State.accept]
  exact Keeps.ite h (h.answer ..)

theorem Keeps.acceptHold (h : Keeps false a s) (n w) : Keeps false a (s.acceptHold n w) := by
  simp only [State.acceptHold]
  exact (h.accept ..).hold ..

theorem Keeps.finishTransfer (h : Keeps false a s) (n read len m) : Keeps false a (s.finishTransfer n read len m) := by
  simp only [State.finishTransfer]
  exact Keeps.ite ((h.sendData ..).answer ..) (h.hold ..)

theorem Keeps.takeUp (h : Keeps false a s) (hd op) : Keeps false a (s.takeUp hd op) := by
  simp only [State.takeUp]
  exact h.setArrived ..

theorem Keeps.armAlarm (h : Keeps false a s) (n act ctr amt at_) : Keeps false a (s.armAlarm n act ctr amt at_) := by
  simp only [State.armAlarm]
  exact ((((h.setRf ..).setRf ..).setRf ..).setReg ..).setRf ..

theorem Keeps.schedule (h : Keeps false a s) (i c n e) : Keeps false a (s.schedule i c n e) := by
  simp only [State.schedule]
  exact ((h.foldl (fun _ _ h => h.armAlarm ..) _).modHost ..).answer ..

/-- What a command does when it starts keeps what is kept. -/
def CmdKeeps (a : State) (c : Cmd) : Prop := ∀ t s, Keeps false a s → Keeps false a (c.run t s)

theorem Keeps.startChecked_getD {s0 : State} {c : Cmd} (h0 : Keeps false a s0) (h : Keeps false a s) (hc : CmdKeeps a c) (t) :
    Keeps false a ((s.startChecked t c).getD s0) := by
  simp only [State.startChecked]
  split
  · exact h.answer ..
  · split
    · exact hc _ _ h
    · exact h0

theorem Keeps.takeCommand {c : Cmd} (h : Keeps false a s) (hc : CmdKeeps a c) (hd i) : Keeps false a (s.takeCommand hd i c) := by
  simp only [State.takeCommand]
  split
  · exact h
  · split
    · exact h.reply ..
    · split
      · exact h
      · have taken := h.takeUp hd c.row.op
        split
        · exact h.startChecked_getD taken hc _
        · split
          · exact h
          · split
            · exact taken.answer ..
            · split
              · exact taken.fresh.answer ..
              · split
                · split
                  · exact taken.answer ..
                  · exact taken.schedule ..
                · exact h.startChecked_getD taken hc _

theorem Keeps.perform {c : Cmd} (h : Keeps false a s) (hc : CmdKeeps a c) (hd i) : Keeps false a (s.perform hd i c) := by
  simp only [State.perform]
  exact (h.takeCommand hc ..).settleHeads ..

theorem Keeps.disarm (h : Keeps false a s) (x) : Keeps false a (s.disarm x) := by
  simp only [State.disarm]
  exact h.foldl (fun _ _ h => h.setRf ..) _

theorem Keeps.cancelSched (h : Keeps false a s) (x) : Keeps false a (s.cancelSched x) := by
  simp only [State.cancelSched]
  exact ((h.disarm ..).modHost ..).reply ..

theorem Keeps.flush (h : Keeps false a s) (n) : Keeps false a (s.flush n) := by
  simp only [State.flush]
  split
  · exact h
  · exact (h.foldl (fun _ _ h => h.transmit ..) _).modSession ..

theorem Keeps.withdrawWait (h : Keeps false a s) (w) : Keeps false a (s.withdrawWait w) := by
  simp only [State.withdrawWait, State.mk_eq_withRest]
  exact ((h.withRest ..).modHost ..).serveWaiters ..

theorem Keeps.closeSession {own : State → State} (h : Keeps false a s) (ho : ∀ s, Keeps false a s → Keeps false a (own s)) (n) :
    Keeps false a (s.closeSession n own) := by
  simp only [State.closeSession]
  have left := (h.foldl (fun _ x h => h.cancelSched x) (s.host.scheduled.filter (·.session == n))).foldl (fun _ w h => h.withdrawWait w)
  exact (((ho _ (left _)).flush ..).modHost ..).foldl (fun _ _ h => h.mailRelease ..) _

theorem CmdKeeps.cmdMemWrite (addr len d) : CmdKeeps a (cmdMemWrite addr len d) := by
  intro t s h
  simp only [Machine.cmdMemWrite]
  exact Keeps.ite (h.answer ..) ((h.fwWrite ..).finishTransfer ..)

theorem CmdKeeps.cmdMemRead (addr len) : CmdKeeps a (cmdMemRead addr len) := by
  intro t s h
  simp only [Machine.cmdMemRead]
  exact (h.fwRead ..).finishTransfer ..

theorem CmdKeeps.cmdMemFill (addr len pattern) : CmdKeeps a (cmdMemFill addr len pattern) := by
  intro t s h
  simp only [Machine.cmdMemFill]
  exact (h.fwWrite ..).finishTransfer ..

theorem Keeps.scrubTargets (h : Keeps false a s) (w f x) : Keeps false a (scrubTargets w f x s).2 := by
  induction f generalizing s x with
  | zero => exact h
  | succ f ih =>
    simp only [Machine.scrubTargets]
    have placed := h.place_ w x true
    split
    · exact placed.of_snd ‹_›
    · have rest := ih (placed.of_snd ‹_›) (x + pageBytes)
      split
      · exact rest.of_snd ‹_›
      · exact rest.of_snd ‹_›

theorem CmdKeeps.cmdScrub (addr pages) : CmdKeeps a (cmdScrub addr pages) := by
  intro t s h
  simp only [Machine.cmdScrub]
  repeat' split
  · exact ((h.scrubTargets ..).of_snd ‹_›).answer ..
  · exact ((h.scrubTargets ..).of_snd ‹_›).answer ..
  · exact ((h.scrubTargets ..).of_snd ‹_›).answer ..
  · exact ((((h.scrubTargets ..).of_snd ‹_›).accept ..).startScrub ..).answer ..
  · exact ((((h.scrubTargets ..).of_snd ‹_›).accept ..).startScrub ..).hold ..

end Sys2Proof.Machine
end

section
/-! SUPPORT. What partitions, their pages, tiering and page retirement keep (R20 to R25, R305, R313, R318, R324 to R326). -/

namespace Sys2Proof.Machine
variable {a s : State}

theorem Keeps.stopStrand (h : Keeps false a s) (k i) : Keeps false a (s.stopStrand k i) := by
  simp only [State.stopStrand]
  exact (h.giveUp ..).modStrand ..

theorem Keeps.stopCore (h : Keeps false a s) (k) : Keeps false a (s.stopCore k) := by
  simp only [State.stopCore, State.mk_eq_withRest]
  exact (h.foldl (fun _ _ h => h.stopStrand ..) _).withRest ..

theorem Keeps.disableChannels (h : Keeps false a s) (u) : Keeps false a (s.disableChannels u) := by
  simp only [State.disableChannels]
  exact h.foldl (fun _ _ h => h.channelDisable ..) _

theorem Keeps.stopCluster (h : Keeps false a s) (u) : Keeps false a (s.stopCluster u) := by
  simp only [State.stopCluster]
  exact (h.foldl (fun _ _ h => h.stopCore ..) _).disableChannels ..

/-- What each step of a fold that may fail keeps, the fold keeps. -/
theorem of_foldl_bind {α β : Type} {P : β → Prop} {f : α → β → Option β} (hf : ∀ {x y z}, P y → f x y = some z → P z)
    {l : List α} {y z : β} (hy : P y) (e : l.foldl (fun r x => r.bind (f x)) (some y) = some z) : P z := by
  induction l generalizing y with
  | nil => exact Option.some.inj e ▸ hy
  | cons x l ih =>
    cases i : f x y with
    | some w => exact ih (hf hy i) (by simpa only [List.foldl_cons, Option.bind_some, i] using e)
    | none =>
      have none_stays (l : List α) : l.foldl (fun r x => r.bind (f x)) none = none := by induction l <;> simp_all
      rw [List.foldl_cons, Option.bind_some, i, none_stays] at e
      cases e

theorem Keeps.of_takeReserve {x : List Nat} {t : State} (h : Keeps false a s) {p u} (e : s.takeReserve p u = some (x, t)) :
    Keeps false a t := by
  refine of_foldl_bind (P := fun y : List Nat × State => Keeps false a y.2) (fun {n y z} hy i => ?_) h e
  dsimp only at i
  split at i
  · obtain ⟨-, rfl⟩ := Prod.mk.inj (Option.some.inj i)
    exact (hy.allocRun ..).of_snd ‹_›
  · cases i

theorem Keeps.joinCluster (h : Keeps false a s) (p root u) : Keeps false a (s.joinCluster p root u) := by
  simp only [State.joinCluster]
  exact ((((h.assign ..).setRf ..).setRf ..).setClu ..).setRf ..

theorem Keeps.startWaypoints (h : Keeps false a s) (p interval) : Keeps false a (s.startWaypoints p interval) := by
  simp only [State.startWaypoints]
  exact ((((((h.setRf ..).setRf ..).setRf ..).setRf ..).setRf ..).setReg ..).setReg ..

theorem Keeps.clearSlot (h : Keeps false a s) (p) : Keeps false a (s.clearSlot p) := by
  simp only [State.clearSlot, State.mk_eq_withRest]
  exact h.withRest ..

theorem Keeps.of_createPart {t : State} (h : Keeps false a s) {p us interval} (e : s.createPart p us interval = some t) :
    Keeps false a t := by
  simp only [State.createPart, State.mk_eq_withRest] at e
  split at e
  · cases e
  · next table =>
    obtain ⟨⟨l, s1⟩, reserves, rfl⟩ := Option.map_eq_some_iff.1 e
    have taken : Keeps false a s1 := by
      refine of_foldl_bind (P := fun y : List Nat × State => Keeps false a y.2) (fun {u y z} hy i => ?_)
        ((h.withRest ..).of_newTable table) reserves
      obtain ⟨⟨m, s2⟩, reserve, rfl⟩ := Option.map_eq_some_iff.1 i
      exact hy.of_takeReserve reserve
    exact ((((taken.modPart ..).foldl (fun _ _ h => h.joinCluster ..) _).startWaypoints ..).clearSlot ..).withRest ..

theorem CmdKeeps.cmdPartCreate (part clusters interval) : CmdKeeps a (cmdPartCreate part clusters interval) := by
  intro t s h
  simp only [Machine.cmdPartCreate]
  split
  · exact h.answer ..
  · exact ((h.of_createPart ‹_›).measure ..).ok ..

theorem Keeps.beginDestroy (h : Keeps false a s) (p) : Keeps false a (s.beginDestroy p) := by
  simp only [State.beginDestroy]
  split
  · exact h
  · exact (((h.foldl (fun _ _ h => (h.stopCluster ..).setClu ..) _).foldl (fun _ _ h => h.closeSession (fun _ h => h) ..)
      _).startScrub ..).modPart ..

theorem Keeps.closeAperture (h : Keeps false a s) (x) : Keeps false a (s.closeAperture x) := by
  simp only [State.closeAperture, State.mk_eq_withRest]
  exact (h.setRf ..).withRest ..

theorem Keeps.finishDestroy (h : Keeps false a s) (p) : Keeps false a (s.finishDestroy p) := by
  simp only [State.finishDestroy, State.mk_eq_withRest]
  split
  · exact h
  · exact (((((h.foldl (fun _ _ h => h.closeAperture ..) _).freePages ..).foldl
      (fun _ _ h => Keeps.ite h ((((h.invalidateNow ..).setRf ..).setRf ..).assign ..)) _).setRf ..).clearSlot ..).withRest ..

theorem Keeps.settleDestroy (h : Keeps false a s) : Keeps false a s.settleDestroy := by
  simp only [State.settleDestroy]
  exact h.foldl (fun _ _ h => ((h.finishDestroy ..).foldl (fun _ _ h => h.endPending ..) _).foldl
    (fun _ _ h => (h.measure ..).endPending ..) _) _

theorem CmdKeeps.cmdPartDestroy (part) : CmdKeeps a (cmdPartDestroy part) := by
  intro t s h
  simp only [Machine.cmdPartDestroy]
  exact ((h.acceptHold ..).beginDestroy ..).settleDestroy

theorem Keeps.of_scrubEnd {x : Nat} {t : State} (h : Keeps false a s) {m} (e : s.scrubEnd m = some (x, t)) : Keeps false a t := by
  simp only [State.scrubEnd, State.mk_eq_withRest] at e
  split at e
  · cases e
  · obtain ⟨s1, i, e⟩ := Option.map_eq_some_iff.1 e
    obtain ⟨-, rfl⟩ := Prod.mk.inj e
    split
    · exact (((((h.of_asidesOfPages ‹_›).foldl (fun _ _ h => h.zeroPage ..) _).withRest ..).setScrubDone ..).setScrub ..).setScrubDone ..
    · exact ((((h.of_asidesOfPages ‹_›).foldl (fun _ _ h => h.zeroPage ..) _).withRest ..).setScrubDone ..).setScrub ..

theorem Keeps.scrubComplete (h : Keeps false a s) (m) : Keeps false a (s.scrubComplete m) := by
  simp only [State.scrubComplete, State.mk_eq_withRest]
  split
  · exact h
  · exact (((((h.of_scrubEnd ‹_›).freePages ..).withRest ..).modHost ..).foldl (fun _ _ h => h.endPending ..) _).settleDestroy

theorem Keeps.of_putLeaf {t : State} (h : Keeps false a s) {p l entry} (e : s.putLeaf p l entry = some t) : Keeps false a t := by
  simp only [State.putLeaf] at e
  split at e
  · cases e
  · obtain ⟨⟨x, s1⟩, i, rfl⟩ := Option.map_eq_some_iff.1 e
    exact ((h.of_entryAt i).setNum ..).modPart ..

theorem Keeps.of_mapRegion {t : State} (h : Keeps false a s) {p us o level f j} (e : State.mapRegion p us o level f j s = some t) :
    Keeps false a t := by
  induction f generalizing s j with
  | zero => exact Option.some.inj e ▸ h
  | succ f ih =>
    simp only [State.mapRegion] at e
    split at e
    · cases e
    · next run =>
      split at e
      · cases e
      · next leaf =>
        refine ih (Keeps.of_putLeaf ?_ leaf) e
        exact Keeps.ite (((h.allocFrom ..).of_snd ‹_›).foldl (fun _ _ h => (h.tagPage ..).zeroPage ..) _) ((h.allocFrom ..).of_snd ‹_›)

theorem Keeps.of_mapAperture {t : State} (h : Keeps false a s) {p us o x level} (e : s.mapAperture p us o x level = some t) :
    Keeps false a t := by
  simp only [State.mapAperture] at e
  split at e
  · cases e
  · next run =>
    refine of_foldl_bind (fun {_ y z} (hy : Keeps false a y) i => hy.of_putLeaf i) ?_ e
    exact ((((((((((((((h.allocFrom ..).of_snd
      ‹_›).setRf ..).setRf ..).setRf ..).setRf ..).setRf ..).setRf ..).setRf ..).setRf ..).setRf ..).setRf ..).setRf ..).setRf ..).setRf ..

theorem CmdKeeps.cmdMapPages (o) : CmdKeeps a (cmdMapPages o) := by
  intro t s h
  simp only [Machine.cmdMapPages]
  split
  · next mapped =>
    refine Keeps.ok ?_ ..
    split at mapped
    · exact h.of_mapAperture mapped
    · exact h.of_mapRegion mapped
  · exact h.answer ..

theorem Keeps.dropLeaf (h : Keeps false a s) (p l) : Keeps false a (s.dropLeaf p l) := by
  simp only [State.dropLeaf]
  repeat' split
  · exact (h.setNum ..).modPart ..
  · exact ((h.setNum ..).modPart ..).closeAperture ..
  · exact h.modPart ..
  · exact (h.modPart ..).closeAperture ..
  · exact h.modPart ..
  · exact (h.modPart ..).closeAperture ..
  · exact (h.setNum ..).modPart ..
  · exact h.modPart ..
  · exact h.modPart ..

theorem CmdKeeps.cmdUnmapPages (part scrub va count) : CmdKeeps a (cmdUnmapPages part scrub va count) := by
  intro t s h
  simp only [Machine.cmdUnmapPages]
  exact Keeps.ite ((((h.foldl (fun _ _ h => h.dropLeaf ..) _).invalidatePart ..).freePages ..).ok ..)
    (Keeps.ite (((((h.foldl (fun _ _ h => h.dropLeaf ..) _).invalidatePart ..).accept ..).startScrub ..).ok ..)
      (((((h.foldl (fun _ _ h => h.dropLeaf ..) _).invalidatePart ..).accept ..).startScrub ..).hold ..))

theorem Keeps.of_splitLeaf {t : State} (h : Keeps false a s) {p l} (e : s.splitLeaf p l = some t) : Keeps false a t := by
  simp only [State.splitLeaf] at e
  split at e
  · obtain ⟨⟨x, s1⟩, i, rfl⟩ := Option.map_eq_some_iff.1 e
    exact (((h.of_newTable i).foldl (fun _ _ h => h.setNum ..) _).setNum ..).modPart ..
  · cases e

theorem Keeps.of_smallLeaf {l : Leaf} {t : State} (h : Keeps false a s) {p va} (e : s.smallLeaf p va = some (l, t)) : Keeps false a t :=
    by
  simp only [State.smallLeaf] at e
  split at e
  · cases e
  · split at e
    · obtain ⟨-, rfl⟩ := Prod.mk.inj (Option.some.inj e)
      exact h
    · split at e
      · obtain ⟨s1, i, e⟩ := Option.bind_eq_some_iff.1 e
        obtain ⟨y, -, e⟩ := Option.map_eq_some_iff.1 e
        obtain ⟨-, rfl⟩ := Prod.mk.inj e
        exact h.of_splitLeaf i
      · cases e

theorem Keeps.moveOut (h : Keeps false a s) (p va ddr dpage key) : Keeps false a (s.moveOut p va ddr dpage key) := by
  simp only [State.moveOut, State.mk_eq_withRest]
  repeat' split
  · exact h
  · exact h
  · exact h
  · exact ((((((((h.of_smallLeaf
      ‹_›).setNum ..).invalidatePart ..).withRest ..).tagPage ..).copyPage ..).renamePage ..).freePage ..).modPart ..
  · exact h

theorem Keeps.pageBack (h : Keeps false a s) (u hpage) : Keeps false a (s.pageBack u hpage) := by
  simp only [State.pageBack]
  repeat' split
  · exact h
  · exact (h.of_bringBack ‹_›).fqAnswer ..
  · exact h
  · exact h
  · exact h

theorem Keeps.replacePage (h : Keeps false a s) (p l pg) : Keeps false a (s.replacePage p l pg) := by
  simp only [State.replacePage]
  repeat' split
  · exact h
  · exact (((((((((h.of_smallLeaf ‹_›).allocRun ..).of_snd
      ‹_›).tagPage ..).copyPage ..).renamePage ..).setNum ..).invalidatePart ..).modPart ..).freePage ..
  · exact h.of_smallLeaf ‹_›

theorem Keeps.retirePage (h : Keeps false a s) (pg) : Keeps false a (s.retirePage pg) := by
  simp only [State.retirePage, State.mk_eq_withRest]
  repeat' split
  · exact h
  · exact ((h.withRest ..).measure ..).replacePage ..
  · exact (h.withRest ..).measure ..

end Sys2Proof.Machine
end

section
/-! SUPPORT. What programs, counters and waypoints keep (R400 to R416, R418 to R432). -/

namespace Sys2Proof.Machine
variable {a s : State}

theorem Keeps.measurePart (h : Keeps false a s) (n p params data) : Keeps false a (s.measurePart n p params data) := by
  simp only [State.measurePart]
  exact h.measure ..

theorem CmdKeeps.cmdLoadProgram (prog priv entry code len) : CmdKeeps a (cmdLoadProgram prog priv entry code len) := by
  intro t s h
  simp only [Machine.cmdLoadProgram, State.mk_eq_withRest]
  split
  · exact h.answer ..
  · exact ((((h.foldl (fun _ _ h => h.foldl (fun _ _ h => h.iinv ..) _) _).modPart ..).withRest ..).measurePart ..).ok ..

theorem Keeps.bindMail (h : Keeps false a s) (chid n) : Keeps false a (s.bindMail chid n) := by
  simp only [State.bindMail]
  repeat' split
  · exact h
  · exact h.modHost ..
  · exact h.modHost ..

theorem Keeps.applyRoute (h : Keeps false a s) (n r) : Keeps false a (State.applyRoute n s r) := by
  simp only [State.applyRoute]
  exact Keeps.ite (h.bindMail ..) (Keeps.ite ((h.modPart ..).setRf ..) (h.regStore ..))

theorem CmdKeeps.cmdLoadRoutes (image entries) : CmdKeeps a (cmdLoadRoutes image entries) := by
  intro t s h
  simp only [Machine.cmdLoadRoutes]
  repeat' split
  · exact h.answer ..
  · exact h.answer ..
  · exact ((h.foldl (fun _ _ h => h.applyRoute ..) _).foldl (fun _ _ h => h.measurePart ..) _).ok ..

theorem Keeps.loadMicro (h : Keeps false a s) (u entry umode start ops) : Keeps false a (s.loadMicro u entry umode start ops) := by
  simp only [State.loadMicro]
  exact (h.foldl (fun _ _ h => (h.setReg ..).setReg ..) _).ucDecWrite ..

theorem CmdKeeps.cmdLoadMicrocode (clusters entry umode start nops ops) :
    CmdKeeps a (cmdLoadMicrocode clusters entry umode start nops ops) := by
  intro t s h
  simp only [Machine.cmdLoadMicrocode]
  exact ((h.foldl (fun _ _ h => h.loadMicro ..) _).measurePart ..).ok ..

theorem CmdKeeps.cmdLaunchStart (prog strands clusters args) : CmdKeeps a (cmdLaunchStart prog strands clusters args) := by
  intro t s h
  simp only [Machine.cmdLaunchStart]
  split
  · exact h.answer ..
  · exact (h.foldl (fun _ _ h => h.modStrand ..) _).ok ..

theorem Keeps.fwAdd (h : Keeps false a s) (n d) : Keeps false a (s.fwAdd n d) := by
  simp only [State.fwAdd]
  split
  · exact h.ctrAdd ..
  · exact h

theorem Keeps.fwSet (h : Keeps false a s) (n x) : Keeps false a (s.fwSet n x) := by
  simp only [State.fwSet]
  split
  · exact h.ctrAssign ..
  · exact h

theorem CmdKeeps.cmdLaunchWake (nctr ctrs) : CmdKeeps a (cmdLaunchWake nctr ctrs) := by
  intro t s h
  simp only [Machine.cmdLaunchWake]
  exact (h.foldl (fun _ _ h => h.fwAdd ..) _).ok ..

theorem CmdKeeps.cmdSignalAdd (n x) : CmdKeeps a (cmdSignalAdd n x) := by
  intro t s h
  simp only [Machine.cmdSignalAdd]
  exact (h.fwAdd ..).ok ..

theorem CmdKeeps.cmdSignalSet (n x) : CmdKeeps a (cmdSignalSet n x) := by
  intro t s h
  simp only [Machine.cmdSignalSet]
  exact (h.fwSet ..).ok ..

theorem Keeps.waitCounter (h : Keeps false a s) (n c take x timeout) : Keeps false a (s.waitCounter n c take x timeout) := by
  simp only [State.waitCounter, State.mk_eq_withRest]
  exact Keeps.ite ((h.newTag.ctrWait ..).answer ..) (Keeps.ite (((h.newTag.ctrWait ..).withRest ..).answer ..)
    (((h.newTag.ctrWait ..).modHost ..).modSession ..))

theorem CmdKeeps.cmdWaitCounter (take n x timeout) : CmdKeeps a (cmdWaitCounter take n x timeout) := by
  intro t s h
  simp only [Machine.cmdWaitCounter]
  split
  · exact h
  · exact h.waitCounter ..

theorem Keeps.waitTimeout (h : Keeps false a s) (k) : Keeps false a (s.waitTimeout k) := by
  simp only [State.waitTimeout]
  repeat' split
  · exact h
  · exact h
  · exact ((h.withdrawWait ..).reply ..).endCommand ..

/-- Registers and memory written over a part of the maps that stays, with the rest of the state that no map holds. -/
theorem Keeps.loadMaps (h : Keeps false a s) (rs : List (Nat × W64)) (ms : List Host.Cell) (p : Nat × W64 → Bool) (q : Host.Cell → Bool)
    (waiters : List Waiter) (stops : List BankId) :
    Keeps false a { s with
      regs := rs.foldl (fun m e => Sparse.set regReset m e.1 e.2) (s.regs.filter p)
      mem := ms.foldl (fun m c => Sparse.set memDefault m c.1 c.2) (s.mem.filter q)
      waiters := waiters, stops := stops } := by
  refine ⟨h.kept.trans ⟨rfl, fun w => ?_⟩, nofun⟩
  obtain ⟨mem, regs, rest⟩ := State.wf_iff.1 w
  exact State.wf_iff.2 ⟨Sparse.wf_foldl_set (Sparse.wf_filter mem q) .., Sparse.wf_foldl_set (Sparse.wf_filter regs p) .., rest⟩

theorem Keeps.loadRecord (h : Keeps false a s) (p r) : Keeps false a (s.loadRecord p r) := by
  simp only [State.loadRecord]
  exact (((h.loadMaps ..).foldl (fun _ _ h => h.modCore ..) _).foldl (fun _ _ h => h.modMsg ..) _).modCluster ..

theorem Keeps.startStop (h : Keeps false a s) (p why) : Keeps false a (s.startStop p why) := by
  simp only [State.startStop, State.mk_eq_withRest]
  exact (h.modPart ..).withRest ..

theorem Keeps.resumePart (h : Keeps false a s) (p) : Keeps false a (s.resumePart p) := by
  simp only [State.resumePart, State.mk_eq_withRest]
  exact ((h.modPart ..).withRest ..).foldl (fun _ _ h => Keeps.ite (h.modCore ..) h) _

theorem Keeps.dueCapture (h : Keeps false a s) (p) : Keeps false a (s.dueCapture p) := by
  simp only [State.dueCapture]
  repeat' split
  · exact h
  · exact h
  · exact (h.modPart ..).setRf ..
  · exact ((h.modPart ..).setRf ..).startStop ..

theorem Keeps.abandonCapture (h : Keeps false a s) (p) : Keeps false a (s.abandonCapture p) := by
  simp only [State.abandonCapture]
  repeat' split
  · exact h
  · exact (h.resumePart ..).bump ..
  · exact h

theorem Keeps.cleanLeaf (h : Keeps false a s) (p l) : Keeps false a (s.cleanLeaf p l) := by
  simp only [State.cleanLeaf]
  split
  · exact (h.setNum ..).invalidatePart ..
  · exact h

theorem Keeps.dropAsides (h : Keeps false a s) (p) : Keeps false a (s.dropAsides p) := by
  simp only [State.dropAsides, State.mk_eq_withRest]
  exact (h.foldl (fun _ _ h => h.freePage ..) _).withRest ..

theorem Keeps.guardPages (h : Keeps false a s) (p) : Keeps false a (s.guardPages p) := by
  simp only [State.guardPages, State.mk_eq_withRest]
  split
  · exact h
  · exact h.withRest ..

theorem Keeps.settleTakes (h : Keeps false a s) (p w) : Keeps false a (s.settleTakes p w) := by
  simp only [State.settleTakes]
  exact h.foldl (fun _ _ h => h.endPending ..) _

theorem Keeps.capture (h : Keeps false a s) (x pauseUs) : Keeps false a (s.capture x pauseUs) := by
  simp only [State.capture]
  exact Keeps.ite
    ((((((((((h.foldl (fun _ _ h => h.foldl (fun _ _ h => Keeps.ite (h.modCore ..) h) _) _).foldl (fun _ _ h => h.cleanLeaf ..)
      _).dropAsides ..).guardPages ..).modPart ..).resumePart ..).setRf ..).setReg ..).setReg ..).setRf ..)
        (((((((((((h.foldl (fun _ _ h => h.foldl (fun _ _ h => Keeps.ite (h.modCore ..) h) _) _).foldl (fun _ _ h => h.cleanLeaf ..)
          _).dropAsides ..).guardPages ..).modPart ..).resumePart ..).setRf ..).setReg ..).setReg ..).setRf ..).settleTakes ..)

theorem Keeps.of_streamPages {y : List (Nat × Nat)} {t : State} {p key mems l acc} (h : Keeps false a s)
    (e : streamPages p key mems l acc s = some (y, t)) : Keeps false a t := by
  induction l generalizing s acc with
  | nil =>
    obtain ⟨-, rfl⟩ := Prod.mk.inj (Option.some.inj e)
    exact h
  | cons g l ih =>
    simp only [Machine.streamPages] at e
    split at e
    · cases e
    · exact ih ((((h.allocFrom ..).of_snd ‹_›).tagPage ..).copyPage ..) e

theorem Keeps.commitLocal (h : Keeps false a s) (p) : Keeps false a (s.commitLocal p) := by
  simp only [State.commitLocal]
  repeat' split
  · exact h
  · exact h
  · exact h
  · exact ((((h.of_streamPages ‹_›).modPart ..).freePages ..).setRf ..).settleTakes ..
  · exact h

theorem Keeps.mirrored (h : Keeps false a s) (p) : Keeps false a (s.mirrored p) := by
  simp only [State.mirrored]
  repeat' split
  · exact h
  · exact h.setRf ..
  · exact h
  · exact h

theorem Keeps.restorePages (h : Keeps false a s) (x w) : Keeps false a (s.restorePages x w) := by
  simp only [State.restorePages]
  exact Keeps.ite
    ((((Keeps.ite ((h.foldl (fun _ _ h => h.copyPage ..) _).foldl (fun _ _ h => h.copyPage ..) _)
      (h.foldl (fun _ _ h => h.copyPage ..) _)).dropAsides ..).guardPages ..).modPart ..)
        (((((Keeps.ite ((h.foldl (fun _ _ h => h.copyPage ..) _).foldl (fun _ _ h => h.copyPage ..) _)
          (h.foldl (fun _ _ h => h.copyPage ..) _)).dropAsides ..).guardPages ..).modPart ..).setRf ..)

theorem Keeps.restore (h : Keeps false a s) (p n) : Keeps false a (s.restore p n) := by
  simp only [State.restore]
  repeat' split
  · exact h
  · exact h.resumePart ..
  · exact ((((((h.foldl (fun _ _ h => h.disableChannels ..) _).restorePages ..).foldl (fun _ _ h => h.loadRecord ..)
      _).resumePart ..).fwAdd ..).bump ..).measure ..
  · exact (((((h.foldl (fun _ _ h => h.disableChannels ..) _).restorePages ..).foldl (fun _ _ h => h.loadRecord ..)
      _).resumePart ..).bump ..).measure ..
  · exact (((((h.foldl (fun _ _ h => h.disableChannels ..) _).restorePages ..).foldl (fun _ _ h => h.loadRecord ..)
      _).resumePart ..).bump ..).measure ..

theorem CmdKeeps.cmdWaypointTake (part) : CmdKeeps a (cmdWaypointTake part) := by
  intro t s h
  simp only [Machine.cmdWaypointTake]
  exact (h.acceptHold ..).startStop ..

theorem CmdKeeps.cmdWaypointRestore (part waypoint) : CmdKeeps a (cmdWaypointRestore part waypoint) := by
  intro t s h
  simp only [Machine.cmdWaypointRestore]
  exact (h.acceptHold ..).startStop ..

end Sys2Proof.Machine
end

section
/-! SUPPORT. What recovery, the life cycle, firmware, debug and links keep (R427 to R470). -/

namespace Sys2Proof.Machine
variable {a s : State}

theorem Keeps.retireCore (h : Keeps false a s) (k) : Keeps false a (s.retireCore k) := by
  simp only [State.retireCore, State.mk_eq_withRest]
  exact Keeps.ite h (((((h.stopCore ..).modCore ..).modMsg ..).setRf ..).withRest ..)

theorem Keeps.retireCluster (h : Keeps false a s) (u) : Keeps false a (s.retireCluster u) := by
  simp only [State.retireCluster, State.mk_eq_withRest]
  exact Keeps.ite h
    (((((((h.foldl (fun _ _ h => h.retireCore ..) _).disableChannels ..).modCluster ..).setClu ..).assign ..).modPart ..).withRest ..)

theorem Keeps.fillPages (h : Keeps false a s) (w old new k) : Keeps false a (s.fillPages w old new k) := by
  simp only [State.fillPages]
  exact h.foldl (fun _ _ h => (by split; exacts [(h.zeroPage ..).copyPage .., h.zeroPage ..])) _

theorem Keeps.placeLeaf (h : Keeps false a s) (p w l new entry out) : Keeps false a (s.placeLeaf p w l new entry out) := by
  simp only [State.placeLeaf]
  split
  · exact (((h.fillPages ..).setNum ..).foldl (fun _ _ h => (h.renamePage ..).freePage ..) _).modPart ..
  · exact ((h.fillPages ..).foldl (fun _ _ h => (h.renamePage ..).freePage ..) _).modPart ..

theorem Keeps.placeLost (h : Keeps false a s) (p w f l) : Keeps false a (placeLost p w f l s) := by
  induction f generalizing s l with
  | zero => exact h
  | succ f ih =>
    simp only [Machine.placeLost]
    split
    · exact ((h.allocFrom ..).of_snd ‹_›).placeLeaf ..
    · have tried := (h.allocFrom ..).of_snd ‹_›
      split
      · split
        · exact tried
        · exact (tried.of_splitLeaf ‹_›).foldl (fun _ y h => ih h y) _
      · split
        · split
          · exact (((tried.allocFrom ..).of_snd ‹_›).tagPage ..).placeLeaf ..
          · exact tried
        · exact tried

theorem Keeps.rebuildTables (h : Keeps false a s) (p) : Keeps false a (s.rebuildTables p) := by
  simp only [State.rebuildTables]
  repeat' split
  · exact h
  · exact h
  · exact h
  · refine ((Keeps.foldl ((h.modPart ..).of_newTable ‹_›) (fun s e h => ?_) _).foldl (fun _ _ h => h.setRf ..) _).freePages ..
    split
    · exact (h.of_entryAt ‹_›).setNum ..
    · exact h

theorem Keeps.relocate (h : Keeps false a s) (p) : Keeps false a (s.relocate p) := by
  simp only [State.relocate]
  repeat' split
  · exact h
  · exact h
  · exact ((h.rebuildTables ..).foldl (fun _ _ h => h.placeLost ..) _).modPart ..

theorem Keeps.endAwait (h : Keeps false a s) (w us) : Keeps false a (s.endAwait w us) := by
  simp only [State.endAwait]
  exact h.foldl (fun _ _ h => h.endPending ..) _

theorem Keeps.finishStop (h : Keeps false a s) (p pauseUs) : Keeps false a (s.finishStop p pauseUs) := by
  simp only [State.finishStop]
  repeat' split
  · exact h
  · exact h
  · exact h
  · exact h.capture ..
  · exact ((((h.foldl (fun _ _ h => h.retireCore ..) _).foldl (fun _ _ h => h.retireCluster ..)
      _).beginDestroy ..).settleDestroy.endAwait ..).foldl (fun _ _ h => h.endAwait ..) _
  · exact (((((h.foldl (fun _ _ h => h.retireCore ..) _).foldl (fun _ _ h => h.retireCluster ..)
      _).relocate ..).restore ..).endAwait ..).foldl (fun _ _ h => h.endAwait ..) _

theorem Keeps.beginCoreRetire (h : Keeps false a s) (k) : Keeps false a (s.beginCoreRetire k) := by
  simp only [State.beginCoreRetire]
  exact Keeps.ite h (Keeps.ite (h.startStop ..) ((h.retireCore ..).endAwait ..))

theorem Keeps.beginClusterRetire (h : Keeps false a s) (u) : Keeps false a (s.beginClusterRetire u) := by
  simp only [State.beginClusterRetire]
  exact Keeps.ite h (Keeps.ite (h.startStop ..) (h.retireCluster ..))

theorem Keeps.recoverPart (h : Keeps false a s) (p) : Keeps false a (s.recoverPart p) := by
  simp only [State.recoverPart]
  exact Keeps.ite (h.startStop ..) h

theorem Keeps.recover (h : Keeps false a s) (f) : Keeps false a (s.recover f) := by
  simp only [State.recover]
  repeat' split
  · exact h.beginCoreRetire ..
  · exact h.recoverPart ..
  · exact h
  · exact h.beginCoreRetire ..
  · exact h.beginClusterRetire ..
  · exact h
  · exact h.recoverPart ..
  · exact h.beginClusterRetire ..
  · exact (h.retirePage ..).recoverPart ..
  · exact h.retirePage ..

theorem Keeps.newMirror (h : Keeps false a s) : Keeps false a s.newMirror := by
  simp only [State.newMirror]
  split
  · exact ((h.setRf ..).allocFrom ..).of_snd ‹_›
  · exact ((((((h.setRf ..).allocFrom ..).of_snd ‹_›).zeroRange ..).foldl (fun _ _ h => h.setByte ..) _).setRf ..).setRf ..

theorem Keeps.recoverTags (h : Keeps false a s) (n) : Keeps false a (s.recoverTags n) := by
  simp only [State.recoverTags]
  repeat' split
  · exact h
  · exact (h.setRf ..).newMirror
  · exact h.setRf ..
  · exact h.newMirror
  · exact h

theorem Keeps.stackFails (h : Keeps false a s) (n) : Keeps false a (s.stackFails n) := by
  simp only [State.stackFails]
  exact Keeps.ite h (((((h.setRf ..).setRf ..).setRf ..).recoverTags ..).foldl (fun _ _ h => (h.modPart ..).startStop ..) _)

theorem Keeps.stopForReset (h : Keeps false a s) (u) : Keeps false a (s.stopForReset u) := by
  simp only [State.stopForReset, State.mk_eq_withRest]
  exact (((h.setClu ..).disableChannels ..).foldl (fun _ _ h => h.foldl (fun _ _ h => h.queueTableWrite ..) _) _).withRest ..

theorem Keeps.resetCluster (h : Keeps false a s) (u) : Keeps false a (s.resetCluster u) := by
  simp only [State.resetCluster]
  exact ((h.loadMaps [] [] ..).foldl (fun _ _ h => (h.setCore ..).modMsg ..) _).modCluster ..

theorem Keeps.stopTimeout (h : Keeps false a s) (u) : Keeps false a (s.stopTimeout u) := by
  simp only [State.stopTimeout]
  exact Keeps.ite ((h.resetCluster ..).setClu ..) h

theorem Keeps.nowOn (h : Keeps false a s) (u) : Keeps false a (s.nowOn u) := by
  simp only [State.nowOn]
  exact (h.setClu ..).foldl (fun _ _ h => (h.measure ..).endPending ..) _

theorem Keeps.clusterOn (h : Keeps false a s) (u) : Keeps false a (s.clusterOn u) := by
  simp only [State.clusterOn]
  repeat' split
  · exact h
  · exact h.nowOn ..
  · exact (h.resetCluster ..).nowOn ..
  · exact h
  · exact h

theorem CmdKeeps.cmdClusterReset (cluster) : CmdKeeps a (cmdClusterReset cluster) := by
  intro t s h
  simp only [Machine.cmdClusterReset]
  exact (h.acceptHold ..).stopForReset ..

theorem CmdKeeps.cmdCoreRetire (core) : CmdKeeps a (cmdCoreRetire core) := by
  intro t s h
  simp only [Machine.cmdCoreRetire]
  exact (h.acceptHold ..).beginCoreRetire ..

theorem Keeps.modSec (h : Keeps false a s) (f) : Keeps false a (s.modSec f) := by
  simp only [State.modSec, State.mk_eq_withRest]
  exact h.withRest ..

theorem Keeps.measureCmd (h : Keeps false a s) (n params digest) : Keeps false a (s.measureCmd n params digest) := by
  simp only [State.measureCmd]
  exact h.measure ..

theorem Keeps.writeSlot (h : Keeps false a s) (slot i) : Keeps false a (s.writeSlot slot i) := by
  simp only [State.writeSlot]
  exact h.modSec ..

theorem CmdKeeps.cmdFwStage (len img) : CmdKeeps a (cmdFwStage len img) := by
  intro t s h
  simp only [Machine.cmdFwStage]
  exact (((h.accept ..).writeSlot ..).modSec ..).answer ..

theorem CmdKeeps.cmdFwActivate (deadline) : CmdKeeps a (cmdFwActivate deadline) := by
  intro t s h
  simp only [Machine.cmdFwActivate]
  exact (h.acceptHold ..).modSec ..

theorem Keeps.restartStewards (h : Keeps false a s) : Keeps false a s.restartStewards := by
  simp only [State.restartStewards]
  exact h.foldl (fun _ _ h => h.setCore ..) _

theorem Keeps.runImage (h : Keeps false a s) (x) : Keeps false a (s.runImage x) := by
  simp only [State.runImage]
  exact (h.restartStewards.modSec ..).measure ..

theorem Keeps.handOver (h : Keeps false a s) : Keeps false a s.handOver := by
  simp only [State.handOver]
  repeat' split
  · exact h
  · exact (h.runImage ..).modSec ..
  · exact h

theorem Keeps.writeBoot (h : Keeps false a s) (slot) : Keeps false a (s.writeBoot slot) := by
  simp only [State.writeBoot]
  exact h.modSec ..

theorem Keeps.imageCommit (h : Keeps false a s) : Keeps false a s.imageCommit := by
  simp only [State.imageCommit]
  split
  · exact ((h.writeBoot ..).modSec ..).endAwait ..
  · exact h

theorem Keeps.rollback (h : Keeps false a s) : Keeps false a s.rollback := by
  simp only [State.rollback]
  split
  · exact ((h.runImage ..).modSec ..).foldl (fun _ _ h => h.endPending ..) _
  · exact h

theorem Keeps.watchdog (h : Keeps false a s) : Keeps false a s.watchdog := by
  simp only [State.watchdog]
  repeat' split
  · exact h.rollback
  · exact h.restartStewards
  · exact h

theorem CmdKeeps.cmdKeyInstallDdr5 (slot k) : CmdKeeps a (cmdKeyInstallDdr5 slot k) := by
  intro t s h
  simp only [Machine.cmdKeyInstallDdr5, State.mk_eq_withRest]
  exact (((h.setRf ..).withRest ..).measureCmd ..).ok ..

theorem CmdKeeps.cmdKeyInstallTx (an k) : CmdKeeps a (cmdKeyInstallTx an k) := by
  intro t s h
  simp only [Machine.cmdKeyInstallTx]
  exact ((((((h.measureCmd ..).ok ..).modHost ..).setRf ..).setRf ..).setReg ..).setRf ..

theorem Keeps.setRxv (h : Keeps false a s) (an v) : Keeps false a (s.setRxv an v) := by
  simp only [State.setRxv]
  exact h.setRf ..

theorem CmdKeeps.cmdKeyInstallRx (an k) : CmdKeeps a (cmdKeyInstallRx an k) := by
  intro t s h
  simp only [Machine.cmdKeyInstallRx]
  exact Keeps.ite (((((h.modHost ..).setRxv ..).measureCmd ..).ok ..).setRf ..) ((((h.modHost ..).setRxv ..).measureCmd ..).ok ..)

theorem CmdKeeps.cmdKeyRetireDdr5 (slot) : CmdKeeps a (cmdKeyRetireDdr5 slot) := by
  intro t s h
  simp only [Machine.cmdKeyRetireDdr5]
  exact Keeps.ite ((h.retireSlot ..).answer ..) (((h.retireSlot ..).measureCmd ..).ok ..)

theorem CmdKeeps.cmdKeyRetireMacsec (rx an) : CmdKeeps a (cmdKeyRetireMacsec rx an) := by
  intro t s h
  simp only [Machine.cmdKeyRetireMacsec]
  exact ((Keeps.ite ((h.modHost ..).setRxv ..) (h.modHost ..)).measureCmd ..).ok ..

theorem Keeps.modSpdm (h : Keeps false a s) (sid f) : Keeps false a (s.modSpdm sid f) := by
  simp only [State.modSpdm]
  exact h.modSec ..

theorem Keeps.endSpdm {own : Nat → State → State} (h : Keeps false a s) (ho : ∀ n s, Keeps false a s → Keeps false a (own n s)) (sid) :
    Keeps false a (s.endSpdm sid own) := by
  simp only [State.endSpdm]
  exact (h.modSec ..).foldl (fun _ _ h => h.closeSession (ho _) _) _

theorem Keeps.inSpdm {f : SpdmSession → SpdmAnswer × State} (h : Keeps false a s) (hf : ∀ x, Keeps false a (f x).2) (sid) :
    Keeps false a (s.inSpdm sid f).2 := by
  simp only [State.inSpdm]
  split
  · exact hf _
  · exact h

theorem Keeps.spdmService (h : Keeps false a s) (r) : Keeps false a (s.spdmService r).2 := by
  have ended (c : Prop) (_ : Decidable c) (x y : SpdmAnswer) : Keeps false a (if c then (x, s) else (y, s)).2 := by split <;> exact h
  cases r with
  | getCertificate slot => exact ended _ _ _ _
  | challenge nonce => exact ended _ _ _ _
  | getMeasurements i signed nonce =>
    simp only [State.spdmService]
    split
    · exact h
    · split <;> exact h
  | keyExchange sid mutAuth =>
    simp only [State.spdmService]
    split
    · exact h
    · split
      · exact h
      · split
        · exact h
        · dsimp only
          exact h.modSec ..
  | getEncapsulated sid => exact h.inSpdm (fun _ => h) _
  | deliverEncapsulated sid root => exact h.inSpdm (fun _ => h.modSpdm ..) _
  | finish sid verified root =>
    refine h.inSpdm (fun _ => ?_) _
    split
    · exact h.modSpdm ..
    · exact h
  | heartbeat sid => exact h.inSpdm (fun _ => ended _ _ _ _) _
  | keyUpdate sid => exact h.inSpdm (fun _ => ended _ _ _ _) _
  | endSession sid => exact h.inSpdm (fun _ => h) _
  | getDigests | getMel | getVersion | getCapabilities | negotiateAlgorithms | getCsr | setCertificate | other => exact h

theorem Keeps.spdm (h : Keeps false a s) (r) : Keeps false a (s.spdm r).2 := by
  simp only [State.spdm]
  repeat' split
  · dsimp only
    exact h
  · dsimp only
    exact h
  · dsimp only
    exact h
  · dsimp only
    exact h
  · dsimp only
    exact h.modSec ..
  · dsimp only
    exact h
  · dsimp only
    exact h
  · dsimp only
    exact h.modSec ..
  · dsimp only
    exact h
  · exact h.spdmService ..

theorem CmdKeeps.cmdAttest (r) : CmdKeeps a (cmdAttest r) := by
  intro t s h
  simp only [Machine.cmdAttest]
  repeat' split
  · exact (h.spdm ..).ok ..
  · exact (h.spdm ..).endSpdm (fun _ _ h => Keeps.ite (h.ok ..) h) ..
  · exact ((h.spdm ..).endSpdm (fun _ _ h => h) ..).ok ..

theorem CmdKeeps.lifeCmd {act : State → State} (ha : ∀ s, Keeps false a s → Keeps false a (act s)) (confirm target allowed) :
    CmdKeeps a (lifeCmd confirm target allowed act) := by
  intro t s h
  simp only [Machine.lifeCmd]
  split
  · exact h.ok ..
  · exact ((ha _ h).measureCmd ..).ok ..

theorem CmdKeeps.cmdLifecycleProvisioned (confirm) : CmdKeeps a (cmdLifecycleProvisioned confirm) := .lifeCmd (fun _ h => h.modSec ..) _
    _ _

theorem CmdKeeps.cmdLifecycleField (confirm) : CmdKeeps a (cmdLifecycleField confirm) := .lifeCmd (fun _ h => h.modSec ..) _ _ _

theorem Keeps.scrubWhole (h : Keeps false a s) (m) : Keeps false a (s.scrubWhole m) := by
  simp only [State.scrubWhole, State.mk_eq_withRest]
  exact Keeps.ite h ((h.zeroRange ..).withRest ..)

theorem Keeps.destroySecrets (h : Keeps false a s) : Keeps false a s.destroySecrets := by
  simp only [State.destroySecrets, State.mk_eq_withRest]
  exact (((((((h.foldl (fun _ _ h => ((h.beginDestroy ..).modPart ..).settleDestroy) _).foldl (fun _ _ h => h.scrubWhole ..) _).foldl
    (fun _ _ h => (h.setRf ..).setRf ..) _).withRest ..).setReg ..).setRf ..).modHost ..).modSec ..

theorem CmdKeeps.cmdLifecycleReturn (confirm) : CmdKeeps a (cmdLifecycleReturn confirm) := .lifeCmd (fun _ h => h.destroySecrets) _ _ _

theorem Keeps.askHalt (h : Keeps false a s) (k m) : Keeps false a (s.askHalt k m) := by
  simp only [State.askHalt]
  exact h.foldl (fun _ _ h => (by split; exacts [h, h, Keeps.ite (h.modStrand ..) h])) _

theorem CmdKeeps.cmdDebugHalt (core strands) : CmdKeeps a (cmdDebugHalt core strands) := by
  intro t s h
  simp only [Machine.cmdDebugHalt]
  exact ((h.askHalt ..).hold ..).settleHalts

/-- A list of registers read one after the other. -/
theorem Keeps.readAll {α : Type} (h : Keeps false a s) (reg : State → α → Option Nat) (bytes : W64 → List Byte) (l : List α) :
    Keeps false a (l.foldl (fun (acc : List Byte × State) x => match reg acc.2 x with
      | some o => let (v, s) := acc.2.regLoad epCheter o; (acc.1 ++ bytes v, s)
      | none => acc) ([], s)).2 := by
  refine Keeps.foldl_snd h fun y x h => ?_
  split
  · exact h.regLoad ..
  · exact h

theorem CmdKeeps.cmdDebugRead (addr len) : CmdKeeps a (cmdDebugRead addr len) := by
  intro t s h
  simp only [Machine.cmdDebugRead]
  split
  · exact (h.readAll (fun s (x : Nat) => s.debugReg x) (fun v => toBytes 8 v.toNat) _).ok ..
  · exact (h.fwRead ..).finishTransfer ..

theorem CmdKeeps.cmdDebugWrite (addr len bytes) : CmdKeeps a (cmdDebugWrite addr len bytes) := by
  intro t s h
  simp only [Machine.cmdDebugWrite]
  repeat' split
  · exact ((h.foldl (fun _ _ h => (by split; exacts [h.regStore .., h])) _).measureDebug ..).ok ..
  · exact ((h.fwWrite ..).measureDebug ..).finishTransfer ..
  · exact (h.fwWrite ..).finishTransfer ..
  · exact (((h.fwWrite ..).measureDebug ..).finishTransfer ..).modHost ..
  · exact ((h.fwWrite ..).finishTransfer ..).modHost ..

theorem Keeps.traceConfig (h : Keeps false a s) (o) : Keeps false a (s.traceConfig o) := by
  simp only [State.traceConfig, State.mk_eq_withRest]
  exact Keeps.ite ((h.setRf ..).withRest ..) ((h.setRf ..).withRest ..)

theorem CmdKeeps.cmdTraceConfig (o) : CmdKeeps a (cmdTraceConfig o) := by
  intro t s h
  simp only [Machine.cmdTraceConfig]
  exact ((h.traceConfig ..).measureDebug ..).ok ..

theorem CmdKeeps.cmdPerfRead (count addrs) : CmdKeeps a (cmdPerfRead count addrs) := by
  intro t s h
  simp only [Machine.cmdPerfRead]
  exact (h.readAll (fun s (x : BitVec 64) => s.debugReg x.toNat) (fun v => toBytesBE 8 v.toNat) _).ok ..

theorem Keeps.portConfig (h : Keeps false a s) (en maxw p) : Keeps false a (s.portConfig en maxw p) := by
  simp only [State.portConfig]
  exact Keeps.ite ((Keeps.ite ((h.setRf ..).trailEnable ..) ((h.setRf ..).trailDisable ..)).retrain ..)
    (Keeps.ite ((h.setRf ..).trailEnable ..) ((h.setRf ..).trailDisable ..))

theorem CmdKeeps.cmdLinkConfig (devid valid hops en maxw) : CmdKeeps a (cmdLinkConfig devid valid hops en maxw) := by
  intro t s h
  simp only [Machine.cmdLinkConfig]
  exact (((((h.setRf ..).setRf ..).setRf ..).foldl (fun _ _ h => h.portConfig ..) _).measureCmd ..).ok ..

theorem Keeps.windowOpen (h : Keeps false a s) (o) : Keeps false a (s.windowOpen o) := by
  simp only [State.windowOpen]
  exact ((((((((((((h.setRf ..).setRf ..).setRf ..).setRf ..).setRf ..).setRf ..).setRf ..).setRf ..).setRf ..).setRf ..).bump ..).setRf ..).setRf ..

theorem CmdKeeps.cmdWindowOpen (o) : CmdKeeps a (cmdWindowOpen o) := by
  intro t s h
  simp only [Machine.cmdWindowOpen]
  exact ((h.windowOpen ..).measureCmd ..).ok ..

theorem CmdKeeps.cmdWindowClose (win) : CmdKeeps a (cmdWindowClose win) := by
  intro t s h
  simp only [Machine.cmdWindowClose]
  exact (((h.setRf ..).measureCmd ..).hold ..).settleWindows

end Sys2Proof.Machine
end

section
/-! SUPPORT. What sessions, network time and the frames of the host keep (R371 to R415). -/

namespace Sys2Proof.Machine
variable {a s : State}

theorem CmdKeeps.cmdHello : CmdKeeps a cmdHello := by
  intro t s h
  simp only [Machine.cmdHello]
  exact h.ok ..

theorem CmdKeeps.cmdQueryInfo : CmdKeeps a cmdQueryInfo := by
  intro t s h
  simp only [Machine.cmdQueryInfo]
  exact h.ok ..

theorem CmdKeeps.cmdQueryHealth : CmdKeeps a cmdQueryHealth := by
  intro t s h
  simp only [Machine.cmdQueryHealth]
  exact h.ok ..

theorem CmdKeeps.cmdTimeStatus : CmdKeeps a cmdTimeStatus := by
  intro t s h
  simp only [Machine.cmdTimeStatus]
  exact h.ok ..

theorem Keeps.newSession (h : Keeps false a s) (n o) : Keeps false a (s.newSession n o).2 := by
  simp only [State.newSession]
  exact h.fresh.fresh.modHost ..

theorem Keeps.openSession (h : Keeps false a s) (n o) : Keeps false a (s.openSession n o) := by
  simp only [State.openSession]
  repeat' split
  · exact h.reply ..
  · exact (h.modHost ..).answer ..
  · exact ((h.newSession ..).modHost ..).answer ..

theorem CmdKeeps.cmdSessionOpen (o) : CmdKeeps a (cmdSessionOpen o) := by
  intro t s h
  simp only [Machine.cmdSessionOpen]
  exact h.openSession ..

theorem CmdKeeps.cmdSessionClose : CmdKeeps a cmdSessionClose := by
  intro t s h
  simp only [Machine.cmdSessionClose]
  exact h.closeSession (fun _ h => h.ok ..) ..

theorem CmdKeeps.cmdScheduleList (session) : CmdKeeps a (cmdScheduleList session) := by
  intro t s h
  simp only [Machine.cmdScheduleList]
  exact h.ok ..

theorem CmdKeeps.cmdScheduleCancel (tag session) : CmdKeeps a (cmdScheduleCancel tag session) := by
  intro t s h
  simp only [Machine.cmdScheduleCancel]
  split
  · exact (h.cancelSched ..).ok ..
  · exact h.ok ..

theorem Keeps.finishAlarms (h : Keeps false a s) (passed x) : Keeps false a (s.finishAlarms passed x) := by
  simp only [State.finishAlarms]
  exact Keeps.ite h ((h.modHost ..).reply ..)

theorem Keeps.fireAlarm (h : Keeps false a s) (n passed) : Keeps false a (s.fireAlarm n passed) := by
  simp only [State.fireAlarm]
  split
  · exact h
  · refine Keeps.foldl ?_ (fun _ _ h => h.finishAlarms ..) _
    exact Keeps.ite (Keeps.ite (h.setRf ..) ((h.setRf ..).fwAdd ..)) ((h.setRf ..).withRest ..)

/-- What a command of the host does keeps what is kept, whichever it is. -/
theorem CmdKeeps.of_kilperCmd {i : Instr} {h : KHdr} {c : Cmd} (e : kilperCmd i = some (h, c)) : CmdKeeps a c := by
  cases i with
  | hello => cases e; exact .cmdHello
  | sessionOpen => cases e; exact .cmdSessionOpen _
  | sessionClose => cases e; exact .cmdSessionClose
  | queryInfo => cases e; exact .cmdQueryInfo
  | queryHealth => cases e; exact .cmdQueryHealth
  | memWrite => cases e; exact .cmdMemWrite _ _ _
  | memRead => cases e; exact .cmdMemRead _ _
  | memFill => cases e; exact .cmdMemFill _ _ _
  | scrub => cases e; exact .cmdScrub _ _
  | partCreate => cases e; exact .cmdPartCreate _ _ _
  | partDestroy => cases e; exact .cmdPartDestroy _
  | mapPages => cases e; exact .cmdMapPages _
  | unmapPages => cases e; exact .cmdUnmapPages _ _ _ _
  | loadProgram => cases e; exact .cmdLoadProgram _ _ _ _ _
  | loadRoutes => cases e; exact .cmdLoadRoutes _ _
  | loadMicrocode => cases e; exact .cmdLoadMicrocode _ _ _ _ _ _
  | launchStart => cases e; exact .cmdLaunchStart _ _ _ _
  | launchWake => cases e; exact .cmdLaunchWake _ _
  | signalAdd => cases e; exact .cmdSignalAdd _ _
  | signalSet => cases e; exact .cmdSignalSet _ _
  | waitCounterWatch => cases e; exact .cmdWaitCounter _ _ _ _
  | waitCounterTake => cases e; exact .cmdWaitCounter _ _ _ _
  | waypointTake => cases e; exact .cmdWaypointTake _
  | waypointRestore => cases e; exact .cmdWaypointRestore _ _
  | clusterReset => cases e; exact .cmdClusterReset _
  | coreRetire => cases e; exact .cmdCoreRetire _
  | timeStatus => cases e; exact .cmdTimeStatus
  | scheduleList => cases e; exact .cmdScheduleList _
  | scheduleCancel => cases e; exact .cmdScheduleCancel _ _
  | attest => cases e; exact .cmdAttest _
  | keyInstallDdr5 => cases e; exact .cmdKeyInstallDdr5 _ _
  | keyInstallMacsecTx => cases e; exact .cmdKeyInstallTx _ _
  | keyInstallMacsecRx => cases e; exact .cmdKeyInstallRx _ _
  | keyRetireDdr5 => cases e; exact .cmdKeyRetireDdr5 _
  | keyRetireMacsec => cases e; exact .cmdKeyRetireMacsec _ _
  | fwStage => cases e; exact .cmdFwStage _ _
  | fwActivate => cases e; exact .cmdFwActivate _
  | lifecycleProvisioned => cases e; exact .cmdLifecycleProvisioned _
  | lifecycleField => cases e; exact .cmdLifecycleField _
  | lifecycleReturn => cases e; exact .cmdLifecycleReturn _
  | debugHalt => cases e; exact .cmdDebugHalt _ _
  | debugRead => cases e; exact .cmdDebugRead _ _
  | debugWrite => cases e; exact .cmdDebugWrite _ _ _
  | traceConfig => cases e; exact .cmdTraceConfig _
  | perfRead => cases e; exact .cmdPerfRead _ _
  | linkConfig => cases e; exact .cmdLinkConfig _ _ _ _ _
  | windowOpen => cases e; exact .cmdWindowOpen _
  | windowClose => cases e; exact .cmdWindowClose _
  | _ => cases e

theorem CmdKeeps.of_schedReady {x : Sched} {y : KHdr × Cmd × Asker} (e : s.schedReady x = some y) : CmdKeeps a y.2.1 := by
  simp only [State.schedReady] at e
  split at e
  · cases e
  · next found =>
    split at e
    · cases e
    · split at e
      · exact Option.some.inj e ▸ .of_kilperCmd found
      · cases e

theorem Keeps.startSched (h : Keeps false a s) (k passed) : Keeps false a (s.startSched k passed) := by
  simp only [State.startSched]
  repeat' split
  · exact h
  · exact h
  · exact h
  · next ready _ => exact Keeps.startChecked_getD (h.modHost ..) (h.modHost ..) (CmdKeeps.of_schedReady ready) _

theorem Keeps.firePassed (h : Keeps false a s) (f) : Keeps false a (firePassed f s) := by
  induction f generalizing s with
  | zero => exact h
  | succ f ih =>
    simp only [Machine.firePassed]
    split
    · exact h
    · exact ih (h.fireAlarm ..)
    · exact ih (h.startSched ..)

theorem Keeps.stepTime (h : Keeps false a s) (ns) : Keeps false a (s.stepTime ns) := by
  simp only [State.stepTime, State.mk_eq_withRest]
  exact (Keeps.ite (((h.withRest ..).bump ..).firePassed ..) ((h.withRest ..).bump ..)).withRest ..

theorem Keeps.setLock (h : Keeps false a s) (l) : Keeps false a (s.setLock l) := by
  simp only [State.setLock]
  exact Keeps.ite h (((Keeps.ite (h.bump ..) h).setRf ..).event ..)

theorem Keeps.slew (h : Keeps false a s) : Keeps false a s.slew := by
  simp only [State.slew, State.mk_eq_withRest]
  exact h.fresh.withRest ..

theorem Keeps.runs (h : Keeps false a s) (good bad) : Keeps false a (s.runs good bad) := by
  simp only [State.runs, State.mk_eq_withRest]
  exact h.withRest ..

theorem Keeps.sample (h : Keeps false a s) (source offset ns) : Keeps false a (s.sample source offset ns) := by
  simp only [State.sample]
  repeat' split
  · exact (((((h.setRf ..).setRf ..).setRf ..).runs ..).setLock ..).stepTime ..
  · exact (((h.setRf ..).setRf ..).runs ..).stepTime ..
  · exact (((h.setRf ..).setRf ..).slew.runs ..).setLock ..
  · exact ((h.setRf ..).setRf ..).slew.runs ..
  · exact (((h.setRf ..).setRf ..).slew.runs ..).setLock ..
  · exact ((h.setRf ..).setRf ..).slew.runs ..
  · exact (((h.setRf ..).setRf ..).slew.runs ..).setLock ..
  · exact ((h.setRf ..).setRf ..).slew.runs ..
  · exact (((h.setRf ..).setRf ..).slew.runs ..).setLock ..
  · exact ((h.setRf ..).setRf ..).slew.runs ..

theorem Keeps.ptpSample (h : Keeps false a s) (x) : Keeps false a (s.ptpSample x) := by
  simp only [State.ptpSample]
  exact Keeps.ite ((h.setRf ..).sample ..) h

theorem Keeps.ppsEdge (h : Keeps false a s) : Keeps false a s.ppsEdge := by
  simp only [State.ppsEdge, State.mk_eq_withRest]
  exact Keeps.ite ((h.withRest ..).sample ..) (h.withRest ..)

theorem Keeps.sampleTimeout (h : Keeps false a s) : Keeps false a s.sampleTimeout := by
  simp only [State.sampleTimeout]
  exact Keeps.ite h ((((h.setRf ..).setRf ..).runs ..).setLock ..)

theorem Keeps.sendAck (h : Keeps false a s) (n) : Keeps false a (s.sendAck n) := by
  simp only [State.sendAck]
  repeat' split
  · exact h
  · exact (h.modSession ..).transmit ..
  · exact (h.modSession ..).transmit ..

theorem Keeps.resend (h : Keeps false a s) (n seq fast) : Keeps false a (s.resend n seq fast) := by
  simp only [State.resend]
  repeat' split
  · exact h
  · exact h
  · exact ((h.modSession ..).bump ..).transmit ..
  · exact ((h.modSession ..).bump ..).transmit ..

theorem Keeps.drain {tx : Peer → KPkt → State → State} (h : Keeps false a s) (hx : ∀ p q s, Keeps false a s → Keeps false a (tx p q s))
    (n f) :
    Keeps false a (drain tx n f s) := by
  induction f generalizing s with
  | zero => exact h
  | succ f ih =>
    simp only [Machine.drain]
    repeat' split
    · exact h
    · exact h
    · exact h
    · exact ih (hx _ _ _ (h.modSession ..))

theorem Keeps.hostAck (h : Keeps false a s) (n ack) : Keeps false a (s.hostAck n ack) := by
  simp only [State.hostAck]
  repeat' split
  · exact h
  · exact h
  · exact ((h.modSession ..).foldl (fun _ _ h => h.mailRelease ..) _).drain (fun _ _ _ h => h.transmit ..) ..

theorem Keeps.hostSack (h : Keeps false a s) (n blocks) : Keeps false a (s.hostSack n blocks) := by
  simp only [State.hostSack]
  split
  · exact (h.modSession ..).foldl (fun _ _ h => h.resend ..) _
  · exact h.modSession ..

theorem Keeps.intake (h : Keeps false a s) (n p) : Keeps false a (s.intake n p) := by
  simp only [State.intake]
  repeat' split
  · exact h.reply ..
  · exact h.setArrived ..
  · exact h
  · exact h.setArrived ..
  · exact (h.setArrived ..).reply ..
  · exact h

theorem Keeps.takeHeld (h : Keeps false a s) (n f) : Keeps false a (takeHeld n f s) := by
  induction f generalizing s with
  | zero => exact h
  | succ f ih =>
    simp only [Machine.takeHeld]
    repeat' split
    · exact h
    · exact h
    · exact ih ((h.modSession ..).intake ..)

theorem Keeps.inOrder (h : Keeps false a s) (n p) : Keeps false a (s.inOrder n p) := by
  simp only [State.inOrder]
  repeat' split
  · exact h
  · exact (((h.modSession ..).intake ..).takeHeld ..).settleHeads ..
  · exact ((((h.modSession ..).intake ..).takeHeld ..).sendAck ..).settleHeads ..
  · exact (h.modSession ..).sendAck ..
  · exact h.modSession ..
  · exact h

theorem Keeps.dropKilper (h : Keeps false a s) : Keeps false a s.dropKilper := by
  simp only [State.dropKilper]
  exact h.bump ..

theorem Keeps.dropAddr (h : Keeps false a s) : Keeps false a s.dropAddr := by
  simp only [State.dropAddr]
  exact h.bump ..

theorem Keeps.kilperIn (h : Keeps false a s) (src p) : Keeps false a (s.kilperIn src p) := by
  simp only [State.kilperIn]
  repeat' split
  · exact h.dropKilper
  · exact h.modHost ..
  · exact (h.modHost ..).reply ..
  · exact (h.modHost ..).intake ..
  · exact h.transmit ..
  · exact h.dropKilper
  · exact h.dropKilper
  · exact ((h.modSession ..).hostAck ..).hostSack ..
  · exact (h.modSession ..).hostSack ..
  · exact (h.modSession ..).hostAck ..
  · exact h.modSession ..
  · exact (((h.modSession ..).hostAck ..).hostSack ..).inOrder ..
  · exact ((h.modSession ..).hostSack ..).inOrder ..
  · exact ((h.modSession ..).hostAck ..).inOrder ..
  · exact (h.modSession ..).inOrder ..

theorem Keeps.of_macsecIn {t : State} (h : Keeps false a s) {f} (e : s.macsecIn f = some t) : Keeps false a t := by
  simp only [State.macsecIn] at e
  split at e
  · split at e
    · cases e
    · exact Option.some.inj e ▸ h
  · split at e
    · cases e
    · split at e
      · cases e
      · exact Option.some.inj e ▸ h.modHost ..

theorem Keeps.frameBody (h : Keeps false a s) (f) : Keeps false a (s.frameBody f) := by
  simp only [State.frameBody]
  repeat' split
  · exact h.sendFrame ..
  · exact h.dropAddr
  · exact h.sendFrame ..
  · exact h.dropAddr
  · exact h.sendFrame ..
  · exact h.dropAddr
  · exact h.sendFrame ..
  · exact h
  · exact h.dropAddr
  · exact h.ptpSample ..
  · exact h
  · exact h.dropAddr
  · exact h.kilperIn ..
  · exact h.dropKilper
  · exact h.dropAddr
  · exact h
  · exact h.dropAddr

theorem Keeps.frameIn (h : Keeps false a s) (f) : Keeps false a (s.frameIn f) := by
  simp only [State.frameIn]
  repeat' split
  · exact h
  · exact (h.bump ..).bump ..
  · exact h.bump ..
  · exact (h.bump ..).bump ..
  · exact ((h.bump ..).of_macsecIn ‹_›).frameBody ..
  · exact ((h.bump ..).of_macsecIn ‹_›).bump ..

theorem Keeps.ackTimer (h : Keeps false a s) (n) : Keeps false a (s.ackTimer n) := by
  simp only [State.ackTimer]
  exact Keeps.ite (h.sendAck ..) h

theorem Keeps.retransmit (h : Keeps false a s) (n seq) : Keeps false a (s.retransmit n seq) := by
  simp only [State.retransmit]
  exact Keeps.ite (h.resend ..) h

theorem Keeps.keepExpiry (h : Keeps false a s) (n) : Keeps false a (s.keepExpiry n) := by
  simp only [State.keepExpiry]
  exact Keeps.ite h ((h.bump ..).closeSession (fun _ h => h) ..)

end Sys2Proof.Machine
end

section
/-! SUPPORT. What the vector instructions and microcode keep (R97 to R129, R191 to R195). -/

namespace Sys2Proof.Machine
variable {a s : State}

theorem Keeps.vecInsn (h : Keeps false a s) (k) : Keeps false a (s.vecInsn k) := by
  simp only [State.vecInsn]
  exact h.bump ..

theorem Keeps.vresult (h : Keeps false a s) (e d vd p fl) : Keeps false a (s.vresult e d vd p fl) := by
  simp only [State.vresult]
  exact (h.vecInsn ..).modStrand ..

theorem Res.Keeps.vfp (h : Machine.Keeps false a s) (x e d vd p fl) : (vfp x s e d vd p fl).Keeps a := by
  simp only [Machine.vfp]
  exact .fp (h.vresult ..) _ _

theorem Keeps.drawIf (h : Keeps false a s) (k y) : Keeps false a (s.drawIf k y).2 := by
  simp only [State.drawIf]
  exact Keeps.ite (h.modCore ..) h

theorem BodyKeeps.vfloatBody (op o) : BodyKeeps a (vfloatBody op o) := by
  intro e s h
  simp only [Machine.vfloatBody]
  split
  · exact .illegal _
  · exact .vfp (h.drawIf ..) ..

theorem BodyKeeps.vunaryBody (g o) : BodyKeeps a (vunaryBody g o) := by
  intro e s h
  simp only [Machine.vunaryBody]
  split
  · exact .illegal _
  · exact .vfp h ..

theorem BodyKeeps.vpickBody (big o) : BodyKeeps a (vpickBody big o) := by
  intro e s h
  simp only [Machine.vpickBody]
  split
  · exact .illegal _
  · exact .vfp h ..

theorem BodyKeeps.vcmpBody (r o) : BodyKeeps a (vcmpBody r o) := by
  intro e s h
  simp only [Machine.vcmpBody]
  split
  · exact .illegal _
  · exact .done (h.vresult ..)

theorem BodyKeeps.vselBody (o) : BodyKeeps a (vselBody o) := by
  intro e s h
  simp only [Machine.vselBody]
  exact .done (h.vresult ..)

theorem BodyKeeps.vintBody (op o) : BodyKeeps a (vintBody op o) := by
  intro e s h
  simp only [Machine.vintBody]
  split
  · exact .illegal _
  · exact .done (h.vresult ..)

theorem BodyKeeps.vmovBody (o) : BodyKeeps a (vmovBody o) := by
  intro e s h
  simp only [Machine.vmovBody]
  exact .done (h.vresult ..)

theorem BodyKeeps.vbcastBody (o) : BodyKeeps a (vbcastBody o) := by
  intro e s h
  simp only [Machine.vbcastBody]
  split
  · exact .illegal _
  · exact .done (h.vresult ..)

theorem BodyKeeps.vdupBody (o) : BodyKeeps a (vdupBody o) := by
  intro e s h
  simp only [Machine.vdupBody]
  repeat' split
  · exact .illegal _
  · exact .illegal _
  · exact .done (h.vresult ..)

theorem BodyKeeps.vpermBody (o) : BodyKeeps a (vpermBody o) := by
  intro e s h
  simp only [Machine.vpermBody]
  split
  · exact .illegal _
  · exact .done (h.vresult ..)

theorem BodyKeeps.vslideBody (o) : BodyKeeps a (vslideBody o) := by
  intro e s h
  simp only [Machine.vslideBody]
  split
  · exact .illegal _
  · exact .done (h.vresult ..)

theorem BodyKeeps.vmovgBody (o) : BodyKeeps a (vmovgBody o) := by
  intro e s h
  simp only [Machine.vmovgBody]
  repeat' split
  · exact .illegal _
  · exact .illegal _
  · exact .done ((h.vecInsn ..).modStrand ..)

theorem BodyKeeps.vrsumBody (o) : BodyKeeps a (vrsumBody o) := by
  intro e s h
  simp only [Machine.vrsumBody]
  repeat' split
  · exact .vfp h ..
  · exact .vfp h ..
  · exact .vfp h ..
  · exact .vfp h ..
  · exact .illegal _

theorem BodyKeeps.vrpickBody (big o) : BodyKeeps a (vrpickBody big o) := by
  intro e s h
  simp only [Machine.vrpickBody]
  repeat' split
  · exact .vfp h ..
  · exact .vfp h ..
  · exact .vfp h ..
  · exact .illegal _

theorem BodyKeeps.vrssqBody (acc o) : BodyKeeps a (vrssqBody acc o) := by
  intro e s h
  simp only [Machine.vrssqBody]
  repeat' split
  · exact .illegal _
  · exact .vfp h ..
  · exact .vfp h ..

theorem BodyKeeps.vmomBody (acc o) : BodyKeeps a (vmomBody acc o) := by
  intro e s h
  simp only [Machine.vmomBody]
  repeat' split
  · exact .illegal _
  · exact .illegal _
  · exact .vfp h ..
  · exact .vfp h ..

theorem BodyKeeps.vmmrgBody (o) : BodyKeeps a (vmmrgBody o) := by
  intro e s h
  simp only [Machine.vmmrgBody]
  exact .vfp h ..

theorem BodyKeeps.vmredBody (o) : BodyKeeps a (vmredBody o) := by
  intro e s h
  simp only [Machine.vmredBody]
  exact .vfp h ..

theorem BodyKeeps.vmvarBody (o) : BodyKeeps a (vmvarBody o) := by
  intro e s h
  simp only [Machine.vmvarBody]
  exact .vfp h ..

theorem BodyKeeps.vcvtBody (o) : BodyKeeps a (vcvtBody o) := by
  intro e s h
  simp only [Machine.vcvtBody]
  repeat' split
  · exact .illegal _
  · exact .illegal _
  · exact .vfp (h.drawIf ..) ..
  · exact .vfp (h.drawIf ..) ..
  · exact .vfp (h.drawIf ..) ..
  · exact .vfp (h.drawIf ..) ..
  · exact .illegal _
  · exact .vfp (h.drawIf ..) ..
  · exact .vfp (h.drawIf ..) ..
  · exact .vfp (h.drawIf ..) ..
  · exact .vfp (h.drawIf ..) ..
  · exact .vfp (h.drawIf ..) ..
  · exact .vfp (h.drawIf ..) ..
  · exact .vfp (h.drawIf ..) ..
  · exact .vfp (h.drawIf ..) ..
  · exact .illegal _
  · exact .vfp (h.drawIf ..) ..
  · exact .vfp (h.drawIf ..) ..
  · exact .vfp (h.drawIf ..) ..
  · exact .vfp (h.drawIf ..) ..
  · exact .vfp (h.drawIf ..) ..
  · exact .vfp (h.drawIf ..) ..
  · exact .vfp (h.drawIf ..) ..
  · exact .illegal _
  · exact .vfp (h.drawIf ..) ..
  · exact .vfp (h.drawIf ..) ..
  · exact .vfp (h.drawIf ..) ..
  · exact .vfp (h.drawIf ..) ..
  · exact .vfp (h.drawIf ..) ..
  · exact .vfp (h.drawIf ..) ..
  · exact .vfp (h.drawIf ..) ..
  · exact .vfp (h.drawIf ..) ..
  · exact .vfp (h.drawIf ..) ..
  · exact .vfp (h.drawIf ..) ..
  · exact .vfp (h.drawIf ..) ..
  · exact .vfp (h.drawIf ..) ..
  · exact .vfp (h.drawIf ..) ..
  · exact .vfp (h.drawIf ..) ..
  · exact .illegal _

theorem BodyKeeps.vactBody (o) : BodyKeeps a (vactBody o) := by
  intro e s h
  simp only [Machine.vactBody]
  split
  · exact .illegal _
  · exact .vfp (h.drawIf ..) ..

theorem BodyKeeps.vepxBody (o) : BodyKeeps a (vepxBody o) := by
  intro e s h
  simp only [Machine.vepxBody]
  repeat' split
  · exact .illegal _
  · exact .vfp (h.drawIf ..) ..
  · exact .vfp (h.drawIf ..) ..
  · exact .illegal _

theorem BodyKeeps.vtloadBody (o) : BodyKeeps a (vtloadBody o) := by
  intro e s h
  simp only [Machine.vtloadBody]
  repeat' split
  · exact .illegal _
  · exact .trap _
  · exact .trap _
  · exact .done (((h.readStore ..).vecInsn ..).modCore ..)

theorem BodyKeeps.vepcBody (o) : BodyKeeps a (vepcBody o) := by
  intro e s h
  simp only [Machine.vepcBody]
  exact .done ((h.vecInsn ..).modStrand ..)

theorem BodyKeeps.vfctlRBody (o) : BodyKeeps a (vfctlRBody o) := by
  intro e s h
  simp only [Machine.vfctlRBody]
  exact .done ((h.vecInsn ..).modStrand ..)

theorem BodyKeeps.vfctlWBody (o) : BodyKeeps a (vfctlWBody o) := by
  intro e s h
  simp only [Machine.vfctlWBody]
  exact .done ((h.vecInsn ..).modStrand ..)

theorem BodyKeeps.vfflagBody (clear o) : BodyKeeps a (vfflagBody clear o) := by
  intro e s h
  simp only [Machine.vfflagBody]
  exact .done ((h.vecInsn ..).modStrand ..)

theorem BodyKeeps.vrseedBody (o) : BodyKeeps a (vrseedBody o) := by
  intro e s h
  simp only [Machine.vrseedBody]
  exact .done ((h.vecInsn ..).modCore ..)

theorem BodyKeeps.vrctrBody (o) : BodyKeeps a (vrctrBody o) := by
  intro e s h
  simp only [Machine.vrctrBody]
  exact .done ((h.vecInsn ..).modCore ..)

theorem BodyKeeps.vrgetBody (v o) : BodyKeeps a (vrgetBody v o) := by
  intro e s h
  simp only [Machine.vrgetBody]
  exact .done ((h.vecInsn ..).modStrand ..)

/-- The instructions that a micro-op may hold keep what is kept (Table 5-6). -/
theorem BodyKeeps.of_bodyOf {i : Instr} {info : Info} {body : Env → State → Res} (e : bodyOf i = some (info, body)) : BodyKeeps a body :=
    by
  cases i with
  | add | sub | and | or | xor | shl | shr | sra | slt | sltu | min | max | minu | maxu | mul | mulh | mulhu | div
    | divu | rem | remu => cases e; exact .aluBody _ _
  | addi => cases e; exact .addiBody _
  | andi => cases e; exact .andiBody _
  | ori => cases e; exact .oriBody _
  | xori => cases e; exact .xoriBody _
  | shi => cases e; exact .shiBody _
  | lui => cases e; exact .luiBody _
  | cmpi => cases e; exact .cmpiBody _
  | waitl => cases e; exact .waitlBody _
  | waitm => cases e; exact .waitmBody _
  | csrr | csrra => cases e; exact .csrReadBody _ _ _
  | csrw | csrwa => cases e; exact .csrWriteBody _ _ _
  | ldl => cases e; exact .ldlBody _
  | stl => cases e; exact .stlBody _
  | ld => cases e; exact .ldBody _
  | st => cases e; exact .stBody _
  | pref => cases e; exact .prefBody _
  | prefS => cases e; exact .prefSBody _
  | cinv => cases e; exact .cinvBody _
  | cinvAll => cases e; exact .cinvAllBody _
  | aaddi => cases e; exact .aaddiBody _ _ _
  | amod => cases e; exact .amodBody _ _ _
  | amov => cases e; exact .amovBody _ _ _
  | aadd => cases e; exact .aaddBody _ _ _
  | sadd | saddP | stake | swatch | sset | sread | roll => cases e; exact .syncBody _ _
  | sendv | sendf | sendfG => cases e; exact .sendBody _ _
  | recvv => cases e; exact .recvvBody _
  | recvf => cases e; exact .recvfBody _
  | qrel => cases e; exact .qrelBody _
  | qpoll => cases e; exact .qpollBody _
  | vadd | vsub | vmul | vfma | vfms => cases e; exact .vfloatBody _ _
  | vneg | vabs | vrcpe | vrsqe => cases e; exact .vunaryBody _ _
  | vmin | vmax => cases e; exact .vpickBody _ _
  | vcmpEq | vcmpNe | vcmpLt | vcmpLe | vcmpUn => cases e; exact .vcmpBody _ _
  | vsel => cases e; exact .vselBody _
  | viadd | visub | viadds | visubs | vimul | vimin | vimax | vand | vor | vxor | vshl | vshrl | vshra => cases e; exact .vintBody _ _
  | vmov => cases e; exact .vmovBody _
  | vbcast => cases e; exact .vbcastBody _
  | vdup => cases e; exact .vdupBody _
  | vperm => cases e; exact .vpermBody _
  | vslide => cases e; exact .vslideBody _
  | vmovg => cases e; exact .vmovgBody _
  | vrsum => cases e; exact .vrsumBody _
  | vrmax | vrmin => cases e; exact .vrpickBody _ _
  | vrssq | vrssqA => cases e; exact .vrssqBody _ _
  | vmom | vmomA => cases e; exact .vmomBody _ _
  | vmmrg => cases e; exact .vmmrgBody _
  | vmred => cases e; exact .vmredBody _
  | vmvar => cases e; exact .vmvarBody _
  | vact => cases e; exact .vactBody _
  | vtload => cases e; exact .vtloadBody _
  | vepc => cases e; exact .vepcBody _
  | vfctlR => cases e; exact .vfctlRBody _
  | vfctlW => cases e; exact .vfctlWBody _
  | vfflag | vfflagC => cases e; exact .vfflagBody _ _
  | vrseed => cases e; exact .vrseedBody _
  | vrctr => cases e; exact .vrctrBody _
  | vrgetS | vrgetC => cases e; exact .vrgetBody _ _
  | vcvt => cases e; exact .vcvtBody _
  | vepx => cases e; exact .vepxBody _
  | mma | mmaG => cases e; exact .mmaBody _ _
  | mdrain | mdrainG => cases e; exact .drainBody _ _
  | _ => cases e

/-- Each of them is issued with its meaning when a strand holds it itself. -/
theorem exec_issue {i : Instr} {info : Info} {body : Env → State → Res} (e : bodyOf i = some (info, body)) (s : State) :
    ∃ w, exec i s = .next (issue w info body s) := by
  cases i <;> cases e <;> exact ⟨_, rfl⟩

theorem Keeps.microIssue (h : Keeps false a s) (k i n w) : Keeps false a (s.microIssue k i n w) := by
  simp only [State.microIssue]
  repeat' split
  · exact h
  · exact h.settle (.illegal _) _ _
  · exact h.settle (.illegal _) _ _
  · exact h.settle (.illegal _) _ _
  · next found _ =>
    obtain ⟨i, -, e⟩ := Option.bind_eq_some_iff.1 found
    exact h.settle (BodyKeeps.of_bodyOf e _ _ h) _ _

theorem BodyKeeps.customBody (w o) : BodyKeeps a (customBody w o) := by
  intro e s h
  simp only [Machine.customBody]
  repeat' split
  · exact .illegal _
  · exact .privileged _
  · exact .settled ((h.modStrand ..).microIssue ..)

theorem Keeps.microOp (h : Keeps false a s) (w) : Keeps false a (s.microOp w) := by
  simp only [State.microOp]
  exact Keeps.ite h ((h.atSlot ..).microIssue ..)

end Sys2Proof.Machine
end

section
/-! SUPPORT. What reset, boot, bring-up, sensors and the test access port keep (R466 to R510). -/

namespace Sys2Proof.Machine
variable {a s : State}

theorem Keeps.modPhys (h : Keeps false a s) (f) : Keeps false a (s.modPhys f) := by
  simp only [State.modPhys, State.mk_eq_withRest]
  exact h.withRest ..

theorem Keeps.i3cUpdate (h : Keeps false a s) : Keeps false a s.i3cUpdate := by
  simp only [State.i3cUpdate]
  exact h.modPhys ..

/-- At reset every map is empty but memory, which stays. -/
theorem Keeps.enterReset (h : Keeps false a s) : Keeps false a s.enterReset := by
  simp only [State.enterReset]
  refine Keeps.foldl ?_ (fun _ _ h => h.setRf ..) _
  refine ⟨⟨h.kept.queue, fun w => ?_⟩, nofun⟩
  obtain ⟨mem, -⟩ := State.wf_iff.1 (h.kept.form w)
  exact State.wf_iff.2 ⟨mem, rfl, rfl, rfl, rfl, rfl⟩

theorem Keeps.recordFault (h : Keeps false a s) (cause) : Keeps false a (s.recordFault cause) := by
  simp only [State.recordFault]
  exact ((Keeps.ite (h.setRf ..) h).setRf ..).modPhys ..

theorem Keeps.clearFault (h : Keeps false a s) : Keeps false a s.clearFault := by
  simp only [State.clearFault]
  exact h.setReg ..

theorem Keeps.powerRise (h : Keeps false a s) : Keeps false a s.powerRise := by
  simp only [State.powerRise]
  exact Keeps.ite h (h.clearFault.modPhys ..).i3cUpdate

theorem Keeps.powerFall (h : Keeps false a s) : Keeps false a s.powerFall := by
  simp only [State.powerFall]
  exact Keeps.ite h (h.enterReset.clearFault.modPhys ..)

theorem Keeps.resetFall (h : Keeps false a s) : Keeps false a s.resetFall := by
  simp only [State.resetFall]
  exact (h.enterReset.modPhys ..).i3cUpdate

theorem Keeps.resetRise (h : Keeps false a s) : Keeps false a s.resetRise := by
  simp only [State.resetRise]
  exact h.modPhys ..

theorem Keeps.settleClocks (h : Keeps false a s) : Keeps false a s.settleClocks := by
  simp only [State.settleClocks]
  exact ((((((h.setRf ..).setRf ..).setRf ..).setRf ..).bump ..).setRf ..).setRf ..

theorem Keeps.settleAlert (h : Keeps false a s) : Keeps false a s.settleAlert := by
  simp only [State.settleAlert]
  exact ((h.setRf ..).modPhys ..).i3cUpdate

theorem Keeps.trip (h : Keeps false a s) (cause) : Keeps false a (s.trip cause) := by
  simp only [State.trip]
  exact ((((h.setRf ..).recordFault ..).enterReset.foldl (fun _ _ h => h.setReg ..) _).setReg ..).modPhys ..

theorem Keeps.sampleSensors (h : Keeps false a s) (temps) : Keeps false a (s.sampleSensors temps) := by
  simp only [State.sampleSensors]
  exact Keeps.ite h (Keeps.ite ((((h.foldl (fun _ _ h => (h.setRf ..).setRf ..) _).setRf ..).setRf ..).trip ..)
    (((h.foldl (fun _ _ h => (h.setRf ..).setRf ..) _).setRf ..).setRf ..)).settleAlert

theorem Keeps.stackRead (h : Keeps false a s) (n temp) : Keeps false a (s.stackRead n temp) := by
  simp only [State.stackRead]
  exact Keeps.ite h (Keeps.ite (((((h.setRf ..).setRf ..).setRf ..).modPhys ..).trip ..)
    ((((h.setRf ..).setRf ..).setRf ..).modPhys ..)).settleAlert

theorem Keeps.thermal (h : Keeps false a s) : Keeps false a s.thermal := by
  simp only [State.thermal]
  exact Keeps.ite h (h.foldl (fun _ _ h => h.modPhys ..) _).settleClocks.settleAlert

theorem Keeps.powerEval (h : Keeps false a s) (watts) : Keeps false a (s.powerEval watts) := by
  simp only [State.powerEval]
  exact Keeps.ite h ((((h.fresh.setRf ..).setRf ..).bump ..).modPhys ..).settleClocks.settleAlert

theorem Keeps.faultReset (h : Keeps false a s) (cause) : Keeps false a (s.faultReset cause) := by
  simp only [State.faultReset]
  exact Keeps.ite h (h.recordFault ..).enterReset.i3cUpdate

theorem Keeps.fromFlash (h : Keeps false a s) (l) : Keeps false a (s.fromFlash l) := by
  simp only [State.fromFlash]
  exact h.foldl (fun _ _ h => h.foldl (fun _ _ h => h.setRf ..) _) _

theorem Keeps.coresLive (h : Keeps false a s) : Keeps false a s.coresLive := by
  simp only [State.coresLive]
  exact (h.foldl (fun _ _ h => h.setRf ..) _).foldl (fun _ _ h => Keeps.ite (h.setClu ..) h) _

theorem Keeps.startFirmware (h : Keeps false a s) : Keeps false a s.startFirmware := by
  simp only [State.startFirmware]
  exact Keeps.ite ((((h.measure ..).measure ..).fromFlash ..).coresLive.setRf ..) (((h.measure ..).measure ..).fromFlash ..).coresLive

theorem Keeps.boot (h : Keeps false a s) (slotA slotB) : Keeps false a (s.boot slotA slotB) := by
  simp only [State.boot]
  repeat' split
  · exact h
  · exact ((((((h.modPhys ..).modSec ..).settleClocks.setRf ..).measure ..).measure ..).modSec ..).startFirmware
  · exact ((((h.modPhys ..).modSec ..).settleClocks.setRf ..).recordFault ..).i3cUpdate

theorem Keeps.setStage (h : Keeps false a s) (n) : Keeps false a (s.setStage n) := by
  simp only [State.setStage]
  exact (h.setRf ..).event ..

theorem Keeps.stageHost (h : Keeps false a s) : Keeps false a s.stageHost := by
  simp only [State.stageHost]
  exact Keeps.ite (h.setStage ..) h

theorem Keeps.stackTrained (h : Keeps false a s) (n) : Keeps false a (s.stackTrained n) := by
  simp only [State.stackTrained, State.mk_eq_withRest]
  exact Keeps.ite h ((((h.zeroRange ..).withRest ..).setRf ..).setRf ..)

theorem Keeps.reducedService (h : Keeps false a s) : Keeps false a s.reducedService := by
  simp only [State.reducedService]
  exact Keeps.ite h ((((h.foldl (fun _ _ h => Keeps.ite (h.setRf ..) h) _).fromFlash ..).foldl
    (fun _ _ h => Keeps.ite ((h.setRf ..).trailEnable ..) ((h.setRf ..).trailDisable ..)) _).settleClocks.setStage ..)

theorem Keeps.trainingDeadline (h : Keeps false a s) : Keeps false a s.trainingDeadline := by
  simp only [State.trainingDeadline]
  exact Keeps.ite (h.foldl (fun _ _ h => Keeps.ite h (h.setRf ..)) _) h

theorem Keeps.placeTags (h : Keeps false a s) : Keeps false a s.placeTags := by
  simp only [State.placeTags]
  split
  · exact (h.allocFrom ..).of_snd ‹_›
  · exact (((((h.allocFrom ..).of_snd ‹_›).zeroRange ..).setRf ..).setRf ..).newMirror

theorem Keeps.channelsTrained (h : Keeps false a s) : Keeps false a s.channelsTrained := by
  simp only [State.channelsTrained]
  exact h.foldl (fun _ _ h => (h.foldl (fun _ _ h => h.setRf ..) _).setRf ..) _

theorem Keeps.fullService (h : Keeps false a s) : Keeps false a s.fullService := by
  simp only [State.fullService]
  exact Keeps.ite h ((h.channelsTrained.placeTags.foldl (fun _ _ h => h.setRf ..) _).settleClocks.setStage ..)

theorem Keeps.i3cWrite (h : Keeps false a s) (y) : Keeps false a (s.i3cWrite y) := by
  simp only [State.i3cWrite]
  repeat' split
  · exact h.modPhys ..
  · exact h
  · exact h

theorem Keeps.i3cRead (h : Keeps false a s) (len) : Keeps false a (s.i3cRead len) := by
  simp only [State.i3cRead]
  exact Keeps.ite h (h.modPhys ..)

theorem Keeps.scanWith (h : Keeps false a s) (i capture scan) : Keeps false a (s.scanWith i capture scan) := by
  simp only [State.scanWith]
  exact h.modPhys ..

theorem Keeps.bypass (h : Keeps false a s) (tdi) : Keeps false a (s.bypass tdi) := by
  simp only [State.bypass]
  exact h.modPhys ..

theorem Keeps.internalDebug (h : Keeps false a s) (n) : Keeps false a (s.internalDebug n) := by
  simp only [State.internalDebug]
  repeat' split
  · exact h.bypass ..
  · exact h.fresh.modPhys ..
  · exact h.modPhys ..
  · exact h.modPhys ..

end Sys2Proof.Machine
end

section
/-! PROOF. Every command answers a next state, and keeps the maps' form and the queue. -/

namespace Sys2Proof.Machine
variable {a s : State}

/-- A command answers a next state that keeps what is kept. -/
def Goes (i : Instr) (s : State) : Prop := ∃ t, exec i s = .next t ∧ Keeps false s t

theorem goes_of_bodyOf {i : Instr} {info : Info} {body : Env → State → Res} (e : bodyOf i = some (info, body)) (s : State) : Goes i s :=
    by
  obtain ⟨w, e1⟩ := exec_issue e s
  exact ⟨_, e1, Keeps.issue (.of_bodyOf e) (.refl false s) _ _⟩

theorem goes_of_kilperCmd {i : Instr} {hd : KHdr} {c : Cmd} (e : kilperCmd i = some (hd, c)) (s : State) : Goes i s :=
  ⟨_, exec_perform e s, Keeps.perform (.refl false s) (.of_kilperCmd e) _ _⟩

/-- Every command does: an arm for each, by the lemma about what it does. -/
theorem goes (i : Instr) (s : State) : Goes i s := by
  have h := Keeps.refl false s
  cases i with
  | add | sub | and | or | xor | shl | shr | sra | slt | sltu | min | max | minu | maxu | mul | mulh | mulhu | div | divu | rem
    | remu | addi | andi | ori | xori | shi | lui | cmpi | waitl | waitm | csrr | csrw | csrra | csrwa | ldl | stl | ld | st
    | pref | prefS | cinv | cinvAll | aaddi | amod | amov | aadd | sadd | saddP | stake | swatch | sset | sread | roll | sendv
    | sendf | sendfG | recvv | recvf | qrel | qpoll | vadd | vsub | vmul | vfma | vfms | vneg | vabs | vmin | vmax | vrcpe
    | vrsqe | vcmpEq | vcmpNe | vcmpLt | vcmpLe | vcmpUn | vsel | viadd | visub | viadds | visubs | vimul | vimin | vimax
    | vand | vor | vxor | vshl | vshrl | vshra | vmov | vbcast | vdup | vperm | vslide | vmovg | vrsum | vrmax | vrmin | vrssq
    | vrssqA | vmom | vmomA | vmmrg | vmred | vmvar | vact | vtload | vepc | vfctlR | vfctlW | vfflag | vfflagC | vrseed
    | vrctr | vrgetS | vrgetC | vcvt | vepx | mma | mmaG | mdrain | mdrainG => exact goes_of_bodyOf rfl s
  | hello | sessionOpen | sessionClose | queryInfo | queryHealth | memWrite | memRead | memFill | scrub | partCreate
    | partDestroy | mapPages | unmapPages | loadProgram | loadRoutes | loadMicrocode | launchStart | launchWake | signalAdd
    | signalSet | waitCounterWatch | waitCounterTake | waypointTake | waypointRestore | clusterReset | coreRetire | timeStatus
    | scheduleList | scheduleCancel | attest | keyInstallDdr5 | keyInstallMacsecTx | keyInstallMacsecRx | keyRetireDdr5
    | keyRetireMacsec | fwStage | fwActivate | lifecycleProvisioned | lifecycleField | lifecycleReturn | debugHalt | debugRead
    | debugWrite | traceConfig | perfRead | linkConfig | windowOpen | windowClose => exact goes_of_kilperCmd rfl s
  | jr => exact ⟨_, rfl, h.issue (.jumpRegBody _ _) _ _⟩
  | jalr => exact ⟨_, rfl, h.issue (.jumpRegBody _ _) _ _⟩
  | bc => exact ⟨_, rfl, h.issue (.bcBody _ _) _ _⟩
  | jal => exact ⟨_, rfl, h.issue (.jalBody _ _) _ _⟩
  | loop => exact ⟨_, rfl, h.issue (.loopBody _) _ _⟩
  | xret => exact ⟨_, rfl, h.issue .xretBody _ _⟩
  | rstop => exact ⟨_, rfl, h.issue .rstopBody _ _⟩
  | rkst => exact ⟨_, rfl, h.issue (.rkstBody _) _ _⟩
  | rkld => exact ⟨_, rfl, h.issue (.rkldBody _) _ _⟩
  | sexit => exact ⟨_, rfl, h.issue .sexitBody _ _⟩
  | dpick => exact ⟨_, rfl, h.issue (.dpickBody _) _ _⟩
  | sendAccept => exact ⟨_, rfl, h.retrySend ..⟩
  | tload => exact ⟨_, rfl, h.issue (.tileBody _ _) _ _⟩
  | tstore => exact ⟨_, rfl, h.issue (.tileBody _ _) _ _⟩
  | tileRow => exact ⟨_, rfl, h.tileRow ..⟩
  | runTransfer => exact ⟨_, rfl, h.runTransfer ..⟩
  | matrixComplete => exact ⟨_, rfl, h.matrixComplete ..⟩
  | custom => exact ⟨_, rfl, h.issue (.customBody _ _) _ _⟩
  | microOp => exact ⟨_, rfl, h.microOp ..⟩
  | loadComplete => exact ⟨_, rfl, h.completeLoad (fun _ _ h => h.coreRegLoad ..) ..⟩
  | lineFill => exact ⟨_, rfl, h.lineFill ..⟩
  | instructionFill => exact ⟨_, rfl, h.instructionFill ..⟩
  | storeQueueSend => exact ⟨_, rfl, h.storeQueueSend ..⟩
  | signalFenceRelease => exact ⟨_, rfl, h.fenceRelease ..⟩
  | pageWalkEnd => exact ⟨_, rfl, h.pageWalkEnd ..⟩
  | exceptionEntry => exact ⟨_, rfl, h.exceptionEntry ..⟩
  | restStopEntry => exact ⟨_, rfl, h.restStopEntry ..⟩
  | timerInterrupt => exact ⟨_, rfl, h.timerInterrupt ..⟩
  | xirqSet => exact ⟨_, rfl, h.xirqSet ..⟩
  | resumeGo => exact ⟨_, rfl, h.resumeGo ..⟩
  | vfpCtlWrite => exact ⟨_, rfl, h.vfpCtlWrite ..⟩
  | bankEnable => exact ⟨_, rfl, h.bankEnable ..⟩
  | bankDisable => exact ⟨_, rfl, h.bankDisable ..⟩
  | bankStopping => exact ⟨_, rfl, h.bankStopping ..⟩
  | bankOff => exact ⟨_, rfl, h.bankOff ..⟩
  | bankOn => exact ⟨_, rfl, h.bankOn ..⟩
  | dinv => exact ⟨_, rfl, h.dinv ..⟩
  | iinv => exact ⟨_, rfl, h.iinv ..⟩
  | ucDecWrite => exact ⟨_, rfl, h.ucDecWrite ..⟩
  | queueTableWrite => exact ⟨_, rfl, h.queueTableWrite ..⟩
  | mmuInvAll => exact ⟨_, rfl, h.mmuInvalidate ..⟩
  | mmuInvVa => exact ⟨_, rfl, h.mmuInvalidate ..⟩
  | invalidationDone => exact ⟨_, rfl, h.invalidationDone ..⟩
  | fqRetry => exact ⟨_, rfl, h.fqAnswer ..⟩
  | fqReject => exact ⟨_, rfl, h.fqAnswer ..⟩
  | synValWrite => exact ⟨_, rfl, h.synValWrite ..⟩
  | shomeWrite => exact ⟨_, rfl, h.shomeWrite ..⟩
  | channelEnable => exact ⟨_, rfl, h.channelEnable ..⟩
  | channelDisable => exact ⟨_, rfl, h.channelDisable ..⟩
  | channelOn => exact ⟨_, rfl, h.channelOn ..⟩
  | channelOff => exact ⟨_, rfl, h.channelOff ..⟩
  | dmaGo => exact ⟨_, rfl, h.dmaGo ..⟩
  | descriptorRead => exact ⟨_, rfl, h.descriptorRead ..⟩
  | burstStart => exact ⟨_, rfl, h.burstStart ..⟩
  | burstComplete => exact ⟨_, rfl, h.burstComplete ..⟩
  | descriptorBad => exact ⟨_, rfl, h.descriptorBad ..⟩
  | chkInit => exact ⟨_, rfl, h.chkInit ..⟩
  | routerArrival => exact ⟨_, rfl, h.routerArrival ..⟩
  | rd => exact ⟨_, rfl, h.serveRd ..⟩
  | wr => exact ⟨_, rfl, h.serveWr ..⟩
  | amoAdd => exact ⟨_, rfl, h.amoAdd ..⟩
  | amoSet => exact ⟨_, rfl, h.amoSet ..⟩
  | amoTake => exact ⟨_, rfl, h.amoWait ..⟩
  | amoWatch => exact ⟨_, rfl, h.amoWait ..⟩
  | amoRead => exact ⟨_, rfl, h.amoRead ..⟩
  | amoCancel => exact ⟨_, rfl, h.amoCancel ..⟩
  | amoDpick => exact ⟨_, rfl, h.amoDpick ..⟩
  | sigAdd => exact ⟨_, rfl, h.sigServe ..⟩
  | sigSet => exact ⟨_, rfl, h.sigServe ..⟩
  | tok => exact ⟨_, rfl, h.tokServe ..⟩
  | msg => exact ⟨_, rfl, h.servePacket (fun _ _ _ h => h.msgAtTap ..) (fun _ _ _ h => h.egress ..) (fun _ _ h => h.mailbox ..) ..⟩
  | htl => exact ⟨_, rfl, h.servePacket (fun _ _ _ h => h.htlAtTap ..) (fun _ _ _ h => h.dropTrail ..) (fun _ _ h => h) ..⟩
  | hamperFetch => exact ⟨_, rfl, h.hamperFetch ..⟩
  | rdr => exact ⟨_, rfl, h.serveAnswer ..⟩
  | wrr => exact ⟨_, rfl, h.serveAnswer ..⟩
  | err => exact ⟨_, rfl, h.serveAnswer ..⟩
  | crd => exact ⟨_, rfl, h.servePacket (fun _ _ _ h => h.crdAtTap ..) (fun _ _ _ h => h.creditOut ..) (fun _ _ h => h) ..⟩
  | rls => exact ⟨_, rfl, h.servePacket (fun _ _ _ h => h.rlsAtTap ..) (fun _ _ _ h => h.creditOut ..) (fun _ _ h => h) ..⟩
  | red => exact ⟨_, rfl, h.servePacket (fun _ _ _ h => h.redAtTap ..) (fun _ _ _ h => h.egress ..) (fun _ _ h => h) ..⟩
  | patrolPass => exact ⟨_, rfl, h.patrolPass ..⟩
  | hbmScrubGo => exact ⟨_, rfl, h.scrubGo ..⟩
  | ddrScrubGo => exact ⟨_, rfl, h.scrubGo ..⟩
  | scrubComplete => exact ⟨_, rfl, h.scrubComplete ..⟩
  | ddrMoveGo => exact ⟨_, rfl, h.moveGo ..⟩
  | moveComplete => exact ⟨_, rfl, h.moveEnd ..⟩
  | tagAssign => exact ⟨_, rfl, h.tagGo ..⟩
  | tagRelease => exact ⟨_, rfl, h.tagGo ..⟩
  | tagCommandDone => exact ⟨_, rfl, Keeps.ite (h.setRf ..) h⟩
  | rekeyGo => exact ⟨_, rfl, h.rekeyGo ..⟩
  | rekeyPage => exact ⟨_, rfl, h.rekeyPage ..⟩
  | keySlotRetire => exact ⟨_, rfl, h.retireSlot ..⟩
  | tieringMoveOut => exact ⟨_, rfl, h.moveOut ..⟩
  | pageBringBack => exact ⟨_, rfl, h.pageBack ..⟩
  | pageRetirement => exact ⟨_, rfl, h.retirePage ..⟩
  | trailPortEnable => exact ⟨_, rfl, h.trailEnable ..⟩
  | trailPortDisable => exact ⟨_, rfl, h.trailDisable ..⟩
  | trailPortStarted => exact ⟨_, rfl, h.trailStarted ..⟩
  | trailPortStopped => exact ⟨_, rfl, h.trailStopped ..⟩
  | trainingAttempt => exact ⟨_, rfl, h.trainingAttempt ..⟩
  | trainingDone => exact ⟨_, rfl, h.trainingDone ..⟩
  | linkDown => exact ⟨_, rfl, Keeps.ite (h.linkDown ..) h⟩
  | linkSilence => exact ⟨_, rfl, Keeps.ite (h.linkDown ..) h⟩
  | laneFailure => exact ⟨_, rfl, h.laneFailure ..⟩
  | retrainDone => exact ⟨_, rfl, h.retrainDone ..⟩
  | flitSend => exact ⟨_, rfl, h.flitSend ..⟩
  | dataFlit => exact ⟨_, rfl, h.flitIn ..⟩
  | idleFlit => exact ⟨_, rfl, h.flitIn ..⟩
  | retryRequest => exact ⟨_, rfl, h.flitIn ..⟩
  | endOfLink => exact ⟨_, rfl, Keeps.ite (h.linkDown ..) h⟩
  | trailWr => exact ⟨_, rfl, h.takeTrail (fun _ _ h => h.remoteRequest ..) ..⟩
  | trailRd => exact ⟨_, rfl, h.takeTrail (fun _ _ h => h.remoteRequest ..) ..⟩
  | trailSig => exact ⟨_, rfl, h.takeTrail (fun _ _ h => h.remoteRequest ..) ..⟩
  | trailMsg => exact ⟨_, rfl, h.takeTrail (fun _ _ h => h.ingress ..) ..⟩
  | trailRdr => exact ⟨_, rfl, h.takeTrail (fun _ _ h => h.remoteAnswer ..) ..⟩
  | wack => exact ⟨_, rfl, h.takeTrail (fun _ _ h => h.remoteAnswer ..) ..⟩
  | nak => exact ⟨_, rfl, h.takeTrail (fun _ _ h => h.remoteAnswer ..) ..⟩
  | trailCrd => exact ⟨_, rfl, h.takeTrail (fun _ _ h => h.creditIn ..) ..⟩
  | trailRls => exact ⟨_, rfl, h.takeTrail (fun _ _ h => h.creditIn ..) ..⟩
  | trailRed => exact ⟨_, rfl, h.takeTrail (fun _ _ h => h.ingress ..) ..⟩
  | trailTok => exact ⟨_, rfl, h.takeTrail (fun _ _ h => h.remoteRequest ..) ..⟩
  | hostPortEnable => exact ⟨_, rfl, h.hostEnable⟩
  | hostPortDisable => exact ⟨_, rfl, h.hostDisable⟩
  | hostPortStarted => exact ⟨_, rfl, h.hostStarted⟩
  | hostPortStopped => exact ⟨_, rfl, h.hostStopped⟩
  | hostTrainingRetry => exact ⟨_, rfl, h.hostRetry⟩
  | hostLinkUp => exact ⟨_, rfl, h.hostUp⟩
  | hostFrame => exact ⟨_, rfl, h.frameIn ..⟩
  | acknowledgement => exact ⟨_, rfl, h.ackTimer ..⟩
  | kilperRetransmit => exact ⟨_, rfl, h.retransmit ..⟩
  | keepExpiry => exact ⟨_, rfl, h.keepExpiry ..⟩
  | scheduledStart => exact ⟨_, rfl, h.startSched ..⟩
  | waitCounterTimeout => exact ⟨_, rfl, h.waitTimeout ..⟩
  | clusterStopTimeout => exact ⟨_, rfl, h.stopTimeout ..⟩
  | clusterOn => exact ⟨_, rfl, h.clusterOn ..⟩
  | spdmSessionTimeout => exact ⟨_, rfl, Keeps.ite (h.endSpdm (fun _ _ h => h) ..) h⟩
  | handOver => exact ⟨_, rfl, h.handOver⟩
  | imageCommit => exact ⟨_, rfl, h.imageCommit⟩
  | deadlineExpiry => exact ⟨_, rfl, h.rollback⟩
  | firmwareWatchdog => exact ⟨_, rfl, h.watchdog⟩
  | ppsInEdge => exact ⟨_, rfl, Keeps.ite h.ppsEdge h⟩
  | sampleTimeout => exact ⟨_, rfl, h.sampleTimeout⟩
  | ppsOutRise => exact ⟨_, rfl, Keeps.ite (h.withRest ..) h⟩
  | ppsOutFall => exact ⟨_, rfl, h.withRest ..⟩
  | timeNowRead => exact ⟨_, rfl, h.latchTime ..⟩
  | alarmFire => exact ⟨_, rfl, h.fireAlarm ..⟩
  | waypointCapture => exact ⟨_, rfl, h.dueCapture ..⟩
  | captureAbandon => exact ⟨_, rfl, h.abandonCapture ..⟩
  | captureDrained => exact ⟨_, rfl, h.finishStop ..⟩
  | waypointLocal => exact ⟨_, rfl, h.commitLocal ..⟩
  | waypointMirrored => exact ⟨_, rfl, h.mirrored ..⟩
  | failureRecovery => exact ⟨_, rfl, h.recover ..⟩
  | stackFailure => exact ⟨_, rfl, h.stackFails ..⟩
  | pwrGoodRise => exact ⟨_, rfl, h.powerRise⟩
  | pwrGoodFall => exact ⟨_, rfl, h.powerFall⟩
  | resetNFall => exact ⟨_, rfl, h.resetFall⟩
  | resetNRise => exact ⟨_, rfl, h.resetRise⟩
  | resetEnd => exact ⟨_, rfl, h.boot ..⟩
  | stageHostPort => exact ⟨_, rfl, h.stageHost⟩
  | reducedService => exact ⟨_, rfl, h.reducedService⟩
  | fullService => exact ⟨_, rfl, h.fullService⟩
  | trainingDeadline => exact ⟨_, rfl, h.trainingDeadline⟩
  | stackTrained => exact ⟨_, rfl, h.stackTrained ..⟩
  | sensorSample => exact ⟨_, rfl, h.sampleSensors ..⟩
  | hbmTempRead => exact ⟨_, rfl, h.stackRead ..⟩
  | thermalEvaluation => exact ⟨_, rfl, h.thermal⟩
  | powerEvaluation => exact ⟨_, rfl, h.powerEval ..⟩
  | railFault => exact ⟨_, rfl, h.faultReset ..⟩
  | refclkLoss => exact ⟨_, rfl, h.faultReset ..⟩
  | hstrefLoss => exact ⟨_, rfl, h.hostDown⟩
  | trlrefLoss => exact ⟨_, rfl, h.foldl (fun _ _ h => h.linkDown ..) _⟩
  | i3cPrivateWrite => exact ⟨_, rfl, h.i3cWrite ..⟩
  | i3cPrivateRead => exact ⟨_, rfl, h.i3cRead ..⟩
  | setdasa => exact ⟨_, rfl, Keeps.ite (h.modPhys ..) h⟩
  | enec => exact ⟨_, rfl, Keeps.ite (h.modPhys ..) h⟩
  | tapReset => exact ⟨_, rfl, h.modPhys ..⟩
  | bypass => exact ⟨_, rfl, h.bypass ..⟩
  | samplePreload => exact ⟨_, rfl, h.scanWith ..⟩
  | extest => exact ⟨_, rfl, h.scanWith ..⟩
  | clamp => exact ⟨_, rfl, h.modPhys ..⟩
  | highz => exact ⟨_, rfl, h.modPhys ..⟩
  | extestPulse => exact ⟨_, rfl, h.scanWith ..⟩
  | extestTrain => exact ⟨_, rfl, h.scanWith ..⟩
  | internalDebug => exact ⟨_, rfl, h.internalDebug ..⟩
  | registerWrite => exact ⟨_, rfl, h.regStore ..⟩
  | hostLinkDown => exact ⟨_, rfl, h.hostDown⟩
  | sendStalled =>
    simp only [Goes, exec, execSendStalled]
    split
    · exact ⟨_, rfl, h⟩
    · exact ⟨_, rfl, h.retrySend ..⟩

/-- Settles O59: each instruction's body, each command of the host and each event of the hardware is built of operations that keep the
maps' form and the queue. -/
theorem everyCommandKeepsTheCanonicalForm : Obligations.EveryCommandKeepsTheCanonicalForm := by
  unfold Obligations.EveryCommandKeepsTheCanonicalForm
  intro c s
  obtain ⟨t, next, same⟩ := goes c s
  exact ⟨t, next, same.kept.queue, same.kept.form⟩

end Sys2Proof.Machine
end

section
/-! PROOF. The engines of the external memories: patrol, scrub, mover, key tags, re-keying and key slots (R311 to R329). -/

namespace Sys2Proof.Machine

/-- What a page holds once it has received zeros, and what stays: every other byte, and other pages' poison. -/
theorem zeroPage_zeroes {s : State} (wf : s.wf = true) (pg : Nat) :
    (∀ i, i < 65536 → (s.zeroPage pg).byte (pg * 65536 + i) = 0) ∧ (∀ a, a / 65536 ≠ pg → (s.zeroPage pg).byte a = s.byte a)
      ∧ ∀ v ∈ (s.zeroPage pg).ext.poison, v / 1024 ≠ pg ∧ v ∈ s.ext.poison := by
  have bytes (a : Nat) : (s.zeroPage pg).byte a = (s.zeroRange (pg * 65536) 65536).byte a := by
    simp only [State.zeroPage]
    split <;> rfl
  have poison : (s.zeroPage pg).ext.poison = s.ext.poison.filter fun u => u / 1024 != pg := by
    simp only [State.zeroPage]
    split <;> rfl
  refine ⟨fun i hi => ?_, fun a ha => ?_, fun v hv => ?_⟩
  · rw [bytes, State.byte_zeroRange wf, if_pos (by omega)]
    rfl
  · rw [bytes, State.byte_zeroRange wf, if_neg (by omega)]
  · rw [poison, List.mem_filter] at hv
    exact ⟨by simpa using hv.2, hv.1⟩

/-- A scrub that ends where no page waits for it and nothing of a partition or command is left. -/
theorem scrubComplete_alone {s t : State} {m : ExtMem} {id : Nat} (ended : s.scrubEnd m = some (id, t))
    (free : ∀ e ∈ t.ext.owned, e.2 ≠ 65536 + id) (parts : t.parts = []) (pending : t.host.pending = []) :
    s.scrubComplete m = t.settleDestroy := by
  have none_owned : t.ext.owned.filter (·.2 == 65536 + id) = [] := List.filter_eq_nil_iff.2 fun e he => by simpa using free e he
  have same : { t with parts := ([] : List Partition), host := { t.host with pending := [] } } = t := by rw [← parts, ← pending]
  simp only [State.scrubComplete, ended, none_owned, List.map_nil, State.freePages, List.foldl_nil, State.modHost, parts, pending,
    List.filter_nil]
  exact congrArg State.settleDestroy same

/-- Settles O41, engine by engine: a pass, a write of GO in each of its cases, and the end of a job. -/
theorem scrubsMovesAndPatrol : Obligations.ScrubsMovesAndPatrol := by
  unfold Obligations.ScrubsMovesAndPatrol
  refine ⟨fun m ecc s live => ?_, fun n first count s => ?_, fun m s => ⟨fun none_ => ?_, fun id t ended free parts pending => ?_⟩,
    fun pg s wf _ => zeroPage_zeroes wf pg, fun n hpage dpage toHbm s hn => ?_, fun j s t found => ?_⟩
  · cases m <;> simp only [exec, execPatrolPass, State.patrolPass, live, Bool.not_true, Bool.false_eq_true, if_false]
  · intro job given
    have given_busy (m : ExtMem) : (given m).scrubBusy m = s.scrubBusy m := by cases m <;> rfl
    refine ⟨fun hn idle => ?_, fun hn idle fits => ?_, fun hn idle beyond => ?_⟩
    · have run : (s.addScrub (.hbm n) first count).2 = ((given (.hbm n)).setScrub (.hbm n) first count true).setScrubDone (.hbm n) 0 :=
        if_neg (by rw [given_busy, idle]; exact Bool.false_ne_true)
      simp only [exec, execHbmScrubGo, State.scrubGo, hn, decide_true, Bool.not_true, idle, Bool.false_eq_true, if_false, run]
    · have run : (s.addScrub (.ddr n) first count).2 = ((given (.ddr n)).setScrub (.ddr n) first count true).setScrubDone (.ddr n) 0 :=
        if_neg (by rw [given_busy, idle]; exact Bool.false_ne_true)
      simp only [exec, execDdrScrubGo, State.scrubGo, hn, decide_true, Bool.not_true, idle, Bool.false_eq_true, if_false, run]
      rw [if_neg (by omega)]
    · simp only [exec, execDdrScrubGo, State.scrubGo, hn, decide_true, Bool.not_true, idle, Bool.false_eq_true, if_false]
      rw [if_pos (by omega)]
  · simp only [exec, execScrubComplete, State.scrubComplete, none_]
  · exact congrArg Host.Outcome.next (scrubComplete_alone ended free parts pending)
  · intro a t idle
    have go : exec (.ddrMoveGo n hpage dpage toHbm) s = .next (if 2 ^ 23 ≤ dpage ∨ 2 ^ 25 ≤ hpage then t.setRf a Reg.DDR_MOVE.ERR 1
        else { t.setRf a Reg.DDR_MOVE.BUSY 1 with ext := { s.ext with moves := s.ext.moves ++ [⟨n, hpage, dpage, toHbm⟩] } }) := by
      simp only [exec, execDdrMoveGo, State.moveGo]
      rw [if_neg (by omega), if_neg (by rw [idle]; exact Bool.false_ne_true)]
      rfl
    refine ⟨fun hd hh => ?_, fun beyond => ?_⟩
    · rw [go, if_neg (by omega)]
    · rw [go, if_pos (by omega)]
  · intro d src dst tag there hthere asides
    have bad : ¬((s.pageSlot d).isNone ∨ !s.pageThere d ∨ !s.pageThere j.hpage) := by simp [Option.isSome_iff_ne_none.1 tag, there, hthere]
    have at_ : 2 ^ 32 + j.n * 2 ^ 23 + j.dpage = d := rfl
    simp only [exec, execMoveComplete, State.moveEnd, found, at_]
    rw [if_neg bad]
    cases h : j.toHbm <;> simp only [h, if_true, Bool.false_eq_true, if_false, dst] at asides <;>
      simp only [h, if_true, Bool.false_eq_true, if_false, asides, src, dst]

/-- Settles O42: tag commands, a re-key job from its start page by page, and a slot's retirement. -/
theorem tagsAndKeys : Obligations.TagsAndKeys := by
  unfold Obligations.TagsAndKeys
  refine ⟨fun n first count slot s hn => ?_, fun n s hn => ?_, fun src dst rate s hsrc hdst => ?_, fun n start pg s found => ?_,
    fun k s hk => ⟨fun held => ?_, fun held => ?_⟩⟩
  · intro a i t idle
    have go : exec i s = .next (s.tagGo n first count slot) := by cases slot <;> rfl
    have bad : s.tagGo n first count slot = if (slot.any fun k => !t.keyValid k || t.rekeyFrom k) || decide (2 ^ 23 < first + count) then
        t.setRf a Reg.DDR_TAG_CMD.ERR 1 else (t.writeTags n first count slot).setRf a Reg.DDR_TAG_CMD.BUSY 1 := by
      simp only [State.tagGo]
      rw [if_neg (by omega), if_neg (by rw [idle]; exact Bool.false_ne_true)]
      cases slot <;> rfl
    rw [go, bad]
    refine ⟨fun fits good => ?_, fun wrong => ?_⟩
    · rw [if_neg]
      cases slot with
      | none => simp [Nat.not_lt.2 fits]
      | some k =>
        obtain ⟨valid, still⟩ := good k rfl
        simp [Nat.not_lt.2 fits, valid, still]
    · rw [if_pos]
      obtain beyond | ⟨k, rfl, key⟩ := wrong
      · simp [beyond]
      · obtain key | key := key <;> simp [key]
  · simp only [exec, execTagCommandDone, hn, if_true]
  · intro a t idle
    have go : exec (.rekeyGo src dst rate) s = .next (if src = dst ∨ !t.keyValid dst then t.setRf a Reg.DDR_RK_CTL.ERR 1
        else { (t.setRf a Reg.DDR_RK_CTL.DONE 0).setRf a Reg.DDR_RK_CTL.BUSY 1 with
          ext := { s.ext with rekey := ((List.range 12).filter fun n => t.extLive (.ddr n)).map fun n => (n, 0) } }.settleRekey) := by
      simp only [exec, execRekeyGo, State.rekeyGo, Nat.mod_eq_of_lt hsrc, Nat.mod_eq_of_lt hdst]
      rw [if_neg (by rw [idle]; exact Bool.false_ne_true)]
      rfl
    refine ⟨fun other valid => ?_, fun wrong => ?_⟩
    · rw [go, if_neg (by simp [other, valid])]
    · rw [go, if_pos (by simpa using wrong)]
  · intro src dst next
    simp only [exec, execRekeyPage, State.rekeyPage, found]
    simp only [src] at next
    simp only [next]
    rfl
  · simp only [exec, execKeySlotRetire, State.retireSlot, held, if_true]
    rw [if_neg (by omega)]
  · simp only [exec, execKeySlotRetire, State.retireSlot, held, Bool.false_eq_true, if_false]
    rw [if_neg (by omega)]

end Sys2Proof.Machine
end

section
/-! PROOF. Tiering and page retirement (R313, R324, R325). -/

namespace Sys2Proof.Machine

/-- Settles O43: a page moves out when each of its conditions holds, comes back for the oldest fault, and a worn page of no partition is
listed and measured. -/
theorem pagesMoveAndRetire : Obligations.PagesMoveAndRetire := by
  unfold Obligations.PagesMoveAndRetire
  refine ⟨fun p ddr dpage key a va e l s t hddr hdpage => ?_, fun u hpage a e q r l s t queue => ?_, fun pa s => ?_⟩
  · intro d there free valid rekey tags small inside tier hbm still entry old leaf u v
    have may : ¬(12 ≤ ddr ∨ 2 ^ 23 ≤ dpage ∨ !s.pageThere d ∨ !s.pageFree d ∨ !s.keyValid key ∨ s.rekeyFrom key
        ∨ !s.rbit Reg.DDR_TAG_BASE Reg.DDR_TAG_BASE.EN) := by
      simp only [there, free, valid, rekey, tags, Bool.not_true, Bool.false_eq_true, or_false]
      omega
    have fit : ¬(l.out ∨ l.tier = 3 ∨ (ddrPage (l.pa / pageBytes)).isSome ∨ t.pageOpen p l.pa) := by
      rw [show ddrPage (l.pa / pageBytes) = none from hbm]
      simp [inside, tier, still]
    have at_ : 2 ^ 32 + ddr * 2 ^ 23 + dpage = d := rfl
    simp only [exec, execTieringMoveOut, State.moveOut, at_]
    rw [if_neg may]
    simp only [small]
    rw [if_neg fit]
    simp only [entry]
    rfl
  · intro p va entry leaf hpage_lt there back
    have room : hpage < 2 ^ 32 ∧ s.pageThere hpage = true := ⟨hpage_lt, there⟩
    have at_ : q.page * pageBytes = va := rfl
    simp only [exec, execPageBringBack, State.pageBack, queue, at_]
    simp only [p, va] at entry leaf
    simp only [va, entry, leaf]
    rw [if_pos room]
    simp only [p] at back
    simp only [back]
  · intro pg fresh there worn none_ t
    have due : ¬(s.ext.retired.contains pg ∨ !s.pageThere pg ∨ !s.pageWorn pg) := by simp [fresh, there, worn]
    have at_ : pa / pageBytes = pg := rfl
    simp only [exec, execPageRetirement, State.retirePage, at_]
    rw [if_neg due]
    have gone : (t.measure 0xFF03 2 0 [] (some (Config.sha256 t.retiredList))).parts = [] := none_
    simp only [t] at gone
    simp only [gone]
    rfl

end Sys2Proof.Machine
end

section
/-! PROOF. Trail ports and their flits (R334 to R344). -/

namespace Sys2Proof.Machine

/-- A link that was up or training falls where no packet waits at its port: nothing is refused. -/
theorem linkDown_quiet {s : State} {p : Nat} (up : s.link p ≠ 0) (reqs : (s.port p).reqs = []) (tx : (s.port p).tx = []) :
    s.linkDown p = ((((s.modPort p fun x => { x with
      replay := [], tx := [], partly := [], resend := [], reqs := [], asm := [], owed := false, gap := false, retries := 0,
      retrain := false }).setRf (Reg.TRL_STAT p) Reg.TRL_STAT.WIDTH 3).setRf (Reg.TRL_STAT p) Reg.TRL_STAT.PEERV 0).setLink p 0) := by
  simp only [State.linkDown, reqs, tx]
  rw [if_neg up]
  rfl

theorem linkDown_of_down {s : State} {p : Nat} (down : s.link p = 0) : s.linkDown p = s := if_pos down

/-- A port that carries flits is one of the device's, and its link is UP. -/
theorem portFlits_iff {s : State} {p : Nat} : s.portFlits p = true ↔
    p < 18 ∧ (s.portState p = .on ∨ s.portState p = .stopping) ∧ s.link p = 2 ∧ (s.port p).retrain = false := by
  simp only [State.portFlits, Bool.and_eq_true, decide_eq_true_eq, Bool.or_eq_true, beq_iff_eq, Bool.not_eq_true', and_assoc]

/-- Settles O44: a port's power states, then training, the fall of a link, and lanes. -/
theorem trailPortsAndTraining : Obligations.TrailPortsAndTraining := by
  unfold Obligations.TrailPortsAndTraining
  intro p s hp en stat down
  have there : ¬18 ≤ p := Nat.not_le.2 hp
  refine ⟨fun h => ?_, fun h => ?_, fun h => ?_, fun h => ?_, fun h stop => ?_, fun h link pend => ?_, fun h link pend => ?_,
    fun h link => ?_, fun lanes peer h link => ?_, fun reqs tx => ⟨fun up => ?_, fun flits => ?_⟩, fun lane hl => ?_, fun peer h => ?_⟩
  · simp only [exec, execTrailPortEnable, State.trailEnable, there, if_false, h]
    rfl
  · simp only [exec, execTrailPortEnable, State.trailEnable, there, if_false, h]
    rfl
  · simp only [exec, execTrailPortDisable, State.trailDisable, there, if_false, h]
    rfl
  · simp only [exec, execTrailPortDisable, State.trailDisable, there, if_false, h]
    rfl
  · have starting : ¬(18 ≤ p ∨ s.portState p ≠ .starting) := by simp [h, hp]
    simp only [exec, execTrailPortStarted, State.trailStarted, stop]
    rw [if_neg starting]
    rfl
  · have stopping : ¬(18 ≤ p ∨ s.portState p ≠ .stopping) := by simp [h, hp]
    have silent : ¬s.link p = 2 := by omega
    simp only [exec, execTrailPortStopped, State.trailStopped]
    rw [if_neg stopping, if_neg silent, linkDown_of_down link, if_neg (by simp [pend])]
  · have stopping : ¬(18 ≤ p ∨ s.portState p ≠ .stopping) := by simp [h, hp]
    have silent : ¬s.link p = 2 := by omega
    simp only [exec, execTrailPortStopped, State.trailStopped]
    rw [if_neg stopping, if_neg silent, linkDown_of_down link, if_pos pend]
  · exact congrArg Host.Outcome.next (if_pos ⟨hp, h, link⟩)
  · intro w wide
    have run : w ≠ 3 → exec (.trainingDone p lanes peer) s = .next (if !wide.rbit Reg.TRL_DEVID Reg.TRL_DEVID.VALID then wide else
        (((stat Reg.TRL_STAT.PEERV 1 (stat Reg.TRL_STAT.PEER peer.toNat wide)).modPort p fun x => { x with
          replay := [], resend := [], seq := 0, lastRx := 65535, gap := false, retries := 0, owed := false, asm := [], partly := []
          credit := #v[2048, 1024, 512, 64], freed := Vector.replicate 4 0 }).setLink p 2)) := by
      intro some_
      have may : ¬(18 ≤ p ∨ s.portState p ≠ .on ∨ s.link p ≠ 1 ∨ widthFor lanes (s.maxWidth p) = 3) := by
        simp [hp, h, link, show widthFor lanes (s.maxWidth p) ≠ 3 from some_]
      simp only [exec, execTrainingDone, State.trainingDone]
      rw [if_neg may]
      rfl
    refine ⟨fun none_ => ?_, fun some_ unset => ?_, fun some_ set => ?_⟩
    · exact congrArg Host.Outcome.next (if_pos (.inr (.inr (.inr none_))))
    · rw [run some_, unset, if_pos (by decide)]
    · rw [run some_, set, if_neg (by decide)]
  · simp only [exec, execLinkDown, hp, if_true]
    rw [linkDown_quiet up reqs tx]
  · have up : s.link p ≠ 0 := by obtain ⟨-, -, link, -⟩ := portFlits_iff.1 flits; omega
    simp only [exec, execLinkSilence, execEndOfLink, flits, if_true]
    rw [linkDown_quiet up reqs tx]
    exact ⟨rfl, rfl⟩
  · intro ok t
    have run : exec (.laneFailure p lane) s = .next (if t.link p = 2 ∧ (lanesUsed ok (s.rf (Reg.TRL_STAT p) Reg.TRL_STAT.WIDTH)).contains lane
        ∧ !(t.port p).retrain then t.retrain p else t) := by
      simp only [exec, execLaneFailure, State.laneFailure]
      rw [if_neg (by omega)]
    refine ⟨fun up used steady => ?_, fun unused => ?_⟩
    · rw [run, if_pos ⟨up, List.contains_iff_mem.2 used, by simp [steady]⟩]
      rfl
    · rw [run, if_neg fun g => unused (List.contains_iff_mem.1 g.2.1)]
  · intro w some_
    have width : ¬widthFor (s.lanesOk p &&& peer) (s.maxWidth p) = 3 := some_
    simp only [exec, execRetrainDone, State.retrainDone, h, Bool.not_true, Bool.false_eq_true, if_false]
    rw [if_neg width]

/-- A damaged flit is counted, and a retry request is owed. -/
theorem flitIn_damaged {s : State} {p : Nat} {f : Flit} (flits : s.portFlits p = true)
    (bad : f.bytes.length ≠ 256 ∨ flitHeader f / 2 ^ 96 ≠ flitCrc f.bytes ∨ 3 < flitHeader f % 16) :
    s.flitIn p f = (s.bump (Reg.TRL_ERR p) Reg.TRL_ERR.CRCERR 1).modPort p fun x => { x with owed := true, gap := true } := by
  simp only [State.flitIn, flits, Bool.not_true, Bool.false_eq_true, if_false]
  exact if_pos bad

/-- A flit that arrives whole is not taken for damaged. -/
theorem flitGood_whole {f : Flit} {k : Nat} (good : flitGood f k) (hk : k ≤ 3) :
    ¬(f.bytes.length ≠ 256 ∨ flitHeader f / 2 ^ 96 ≠ flitCrc f.bytes ∨ 3 < k) := by
  obtain ⟨len, crc, -⟩ := good
  simp only [len, crc, ne_eq, not_true, false_or]
  omega

theorem flitIn_idle {s : State} {p : Nat} {f : Flit} (flits : s.portFlits p = true) (good : flitGood f 0) :
    s.flitIn p f = s.flitReturns p (flitHeader f) := by
  have type : ofBytes (f.bytes.take 16) % 16 = 0 := good.2.2
  simp only [State.flitIn, flits, Bool.not_true, Bool.false_eq_true, if_false, type]
  exact if_neg (flitGood_whole good (by decide))

theorem flitIn_retry {s : State} {p : Nat} {f : Flit} (flits : s.portFlits p = true) (good : flitGood f 2) :
    let t := ((s.flitReturns p (flitHeader f)).bump (Reg.TRL_ERR p) Reg.TRL_ERR.REPLAYS 1).modPort p fun x =>
      { x with resend := x.replay.map (·.1), retries := x.retries + 1 }
    s.flitIn p f = if 8 ≤ (t.port p).retries then t.retrain p else t := by
  have type : ofBytes (f.bytes.take 16) % 16 = 2 := good.2.2
  simp only [State.flitIn, flits, Bool.not_true, Bool.false_eq_true, if_false, type]
  exact if_neg (flitGood_whole good (by decide))

theorem flitIn_data {s : State} {p : Nat} {f : Flit} (flits : s.portFlits p = true) (good : flitGood f 1) :
    let h := flitHeader f
    let t := s.flitReturns p h
    let c := h / 16 % 4
    s.flitIn p f = if h / 65536 % 65536 = ((t.port p).lastRx + 1) % 65536 then
      reassemble p c 16 (t.modPort p fun x =>
        { x with lastRx := h / 65536 % 65536, gap := false
                 asm := x.asm.filter (·.1 != c) ++ [(c, ((x.asm.find? (·.1 == c)).map (·.2)).getD []
                   ++ (f.bytes.drop 16).take (16 * (h / 64 % 16)))] }) else t := by
  have type : ofBytes (f.bytes.take 16) % 16 = 1 := good.2.2
  simp only [State.flitIn, flits, Bool.not_true, Bool.false_eq_true, if_false, type]
  exact if_neg (flitGood_whole good (by decide))

/-- Settles O45: what a port sends, in the order of its conditions, and each type of flit that arrives. -/
theorem trailFlits : Obligations.TrailFlits := by
  unfold Obligations.TrailFlits
  intro p s flits x
  refine ⟨fun owed => ?_, fun q l b calm queue kept => ?_, fun calm queue full => ?_, fun c calm queue room turn => ?_, fun f => ?_⟩
  · simp only [x] at owed
    simp only [exec, execFlitSend, State.flitSend, flits, Bool.not_true, Bool.false_eq_true, if_false, owed, if_true]
  · simp only [x] at calm queue kept
    simp only [exec, execFlitSend, State.flitSend, flits, Bool.not_true, Bool.false_eq_true, if_false, calm, queue, kept]
    rfl
  · simp only [x] at calm queue full
    simp only [exec, execFlitSend, State.flitSend, flits, Bool.not_true, Bool.false_eq_true, if_false, calm, queue, full, if_true]
  · simp only [x] at calm queue room turn
    simp only [exec, execFlitSend, State.flitSend, flits, Bool.not_true, Bool.false_eq_true, if_false, calm, queue,
      Nat.not_le.2 room, turn]
    rfl
  · intro h
    refine ⟨fun bad => congrArg Host.Outcome.next (flitIn_damaged flits bad), fun good => congrArg Host.Outcome.next (flitIn_idle flits good),
      fun good => ?_, fun good => congrArg Host.Outcome.next (flitIn_retry flits good)⟩
    intro t c
    exact ⟨fun next => congrArg Host.Outcome.next ((flitIn_data flits good).trans (if_pos next)),
      fun other => congrArg Host.Outcome.next ((flitIn_data flits good).trans (if_neg other))⟩

end Sys2Proof.Machine
end

section
/-! PROOF. Packets from a link: windows, answers and forwarding (R347, R348, R353, R357 to R371). -/

namespace Sys2Proof.Machine

/-- The packet at the head of its class is served where it is for this device, and forwarded otherwise. -/
theorem takeTrail_head {s u : State} {p : Nat} {t : TPkt} {k : TKind} (head : trailHead s p t u) (hk : t.kind = k)
    (f : TPkt → State → State) : s.takeTrail p k f = if t.ddev = u.devId then f t u else u.forward p t := by
  obtain ⟨j, place, found, rfl⟩ := head
  subst hk
  simp only [State.takeTrail, place, found, ne_eq, not_true, if_false]

/-- What a port does with a packet of its own device. -/
def State.serveTrail (s : State) (p : Nat) (t : TPkt) : State :=
  match t.kind with
  | .wr | .rd | .sig | .tok => s.remoteRequest p t
  | .msg | .red => s.ingress p t
  | .crd | .rls => s.creditIn p t
  | .rdr | .wack | .nak => s.remoteAnswer p t

theorem remoteRequest_refused {s : State} {p code : Nat} {t : TPkt} (refused : s.windowRefuses t = some code) :
    s.remoteRequest p t = if t.kind.request then
        ((s.bump (Reg.TRL_WIND t.win) Reg.TRL_WIND.REFUSED 1).spoilWindow t code).respond p t .nak code []
      else (s.bump (Reg.TRL_WIND t.win) Reg.TRL_WIND.REFUSED 1).spoilWindow t code := by
  simp only [State.remoteRequest, refused]

/-- A read or a signal that is admitted waits for the writes that its port has admitted before it. -/
theorem remoteRequest_ordered {s : State} {p : Nat} {t : TPkt} (kind : t.kind = .rd ∨ t.kind = .sig) (admitted : s.windowRefuses t = none) :
    s.remoteRequest p t =
      let writes := ((s.port p).serve.filter fun x => x.t.kind == .wr).map (·.tag)
      if writes.isEmpty && (s.port p).held.isEmpty then s.remoteEffect p t
      else s.newTag.2.modPort p fun x => { x with held := x.held ++ [⟨s.newTag.1, writes, t⟩] } := by
  obtain kind | kind := kind <;> simp only [State.remoteRequest, admitted, kind]

/-- A window's first two checks pass for a write when it is open and the epoch is right: what stays is refused with 2 or not at all. -/
theorem windowRefuses_wr {s : State} {t : TPkt} (kind : t.kind = .wr) (isOpen : s.rf (Reg.TRL_WINA t.win) Reg.TRL_WINA.OPEN ≠ 0)
    (epoch : s.rf (Reg.TRL_WINA t.win) Reg.TRL_WINA.EPOCH = t.epoch) :
    let mask := BitVec.ofNat 16 (s.rf (Reg.TRL_WINC t.win) Reg.TRL_WINC.SRCMASK)
    s.windowRefuses t = if BitVec.ofNat 16 t.sdev &&& mask = BitVec.ofNat 16 (s.rf (Reg.TRL_WINC t.win) Reg.TRL_WINC.SRCDEV) &&& mask
        ∧ s.rf (Reg.TRL_WINA t.win) Reg.TRL_WINA.KIND = 0 ∧ s.rf (Reg.TRL_WINA t.win) Reg.TRL_WINA.WR = 1
        ∧ t.off + t.size ≤ s.rf (Reg.TRL_WINC t.win) Reg.TRL_WINC.SIZE * 65536 then none else some 2 := by
  intro mask
  simp only [State.windowRefuses, kind]
  rw [if_neg (by simp [isOpen, epoch])]
  by_cases source : BitVec.ofNat 16 t.sdev &&& mask = BitVec.ofNat 16 (s.rf (Reg.TRL_WINC t.win) Reg.TRL_WINC.SRCDEV) &&& mask
  · rw [if_neg (not_not.2 source)]
    by_cases ok : s.rf (Reg.TRL_WINA t.win) Reg.TRL_WINA.KIND = 0 ∧ s.rf (Reg.TRL_WINA t.win) Reg.TRL_WINA.WR = 1
    · rw [if_neg (by simp [ok])]
      by_cases fits : t.off + t.size ≤ s.rf (Reg.TRL_WINC t.win) Reg.TRL_WINC.SIZE * 65536
      · rw [if_neg (by simp [fits]), if_neg (by simp), if_neg (by simp), if_pos ⟨source, ok.1, ok.2, fits⟩]
      · rw [if_pos (by simpa using fits), if_neg fun h => fits h.2.2.2]
    · rw [if_pos (by simpa [Decidable.imp_iff_not_or] using ok), if_neg fun h => ok ⟨h.2.1, h.2.2.1⟩]
  · rw [if_pos source, if_neg fun h => source h.1]

/-- Settles O47: the head of a class is served by its kind, or forwarded; a window's checks for a write. -/
theorem trailPackets : Obligations.TrailPackets := by
  unfold Obligations.TrailPackets
  refine ⟨fun p t s u head mine => ?_, fun p q t s u head other route kind => ?_, fun t s => ?_⟩
  · intro i
    have run : exec i s = .next (u.serveTrail p t) := by
      cases hk : t.kind <;>
        simp only [i, hk, State.serveTrail] <;>
        exact congrArg Host.Outcome.next ((takeTrail_head head hk _).trans (if_pos mine))
    rw [run]
    refine ⟨fun code request refused => ?_, fun code kind refused => ?_, fun kind admitted => ?_, fun kind admitted => ?_,
      fun q kind admitted hub => ?_, fun kind => ?_, fun kind => ?_, fun q r kind found => ?_⟩
    · have asks : u.serveTrail p t = u.remoteRequest p t := by
        cases hk : t.kind <;> simp only [State.serveTrail, hk] <;> simp [hk, TKind.request] at request
      rw [asks, remoteRequest_refused refused, if_pos request]
    · simp only [State.serveTrail, kind]
      rw [remoteRequest_refused refused]
      simp [kind, TKind.request, State.spoilWindow]
    · simp only [State.serveTrail, kind, State.remoteRequest, admitted]
    · have asks : u.serveTrail p t = u.remoteRequest p t := by obtain kind | kind := kind <;> simp only [State.serveTrail, kind]
      intro writes
      rw [asks, remoteRequest_ordered kind admitted]
      refine ⟨fun held none_ => ?_, fun some_ => ?_⟩
      · exact congrArg Host.Outcome.next (if_pos (by simp only [writes] at none_; rw [none_, held]; rfl))
      · exact congrArg Host.Outcome.next (if_neg (by simp only [Bool.and_eq_true, List.isEmpty_iff]; exact fun h => some_ h.1))
    · simp only [State.serveTrail, kind, State.remoteRequest, admitted, hub]
    · obtain kind | kind := kind <;> simp only [State.serveTrail, kind]
    · obtain kind | kind := kind <;> simp only [State.serveTrail, kind]
    · obtain kind | kind | kind := kind <;> simp only [State.serveTrail, kind, State.remoteAnswer, found]
  · simp only [exec, execTrailWr]
    rw [takeTrail_head head kind, if_neg other]
    simp only [State.forward, route]
  · intro a size
    refine ⟨fun closed => if_pos closed, fun kind isOpen epoch => ⟨fun bad => ?_, fun none_ => ?_⟩⟩
    · rw [windowRefuses_wr kind isOpen epoch, if_neg]
      rintro ⟨-, k0, wr, fits⟩
      obtain bad | bad | bad := bad
      · exact bad k0
      · exact bad wr
      · exact absurd fits (Nat.not_le.2 bad)
    · rw [windowRefuses_wr kind isOpen epoch] at none_
      split at none_
      · next all =>
        exact all.2
      · cases none_

end Sys2Proof.Machine
end

section
/-! PROOF. How a command of the host is taken up (R386, R390 to R397). -/

namespace Sys2Proof.Machine

/-- The checks of a command do not look at the flags of its replies. -/
theorem chk_flags {i : Instr} {h : KHdr} {c : Cmd} (e : kilperCmd i = some (h, c)) (t : Turn) (f : Nat) (s : State) :
    c.chk { t with flags := f } s = c.chk t s := by
  cases i <;> cases e <;> rfl

/-- A command's row is the one that its opcode has in the table of commands. -/
theorem formOf_row {i : Instr} {h : KHdr} {c : Cmd} (e : kilperCmd i = some (h, c)) : (formOf c.row.op).map (·.row) = some c.row := by
  cases i <;> cases e <;> rfl

/-- What a command brings about in its turn: at once, or by its execute-at time. -/
def startsAs (i : Instr) (c : Cmd) (t : Turn) (s u : State) : State :=
  match t.h.exec with
  | none => (u.startChecked t c).getD s
  | some e =>
    if !c.ready then s
    else if (c.chk t u).denied || !c.row.allows t.who then u.answer t 0x300 0 []
    else if u.execBad e then u.fresh.2.answer t 0x101 (u.fresh.1 % 65536) []
    else if u.time.now < u.execNs e * 2 ^ 32 then
      (match { c.chk t u with busy := (c.chk t u).busy || decide (4096 ≤ u.host.scheduled.length) }.first with
       | some (st, d) => u.answer { t with flags := 0 } st d []
       | none => u.schedule i c { t with flags := 0 } e)
    else (u.startChecked { t with flags := t.flags ||| 16 } c).getD s

theorem exec_takenUp {i : Instr} {c : Cmd} {t : Turn} {s u : State} (h : TakenUp i c t s u) : exec i s = ended t (startsAs i c t s u) := by
  obtain ⟨means, serving, still, turn, asker, going, op, flags, rfl⟩ := h
  obtain ⟨h, op, flags, who⟩ := t
  dsimp only at means turn asker going op flags ⊢
  subst op flags
  have waits : (!s.serving || (s.handing && !c.always) || !s.itsTurn h c.row.op) = false := by
    obtain still | still := still <;> simp [serving, still, turn]
  have halts : (s.stopped who.part? || s.stopped (c.acts s)) = false := by simp [going]
  rw [exec_perform means]
  simp only [State.perform, State.takeCommand, waits, halts, asker, Bool.false_eq_true, if_false]
  rfl

theorem startChecked_refused {t : Turn} {c : Cmd} {u : State} {st d : Nat} (h : (checksOf c t u).first = some (st, d)) :
    u.startChecked t c = some (u.answer t st d []) := by
  simp only [checksOf] at h
  simp only [State.startChecked, h]

theorem startChecked_passed {t : Turn} {c : Cmd} {u : State} (h : (checksOf c t u).first = none) (ready : c.ready = true) :
    u.startChecked t c = some (c.run t u) := by
  simp only [checksOf] at h
  simp only [State.startChecked, h, ready, if_true]

/-- The order of the checks: each failure counts only where none before it does. -/
theorem first_order (k : Checks) :
    (k.denied = true → k.first = some (0x300, 0))
    ∧ (∀ d, k.denied = false → k.bad = some d → k.first = some (0x101, d))
    ∧ (k.denied = false → k.bad = none → k.auth = true → k.first = some (0x301, 0))
    ∧ (k.denied = false → k.bad = none → k.auth = false → k.absent = true → k.first = some (0x201, 0))
    ∧ (k.denied = false → k.bad = none → k.auth = false → k.absent = false → k.taken = true → k.first = some (0x500, 0))
    ∧ (k.denied = false → k.bad = none → k.auth = false → k.absent = false → k.taken = false → k.busy = true → k.first = some (0x200, 0)) := by
  refine ⟨fun h => ?_, fun d h h1 => ?_, fun h h1 h2 => ?_, fun h h1 h2 h3 => ?_, fun h h1 h2 h3 h4 => ?_, fun h h1 h2 h3 h4 h5 => ?_⟩ <;>
    simp only [Checks.first, *, if_true, Bool.false_eq_true, if_false]

/-- Settles O48: the checks' order, a command without its session, and a command in its turn with and without an execute-at time. -/
theorem hostCommandsAreTakenUp : Obligations.HostCommandsAreTakenUp := by
  unfold Obligations.HostCommandsAreTakenUp
  refine ⟨first_order, fun i c h s e => ⟨formOf_row e, fun serving still turn gone => ?_⟩, fun i c t s u taken => ?_⟩
  · have waits : (!s.serving || (s.handing && !c.always) || !s.itsTurn h c.row.op) = false := by
      obtain still | still := still <;> simp [serving, still, turn]
    rw [exec_perform e]
    simp only [State.perform, State.takeCommand, waits, gone, Bool.false_eq_true, if_false]
  · rw [exec_takenUp taken]
    refine ⟨fun st d now first => ?_, fun now first ready => ?_, fun e later ready => ⟨fun denied => ?_, fun may allows =>
      ⟨fun bad => ?_, fun good ahead first => ?_, fun good passed first => ?_⟩⟩⟩
    · simp only [startsAs, now, startChecked_refused first, Option.getD_some]
    · simp only [startsAs, now, startChecked_passed first ready, Option.getD_some]
    · have refused : ((c.chk t u).denied || !c.row.allows t.who) = true := by obtain denied | denied := denied <;> simp [denied]
      simp only [startsAs, later, ready, refused, Bool.not_true, Bool.false_eq_true, if_false, if_true]
    · simp only [startsAs, later, ready, may, allows, bad, Bool.or_false, Bool.not_true, Bool.false_eq_true, if_false, if_true]
    · simp only [startsAs, later, ready, may, allows, good, ahead, Bool.or_false, Bool.not_true, Bool.false_eq_true, if_false, if_true]
      simp only [may] at first
      simp only [first]
    · have late : (checksOf c { t with flags := t.flags ||| 16 } u).first = none := by
        have same : checksOf c { t with flags := t.flags ||| 16 } u = checksOf c t u := by
          simp only [checksOf, chk_flags taken.means]
          rfl
        rw [same, first]
      simp only [startsAs, later, ready, may, allows, good, Nat.not_lt.2 passed, startChecked_passed late ready, Option.getD_some,
        Bool.or_false, Bool.not_true, Bool.false_eq_true, if_false]

end Sys2Proof.Machine
end

section
/-! PROOF. What sessions, queries, the schedule and transfers do when they start (R326, R387, R390, R398 to R400). -/

namespace Sys2Proof.Machine

/-- A command that starts has the effect of its meaning; its checks have passed. -/
theorem starts_run {i : Instr} {c : Cmd} {t : Turn} {s u : State} (h : Starts i t s u) (e : kilperCmd i = some (t.h, c)) :
    exec i s = ended t (c.run t u) ∧ (checksOf c t u).first = none ∧ c.ready = true := by
  obtain ⟨d, taken, now, first, ready⟩ := h
  obtain rfl : c = d := (Prod.mk.inj (Option.some.inj (e.symm.trans taken.means))).2
  refine ⟨?_, first, ready⟩
  rw [exec_takenUp taken]
  simp only [startsAs, now, startChecked_passed first ready, Option.getD_some]

/-- Checks that find nothing: each of them. -/
theorem first_none {k : Checks} (h : k.first = none) :
    k.denied = false ∧ k.bad = none ∧ k.auth = false ∧ k.absent = false ∧ k.taken = false ∧ k.busy = false := by
  obtain ⟨denied, bad, auth, absent, taken, busy⟩ := k
  cases denied <;> cases bad <;> cases auth <;> cases absent <;> cases taken <;> cases busy <;> simp [Checks.first] at h ⊢

theorem firstBad_none {l : List (Bool × Nat)} : firstBad l = none ↔ ∀ x ∈ l, x.1 = false := by
  simp only [firstBad, Option.map_eq_none_iff, List.find?_eq_none, Bool.not_eq_true]

/-- The last reply of a transfer that has all of its data: what a read has moved, and how far an error let it come. -/
theorem finishTransfer_moved {t : Turn} (s : State) (read : Bool) (len : Nat) {m : Moved} (all : m.asks = [])
    (op : t.op = 0x20 ∨ t.op = 0x21 ∨ t.op = 0x22) :
    (m.bad = none → s.finishTransfer t read len m =
      (if read then s.sendData t.h t.op (assemble len m.data) else s).answer t 0 0 [])
    ∧ ∀ o d, m.bad = some (o, d) → s.finishTransfer t read len m =
      (if read then s.sendData t.h t.op (assemble o m.data) else s).answer t 0x400 d (toBytesBE 8 o) := by
  have plain : (t.op == 0x91 || t.op == 0x92) = false := by obtain op | op | op := op <;> rw [op] <;> rfl
  have no_data : s.sendData t.h t.op [] = s := by
    simp only [State.sendData]
    split <;> rfl
  refine ⟨fun good => ?_, fun o d bad => ?_⟩
  · simp only [State.finishTransfer, all, List.isEmpty_nil, if_true, transferEnd, good, plain, Bool.false_eq_true, if_false]
    cases read
    · simp only [Bool.false_eq_true, if_false, no_data]
    · rfl
  · simp only [State.finishTransfer, all, List.isEmpty_nil, if_true, transferEnd, bad, plain, Bool.false_eq_true, if_false]
    cases read
    · simp only [Bool.false_eq_true, if_false, no_data]
    · rfl

/-- The pages that an operator's SCRUB names: addresses are physical. -/
theorem scrubTargets_phys (f a : Nat) (s : State) :
    scrubTargets .phys f a s = (.inr ((List.range f).map (a / pageBytes + ·)), s) := by
  induction f generalizing a with
  | zero => rfl
  | succ f ih =>
    have next : (a + pageBytes) / pageBytes = a / pageBytes + 1 := Nat.add_div_right _ (by decide)
    simp only [scrubTargets, State.place_, ih, next, List.range_succ_eq_map, List.map_cons, List.map_map, Nat.add_zero]
    refine congrArg (fun l => (Sum.inr (a / pageBytes :: l), s)) (List.map_congr_left fun i _ => ?_)
    simp only [Function.comp]
    omega

theorem pageRuns_ne_nil (p : Nat) (l : List Nat) : pageRuns (p :: l) ≠ [] := by
  simp only [pageRuns]
  split
  · split <;> exact List.cons_ne_nil _ _
  · exact List.cons_ne_nil _ _

/-- A scrub has a job for each run of its pages. -/
theorem startScrub_jobs (s : State) (l : List Nat) (free : Bool) : (s.startScrub l free).1.length = (pageRuns l).length := by
  have count {α : Type} {f : List Nat × State → α → List Nat × State} (one : ∀ y x, (f y x).1.length = y.1.length + 1) (l : List α)
      (y : List Nat × State) : (l.foldl f y).1.length = y.1.length + l.length := by
    induction l generalizing y with
    | nil => rfl
    | cons x l ih =>
      rw [List.foldl_cons, ih, one, List.length_cons]
      omega
  simp only [State.startScrub]
  rw [count fun y x => by simp only [List.length_append, List.length_singleton]]
  simp

/-- An operator's SCRUB that has passed its checks is accepted, and waits for its jobs. -/
theorem cmdScrub_run {t : Turn} {u : State} {addr : BitVec 64} {pages : BitVec 32} (who : t.who = .operator)
    (fresh : t.flags.testBit 3 = false)
    (some_ : pages ≠ 0) (passed : (checksOf (cmdScrub addr pages) t u).first = none) :
    let r := (u.answer t 1 0 []).startScrub ((List.range pages.toNat).map (addr.toNat / 65536 + ·)) false
    (cmdScrub addr pages).run t u = r.2.hold t.h t.op (t.flags ||| 8) (.scrub r.1) := by
  intro r
  obtain ⟨-, bad, -, absent, -, -⟩ := first_none passed
  have pages_pos : pages.toNat ≠ 0 := fun h => some_ (BitVec.eq_of_toNat_eq h)
  have ext : ((List.range pages.toNat).map (addr.toNat / pageBytes + ·)).any (fun g => !extPage g) = false := by
    simp only [checksOf, cmdScrub, who, firstBad_none, List.mem_singleton, forall_eq, Bool.or_eq_false_iff] at bad
    exact bad.2
  have there : ((List.range pages.toNat).map (addr.toNat / pageBytes + ·)).any (fun g => !u.pageThere g) = false := by
    simpa only [checksOf, cmdScrub, who, scrubPhys] using absent
  have jobs : r.1.isEmpty = false := by
    rw [Bool.eq_false_iff, ne_eq, List.isEmpty_iff_length_eq_zero, startScrub_jobs]
    obtain ⟨n, hn⟩ := Nat.exists_eq_succ_of_ne_zero pages_pos
    rw [hn, List.range_succ_eq_map, List.map_cons]
    exact fun h => pageRuns_ne_nil _ _ (List.eq_nil_of_length_eq_zero h)
  have accepted : u.accept t = u.answer t 1 0 [] := by simp only [State.accept, fresh, Bool.false_eq_true, if_false]
  simp only [cmdScrub, who, Asker.space, scrubTargets_phys, ext, there, accepted, Bool.false_eq_true, if_false]
  exact if_neg (by rw [Bool.eq_false_iff] at jobs; exact jobs)

/-- The session that a SESSION_OPEN makes: its number, the device's first sequence number and the sender are firmware's to say. -/
def openedSession (o : OpenOp) (n isn : Nat) (peer : Peer) : Session :=
  { num := n, role := o.role.toNat, part := o.part.toNat, window := o.window.toNat, maxdata := o.maxdata.toNat, keep := o.keep.toNat
    spdm := o.spdm.toNat, peer := peer, next := o.isn.toNat, txNext := isn }

theorem newSession_opened (s : State) (t : Turn) (o : OpenOp) : ∃ n isn peer, s.newSession t o =
    (toBytesBE 4 n ++ toBytesBE 4 isn ++ toBytesBE 2 o.window.toNat ++ toBytesBE 2 o.maxdata.toNat ++ toBytesBE 2 o.keep.toNat,
      s.fresh.2.fresh.2.modHost fun h => { h with sessions := h.sessions ++ [openedSession o n isn peer] }) :=
  ⟨_, _, _, rfl⟩

/-- A SESSION_OPEN whose NONCE is new and whose checks pass: its session stands among the open ones, and the reply names it. -/
theorem openSession_new {t : Turn} {u : State} {o : OpenOp} (none_ : u.host.opens = []) (passed : (u.openChecks o).first = none) :
    ∃ n isn peer, ∃ v : State, v.host.sessions = u.host.sessions ++ [openedSession o n isn peer]
      ∧ u.openSession t o = v.answer t 0 0 (toBytesBE 4 n ++ toBytesBE 4 isn ++ toBytesBE 2 o.window.toNat ++ toBytesBE 2 o.maxdata.toNat
        ++ toBytesBE 2 o.keep.toNat) := by
  obtain ⟨n, isn, peer, opened⟩ := newSession_opened u t o
  let p : KPkt := { type := 2, session := 0, opcode := t.op, tag := t.h.tag.toNat, payload := replyBytes 0 0 (u.newSession t o).1 }
  refine ⟨n, isn, peer, (u.newSession t o).2.modHost fun h =>
    { h with opens := (o.nonce, (u.newSession t o).2.time.inNs, p) :: h.opens.filter (·.1 != o.nonce) }, ?_, ?_⟩
  · rw [opened]
    rfl
  · simp only [State.openSession, none_, List.find?_nil, passed, p, opened]

/-- Settles O49, command by command: each that starts has the effect of its meaning. -/
theorem sessionsQueriesAndTransfers : Obligations.SessionsQueriesAndTransfers := by
  unfold Obligations.SessionsQueriesAndTransfers
  intro t s u h does moved
  have run {i : Instr} {c : Cmd} {v : State} (e : kilperCmd i = some (h, c)) (same : c.run t u = v) : does i v :=
    fun st => (starts_run st e).1.trans (congrArg (ended t) same)
  have transfer {i : Instr} {c : Cmd} (read : Bool) (len : Nat) (r : Moved × State) (op : t.op = 0x20 ∨ t.op = 0x21 ∨ t.op = 0x22)
      (e : kilperCmd i = some (h, c)) (same : c.run t u = r.2.finishTransfer t read len r.1) : moved read len r i := by
    intro st all
    obtain ⟨good, bad⟩ := finishTransfer_moved r.2 read len all op
    rw [(starts_run st e).1, same]
    exact ⟨fun h => by rw [good h], fun o d h => by rw [bad o d h]⟩
  refine ⟨run rfl rfl, run rfl rfl, run rfl rfl, run rfl rfl, fun o st none_ passed => ?_, run rfl rfl, fun session => run rfl rfl,
    fun tag session x => ?_, fun addr len d op good => ?_, fun addr len op => ?_, fun addr len pattern op => ?_,
    fun addr pages who fresh some_ => ?_⟩
  · obtain ⟨n, isn, peer, v, sessions, reply⟩ := openSession_new (t := t) none_ passed
    exact ⟨n, isn, _, v, rfl, rfl, rfl, rfl, rfl, rfl, rfl, rfl, rfl, rfl, rfl, sessions,
      (starts_run st rfl).1.trans (congrArg (ended t) reply)⟩
  · intro n found v
    refine run rfl ?_
    have named : u.schedOf (t.schedSession session) tag.toNat = some x := found
    simp only [cmdScheduleCancel, named]
    rfl
  · refine transfer false _ _ (.inl op) rfl ?_
    simp only [cmdMemWrite, good, Bool.false_eq_true, if_false]
  · exact transfer true _ _ (.inr (.inl op)) rfl rfl
  · exact transfer false _ _ (.inr (.inr op)) rfl rfl
  · intro r st
    obtain ⟨run, passed, -⟩ := starts_run st rfl
    rw [run, cmdScrub_run who fresh some_ passed]

end Sys2Proof.Machine
end

section
/-! PROOF. What commands on partitions, programs, counters, waypoints and clusters do when they start (R20 to R24, R400 to R434). -/

namespace Sys2Proof.Machine

/-- A command that starts has the effect that its meaning is said to have. -/
theorem starts_as {i : Instr} {c : Cmd} {t : Turn} {s u v : State} (e : kilperCmd i = some (t.h, c)) (same : c.run t u = v)
    (st : Starts i t s u) : exec i s = ended t v :=
  (starts_run st e).1.trans (congrArg (ended t) same)

/-- LOAD_ROUTES of a partition: the records of its own image. -/
theorem cmdLoadRoutes_run {t : Turn} {u : State} {p : Nat} {image : BitVec 64} {entries : BitVec 32} {b : List Byte} (who : t.who = .partition p)
    (bytes : u.loadBytes (.part p) image.toNat (16 * entries.toNat) = .inr b) (good : (routeRecords b).all (u.routeOk t) = true) :
    let v := (routeRecords b).foldl (State.applyRoute t) u
    let v := v.measure t.op (4 + p) t.num (toBytesBE 8 image.toNat ++ toBytesBE 4 entries.toNat) (some (Config.sha256 b))
    (cmdLoadRoutes image entries).run t u = okFor t (v.partClusters p) [] v := by
  simp only [cmdLoadRoutes, who, Asker.space, bytes, good, Bool.not_true, Bool.false_eq_true, if_false, State.routeParts, List.foldl_cons,
    List.foldl_nil, List.flatMap_cons, List.flatMap_nil, List.append_nil]
  rfl

/-- WAIT_COUNTER in its three cases: met at once, not met with no time to wait, waiting. -/
theorem waitCounter_cases (t : Turn) (u : State) (c : CounterId) (take : Bool) (x : W32) (timeout : Nat) :
    let w : Waiter := { ctr := c, take := take, x := x, own := none, src := epCheter, tag := u.newTag.1, part := 0xF }
    let r := u.newTag.2.ctrWait w
    let left : State := { r.2 with waiters := r.2.waiters.filter (· != w) }
    u.waitCounter t c take x timeout = if r.1 then r.2.answer t (r.2.ctrStatus c) 0 (waitData 1 (r.2.ctrValue c))
      else if timeout = 0 then left.answer t (left.ctrStatus c) 0 (waitData 0 (left.ctrValue c))
      else (r.2.modHost fun y => { y with waits := y.waits ++ [⟨t.h, t.flags, c, u.newTag.1⟩] }).modSession t.num fun y =>
        { y with running := y.running ++ [t.h.tag.toNat] } := rfl

/-- Settles O50, command by command. -/
theorem partitionsProgramsAndCounters : Obligations.PartitionsProgramsAndCounters := by
  unfold Obligations.PartitionsProgramsAndCounters
  intro t s u h p does answer
  have run {i : Instr} {c : Cmd} {v : State} (e : kilperCmd i = some (h, c)) (same : c.run t u = v) : does i v := starts_as e same
  refine ⟨fun part clusters interval => ?_, fun part => run rfl rfl, fun o v plain mapped => run rfl ?_,
    fun part va count x ls there leaves => run rfl ?_, fun prog priv entry code len b bytes => run rfl ?_,
    fun image entries b who bytes good => run rfl (cmdLoadRoutes_run who bytes good), fun clusters entry umode start nops ops => run rfl rfl,
    fun prog strands clusters args entry priv n => ?_, fun nctr ctrs => run rfl rfl, fun n x => ⟨run rfl rfl, run rfl rfl⟩,
    fun take n x timeout c num => ?_, fun part => run rfl rfl, fun part w => run rfl rfl, fun cluster => run rfl rfl, fun core => run rfl rfl⟩
  · intro us params
    refine ⟨fun v made => run rfl ?_, fun none_ => run rfl ?_⟩
    · have made : u.createPart part.toNat (maskClusters clusters) (if interval = 0 then 1000 else interval.toNat) = some v := made
      simp only [cmdPartCreate, made]
      rfl
    · have none_ : u.createPart part.toNat (maskClusters clusters) (if interval = 0 then 1000 else interval.toNat) = none := none_
      simp only [cmdPartCreate, none_]
  · have mapped : State.mapRegion o.part.toNat (u.partClusters o.part.toNat) o (sizeLevel o.size.toNat) o.count.toNat 0 u = some v := mapped
    simp only [cmdMapPages, plain, mapped]
    rfl
  · simp only [cmdUnmapPages, there, Option.bind_some, leaves, Option.getD_some, if_true]
    rfl
  · have bytes : u.loadBytes (.part t.part) code.toNat len.toNat = .inr b := bytes
    simp only [cmdLoadProgram, bytes]
    rfl
  · intro us named found
    refine run rfl ?_
    have found : ((u.part? t.part).bind fun x => x.progs.find? (·.1 == prog.toNat)) = some (n, entry, priv) := found
    simp only [cmdLaunchStart, found]
    rfl
  · intro i w r
    have meaning : kilperCmd i = some (h, cmdWaitCounter take n x timeout) := by cases take <;> rfl
    have effect : (cmdWaitCounter take n x timeout).run t u = u.waitCounter t c take x timeout.toNat := by simp only [cmdWaitCounter, num]
    rw [waitCounter_cases] at effect
    refine ⟨fun met => run meaning (effect.trans (if_pos met)), fun unmet now => ?_, fun unmet later => ?_⟩
    · refine run meaning (effect.trans ((if_neg (by rw [unmet]; exact Bool.false_ne_true)).trans (if_pos ?_)))
      rw [now]
      rfl
    · refine run meaning (effect.trans ((if_neg (by rw [unmet]; exact Bool.false_ne_true)).trans (if_neg fun h => later ?_)))
      exact BitVec.eq_of_toNat_eq h

end Sys2Proof.Machine
end

section
/-! PROOF. What commands on firmware, keys, the life cycle, debug, links and windows do when they start (R319 to R356, R400, R431 to R461). -/

namespace Sys2Proof.Machine

section
variable {P : State → Prop} (host : ∀ s f, P s → P (s.modHost f)) {s : State}
include host

theorem sendIn_induction {tx : Peer → KPkt → State → State} (sends : ∀ s dest p, P s → P (tx dest p s)) (h : P s) (n : Nat) (p : KPkt)
    (place : Option (Nat × Nat)) : P (sendIn tx n p place s) := by
  simp only [sendIn]
  split
  · exact h
  · simp only [drain]
    split
    · exact host _ _ h
    · split
      · exact host _ _ h
      · split
        · exact host _ _ h
        · exact sends _ _ _ (host _ _ (host _ _ h))

variable (reg : ∀ s a v, P s → P (s.setReg a v))
include reg

/-- A frame leaves: registers and the host's part of the state change, nothing else does. -/
theorem transmitRaw_induction (h : P s) (dest : Peer) (p : KPkt) : P (State.transmitRaw dest p s) := by
  simp only [State.transmitRaw, State.frameOut]
  split
  · refine host _ _ ?_
    split
    · exact reg _ _ _ (reg _ _ _ h)
    · exact reg _ _ _ h
  · exact h

theorem transmit_induction (h : P s) (dest : Peer) (p : KPkt) : P (State.transmit dest p s) := by
  have raw (s : State) (dest : Peer) (p : KPkt) (h : P s) : P (State.transmitRaw dest p s) := transmitRaw_induction host reg h dest p
  simp only [State.transmit]
  split
  · exact List.foldlRecOn _ _ (raw s dest p h) fun s h _ _ => sendIn_induction host raw h _ _ _
  · exact raw s dest p h

/-- A reply changes registers and the host's part of the state only. -/
theorem reply_induction (h : P s) (hd : KHdr) (opcode flags status detail : Nat) (data : List Byte) :
    P (s.reply hd opcode flags status detail data) := by
  simp only [State.reply]
  split
  · exact transmit_induction host reg h _ _
  · exact sendIn_induction host (fun s dest p h => transmit_induction host reg h dest p) h _ _ _

end

/-- A request that ends no SPDM session is answered, and that is all. -/
theorem cmdAttest_run {t : Turn} {u : State} {r : SpdmReq} (plain : ∀ sid, r ≠ .endSession sid) :
    (cmdAttest r).run t u = (u.spdm r).2.answer t 0 0 (Config.spdmBytes (u.spdm r).1) := by
  have stays (x : SpdmAnswer) : spdmEnds r x = none := by
    cases r with
    | endSession sid => exact absurd rfl (plain sid)
    | _ => rfl
  simp only [cmdAttest, stays]
  rfl

/-- A receive key where the device's configuration does not ask for protection. -/
theorem cmdKeyInstallRx_run {t : Turn} {u : State} {an : BitVec 8} {k : KeyRecord} (free : u.sec.cfgMsreq = false) :
    let v := (u.modHost fun h => { h with rx := h.rx ++ [(an.toNat, ⟨k, k.pn.toNat⟩)] }).setRf Reg.HST_MSEC ⟨8 + an.toNat, 8 + an.toNat⟩ 1
    (cmdKeyInstallRx an k).run t u = (measured t (toBytesBE 1 2 ++ toBytesBE 1 an.toNat ++ (toBytesBE 2 0 ++ keyDigest k)) none v).answer
      t 0 0 [] := by
  intro v
  have same : ((measured t (toBytesBE 1 2 ++ toBytesBE 1 an.toNat ++ (toBytesBE 2 0 ++ keyDigest k)) none v).answer t 0 0 []).sec.cfgMsreq
      = false := by
    refine reply_induction (P := fun s => s.sec.cfgMsreq = false) (fun _ _ h => h) (fun _ _ _ h => h) ?_ ..
    simp only [measured, State.measure, State.extend]
    split <;> exact free
  exact if_neg (by rw [Bool.eq_false_iff] at same; exact same)

/-- A slot that is retired: the check of its number has passed. -/
theorem cmdKeyRetireDdr5_run {t : Turn} {u : State} {slot : BitVec 8} (passed : (checksOf (cmdKeyRetireDdr5 slot) t u).first = none) :
    (u.keyHeld slot.toNat = true → (cmdKeyRetireDdr5 slot).run t u =
      (u.setRf (Reg.KEY_CTL slot.toNat) Reg.KEY_CTL.REFUSED 1).answer t 0x500 0 [])
    ∧ (u.keyHeld slot.toNat = false →
      let v := u.setRf (Reg.KEY_CTL slot.toNat) Reg.KEY_CTL.VALID 0
      let v : State := { v with ext := { v.ext with keys := vset v.ext.keys slot.toNat none } }
      (cmdKeyRetireDdr5 slot).run t u = (measured t (toBytesBE 1 0 ++ toBytesBE 1 slot.toNat ++ []) none v).answer t 0 0 []) := by
  have lt : ¬64 ≤ slot.toNat := by
    obtain ⟨-, bad, -⟩ := first_none passed
    have := firstBad_none.1 bad _ (List.mem_singleton_self _)
    simpa only [decide_eq_false_iff_not, Nat.not_lt, Nat.not_le, Nat.lt_succ_iff] using this
  refine ⟨fun held => ?_, fun free => ?_⟩
  · simp only [cmdKeyRetireDdr5, held, if_true, State.retireSlot, lt, if_false]
  · simp only [cmdKeyRetireDdr5, free, Bool.false_eq_true, State.retireSlot, lt, if_false]
    rfl

/-- One register read or written by its physical address. -/
theorem regsOf_eight (a : Nat) : regsOf a (8 : BitVec 32).toNat = [a] := rfl

theorem inRegs_of_le {a : Nat} (h : 0xF000000000000 ≤ a) : inRegs a = true := decide_eq_true h

theorem dataRuns_eight (v : BitVec 64) : dataRuns 8 (toBytes 8 v.toNat).length 0 (toBytes 8 v.toNat) = [(0, toBytes 8 v.toNat)] := by
  have len : (toBytes 8 v.toNat).length = 8 := toBytes_length _ _
  have all : (toBytes 8 v.toNat).take 8 = toBytes 8 v.toNat := List.take_of_length_le (by omega)
  have rest : (toBytes 8 v.toNat).drop 8 = [] := List.drop_of_length_le (by omega)
  have some_ : (toBytes 8 v.toNat).isEmpty = false := by rw [Bool.eq_false_iff, ne_eq, List.isEmpty_iff_length_eq_zero]; omega
  rw [len]
  simp only [dataRuns, some_, Bool.false_eq_true, if_false, all, rest, List.isEmpty_nil, if_true]

/-- The state with an image in one of its slots, field by field. -/
theorem writeSlot_eq (v : State) (slot : Bool) (img : Image) :
    v.writeSlot slot img = { v with sec := if slot then { v.sec with slotB := some img } else { v.sec with slotA := some img } } := rfl

/-- FW_STAGE: the image is written into the slot that does not run, and staged when it verifies. -/
theorem cmdFwStage_run {t : Turn} {u v : State} {len : BitVec 32} {img : Image} (plain : t.flags.testBit 3 = false)
    (hv : u.answer t 1 0 [] = v) :
    let slot := !(v.sec.running.any (·.slot))
    let w : State := { v with sec := if slot then { v.sec with slotB := some img } else { v.sec with slotA := some img } }
    (w.verifies img = true → (cmdFwStage len img).run t u =
      ({ w with sec := { w.sec with staged := some ⟨slot, img⟩ } } : State).answer { t with flags := t.flags ||| 8 } 0 0 [])
    ∧ (w.verifies img = false → (cmdFwStage len img).run t u =
      ({ w with sec := { w.sec with staged := none } } : State).answer { t with flags := t.flags ||| 8 } 0x400 6 []) := by
  have accepted : u.accept t = v := by simp only [State.accept, plain, Bool.false_eq_true, if_false, hv]
  intro slot w
  have written : v.writeSlot (!(v.sec.running.any (·.slot))) img = w := writeSlot_eq v _ img
  clear_value w
  refine ⟨fun good => ?_, fun bad => ?_⟩
  · simp only [cmdFwStage, accepted, written, good, if_true]
    rfl
  · simp only [cmdFwStage, accepted, written, bad, Bool.false_eq_true, if_false]
    rfl

/-- DEBUG_HALT: the strands asked for stop at their boundaries, and the command waits for them. -/
theorem cmdDebugHalt_run {t : Turn} {u v : State} {core : BitVec 16} {strands : BitVec 8} (asked : u.askHalt core.toNat strands = v) :
    (cmdDebugHalt core strands).run t u = (v.hold t.h t.op t.flags (.halt core.toNat strands)).settleHalts := by
  subst asked
  simp only [cmdDebugHalt]

theorem cmdDebugRead_memory {t : Turn} {u v : State} {addr : BitVec 64} {len : BitVec 32} {b : List Byte} (op : t.op = 0x91)
    (mem : addr.toNat < 0xF000000000000) (read : u.fwRead .phys addr.toNat len.toNat = (⟨[], [(0, b)], none⟩, v)) :
    (cmdDebugRead addr len).run t u = v.answer t 0 0 (assemble len.toNat [(0, b)]) := by
  have outside : inRegs addr.toNat = false := decide_eq_false (Nat.not_le.2 mem)
  have no_data : v.sendData t.h 0x91 [] = v := by
    simp only [State.sendData]
    split <;> rfl
  simp only [cmdDebugRead, outside, Bool.false_eq_true, if_false, read, State.finishTransfer, transferEnd, op, List.isEmpty_nil, if_true,
    no_data, beq_self_eq_true, Bool.true_or]

theorem cmdDebugRead_register {t : Turn} {u : State} {addr : BitVec 64} {o : Nat} (regs : addr.toNat ≥ 0xF000000000000)
    (there : u.debugReg addr.toNat = some o) :
    (cmdDebugRead addr 8).run t u = (u.regLoad epCheter o).2.answer t 0 0 (toBytes 8 (u.regLoad epCheter o).1.toNat) := by
  simp only [cmdDebugRead, inRegs_of_le regs, if_true, regsOf_eight, List.foldl_cons, List.foldl_nil, there, List.nil_append]
  rfl

theorem cmdDebugWrite_register {t : Turn} {u : State} {addr v : BitVec 64} {o : Nat} (regs : addr.toNat ≥ 0xF000000000000)
    (there : u.debugReg addr.toNat = some o) (op : t.op = 0x92) :
    (cmdDebugWrite addr 8 (toBytes 8 v.toNat)).run t u = ((u.regStore .debug o v).measureDebug 0x92 t.num
      (toBytesBE 8 addr.toNat ++ toBytesBE 4 8) (some (Config.sha256 (toBytes 8 v.toNat)))).answer t 0 0 [] := by
  have value : BitVec.ofNat 64 (ofBytes (toBytes 8 v.toNat)) = v := by
    rw [ofBytes_toBytes, Nat.mod_eq_of_lt (show v.toNat < 256 ^ 8 from v.isLt), BitVec.ofNat_toNat, BitVec.setWidth_eq]
  simp only [cmdDebugWrite, inRegs_of_le regs, if_true, regsOf_eight, dataRuns_eight, List.zip_cons_cons, List.zip_nil_right,
    List.foldl_cons,
    List.foldl_nil, there, op, value]
  rfl

theorem cmdPerfRead_one {t : Turn} {u : State} {a : BitVec 64} {o : Nat} (there : u.debugReg a.toNat = some o) :
    (cmdPerfRead 1 [a]).run t u = (u.regLoad epCheter o).2.answer t 0 0 (toBytesBE 8 (u.regLoad epCheter o).1.toNat) := by
  simp only [cmdPerfRead, List.foldl_cons, List.foldl_nil, there, List.nil_append]
  rfl

/-- Settles O51, command by command. -/
theorem trustDebugAndLinks : Obligations.TrustDebugAndLinks := by
  unfold Obligations.TrustDebugAndLinks
  intro t s u h does ok lc
  have run {i : Instr} {c : Cmd} {v : State} (e : kilperCmd i = some (h, c)) (same : c.run t u = v) : does i v := starts_as e same
  refine ⟨fun r plain => run rfl (cmdAttest_run fun sid e => ?_), fun slot k => run rfl rfl, fun an k => run rfl rfl,
    fun an k free => run rfl (cmdKeyInstallRx_run free), fun slot => ⟨fun held st => ?_, fun free st => ?_⟩,
    fun an => ⟨run rfl rfl, run rfl rfl⟩, fun len img plain => ?_, fun deadline => run rfl rfl,
    fun confirm => ⟨run rfl rfl, run rfl rfl, run rfl rfl⟩, fun core strands => ?_, fun addr len b v op mem read => run rfl ?_,
    fun addr o regs there => ⟨run rfl ?_, fun v op => run rfl ?_⟩, fun o op some_ => run rfl ?_, fun a o there => run rfl ?_,
    fun devid valid hops en maxw => run rfl rfl, fun o => run rfl rfl, fun win => run rfl rfl⟩
  · subst e
    exact plain
  · obtain ⟨run, passed, -⟩ := starts_run st rfl
    rw [run, (cmdKeyRetireDdr5_run passed).1 held]
  · obtain ⟨run, passed, -⟩ := starts_run st rfl
    rw [run, (cmdKeyRetireDdr5_run passed).2 free]
  · intro v slot w
    obtain ⟨verified, refused⟩ := cmdFwStage_run (u := u) (len := len) (img := img) plain rfl
    exact ⟨fun good => run rfl (verified good), fun bad => run rfl (refused bad)⟩
  · intro v
    have asked : u.askHalt core.toNat strands = v := rfl
    exact run rfl (cmdDebugHalt_run asked)
  · exact cmdDebugRead_memory op mem read
  · exact cmdDebugRead_register regs there
  · exact cmdDebugWrite_register regs there op
  · simp only [cmdTraceConfig, State.traceConfig, some_, if_false, op]
    rfl
  · exact cmdPerfRead_one there

end Sys2Proof.Machine
end

section
/-! PROOF. What an OP instruction leaves (R139), and the state right after reset (R7, R136). -/

namespace Sys2Proof.Machine

/-! ### States that differ in one core alone -/

/-- Registers of a core's block lie at the block's base (R28, Table 1-5). -/
theorem blkOf_coreBase {k o : Nat} (hk : k < 484) (ho : o < 0x10000) : blkOf (coreBase k + o) = some (.core, o, k) := by
  unfold coreBase blkOf
  by_cases hs : k < 480
  · rw [if_pos hs, if_pos (by omega)]
    simp only
    rw [if_pos (by omega)]
    simp only [Option.some.injEq, Prod.mk.injEq, true_and]
    omega
  · rw [if_neg hs, if_neg (by omega), if_neg (by omega), if_neg (by omega), if_pos (by omega)]
    simp only [Option.some.injEq, Prod.mk.injEq, true_and]
    omega

/-- t is s but for core k, the registers of its block, and what the state keeps of running instructions. -/
structure CoreOnly (k : Nat) (s t : State) : Prop where
  form : t.wf = true
  mem : t.mem = s.mem
  msgs : t.msgs = s.msgs
  net : t.net = s.net
  clusters : t.clusters = s.clusters
  ext : t.ext = s.ext
  host : t.host = s.host
  sec : t.sec = s.sec
  cores : ∀ j, j ≠ k → t.core j = s.core j
  regs : ∀ a, (∀ o, blkOf a ≠ some (.core, o, k)) → t.reg a = s.reg a

variable {k i n : Nat} {s t : State}

theorem CoreOnly.refl (h : s.wf = true) : CoreOnly k s s := ⟨h, rfl, rfl, rfl, rfl, rfl, rfl, rfl, fun _ _ => rfl, fun _ _ => rfl⟩

theorem CoreOnly.modCore (h : CoreOnly k s t) (f : Core → Core) : CoreOnly k s (t.modCore k f) :=
  { h with
    form := (kept_modCore t k f).form h.form
    cores := fun j hj => by rw [State.core_modCore h.form, if_neg hj, h.cores j hj]
    regs := h.regs }

theorem CoreOnly.modStrand (h : CoreOnly k s t) (f : Strand → Strand) : CoreOnly k s (t.modStrand k i f) :=
  h.modCore fun c => { c with strands := vset c.strands i (f (t.strand k i)) }

/-- A counter of the core's own block is raised. -/
theorem CoreOnly.bump (h : CoreOnly k s t) {a : Nat} (f : Fld) {o : Nat} (own : blkOf a = some (.core, o, k)) : CoreOnly k s (t.bump a f n) :=
  { h with
    form := (kept_bump t a f n).form h.form
    cores := h.cores
    regs := fun b hb => by
      have other : b ≠ a := fun e => hb o (e ▸ own)
      rw [State.bump, State.setRf, State.reg_setReg h.form, if_neg other, h.regs b hb] }

theorem CoreOnly.issued (h : CoreOnly k s t) (hk : k < 484) (hi : i < 4) (c : Nat) : CoreOnly k s (t.issued k i c) :=
  (h.modStrand _).bump _ (by rw [Reg.CORE_ISSUE, Nat.add_assoc]; exact blkOf_coreBase hk (by omega))

/-- The slots that a strand loses are counted in registers of its core. -/
theorem blkOf_lost (hk : k < 484) (hi : i < 4) (l : Lost) : ∃ o, blkOf (l.at k i).1 = some (.core, o, k) := by
  cases l with
  | loads | matrix => exact ⟨_, by rw [Lost.at, Reg.CORE_WAIT, Nat.add_assoc]; exact blkOf_coreBase hk (by omega)⟩
  | icache | storeQueue | send => exact ⟨_, blkOf_coreBase hk (by omega)⟩

theorem CoreOnly.countLost (h : CoreOnly k s t) (hk : k < 484) (hi : i < 4) (c : Nat) : CoreOnly k s (t.countLost k i c) := by
  unfold State.countLost
  split
  · exact h
  · rename_i l _
    obtain ⟨o, own⟩ := blkOf_lost hk hi l
    exact (h.bump _ own).modStrand _

theorem CoreOnly.atSlot (h : CoreOnly k s t) (hk : k < 484) (hi : i < 4) (c : Nat) : CoreOnly k s (t.atSlot k i c) :=
  (h.modCore _).countLost hk hi c

/-! ### The strand of an OP instruction -/

/-- x and y hold the same g registers and the same flags. -/
structure SameScalars (x y : Strand) : Prop where
  g : y.g = x.g
  flags : y.flags = x.flags

variable {x y : Strand}

theorem applyMode_scalars (l : List Shadow) (x : Strand) : SameScalars x (l.foldl (fun y w => y.applyMode w.write) x) := by
  induction l generalizing x with
  | nil => exact ⟨rfl, rfl⟩
  | cons w l ih =>
    obtain ⟨g, fl⟩ := ih (x.applyMode w.write)
    refine ⟨g.trans ?_, fl.trans ?_⟩ <;> cases w.write <;> rfl

theorem tickModes_scalars (x : Strand) : SameScalars x x.tickModes :=
  ⟨(applyMode_scalars _ x).g, (applyMode_scalars _ x).flags⟩

theorem loopDecide_scalars (x : Strand) (fall : W48) : SameScalars x (x.loopDecide fall) := by
  unfold Strand.loopDecide
  simp only
  constructor <;> (repeat' split) <;> rfl

/-- Outside a delay slot no link register is written. -/
theorem goOn_scalars (h : x.delay = none) (fall : W48) : SameScalars x (x.goOn fall) := by
  unfold Strand.goOn
  rw [h]
  exact loopDecide_scalars x fall

theorem stepPast_scalars (h : x.delay = none) (len : Nat) : SameScalars x (x.stepPast len) := by
  unfold Strand.stepPast
  split
  · split
    · exact ⟨rfl, rfl⟩
    · obtain ⟨g, flags⟩ := goOn_scalars (x := { x with micro := none }) h (x.pc + 4)
      exact ⟨g, flags⟩
  · exact goOn_scalars h _

/-- Retirement past an instruction outside a delay slot leaves the g registers and the flags. -/
theorem passed_scalars {w : Who} (form : t.wf = true) (hi : w.strand < 4) (plain : (t.strand w.core w.strand).delay = none) (len : Nat) :
    SameScalars (t.strand w.core w.strand) ((passed w len s t).strand w.core w.strand) := by
  have stepped := (kept_modStrand t w.core w.strand fun x => x.stepPast len).form form
  have past : (passed w len s t).strand w.core w.strand
      = { ((t.strand w.core w.strand).stepPast len).tickModes with nextSlot := slotOf w s + 4 } := by
    have again := (State.strand_modStrand stepped w.core w.core hi hi fun x => { x.tickModes with nextSlot := slotOf w s + 4 }).trans
      (if_pos ⟨rfl, rfl⟩)
    rw [State.strand_modStrand form _ _ hi hi, if_pos ⟨rfl, rfl⟩] at again
    exact again
  rw [past]
  exact ⟨(tickModes_scalars _).g.trans (stepPast_scalars plain len).g, (tickModes_scalars _).flags.trans (stepPast_scalars plain len).flags⟩

/-- A result for a g register leaves the others, now and when it is due. -/
theorem rg_resultG {w : Who} {d : Nat} {r q : BitVec 5} (v : W32) (other : q ≠ r) : (resultG w s d r v x).rg q = x.rg q := by
  have apart : q.toNat ≠ r.toNat := fun e => other (BitVec.eq_of_toNat_eq e)
  unfold resultG
  split
  · unfold Strand.putG Strand.wg Strand.rg
    by_cases hr : r = 0
    · rw [if_pos hr]
    · simp only [if_neg hr, vget_vset _ r.isLt q.isLt, if_neg apart]
  · rfl

theorem resultG_flags {w : Who} {d : Nat} {r : BitVec 5} (v : W32) : (resultG w s d r v x).flags = x.flags := by
  unfold resultG Strand.putG Strand.wg
  split
  · split <;> rfl
  · rfl

theorem resultG_delay {w : Who} {d : Nat} {r : BitVec 5} (v : W32) : (resultG w s d r v x).delay = x.delay := by
  unfold resultG Strand.putG Strand.wg
  split
  · split <;> rfl
  · rfl

/-! ### An OP instruction and the rest of the state -/

variable {w : Who} {o : OpR}

theorem known_iff : whoOk w = true ↔ w.core < 484 ∧ w.strand < 4 := by simp [whoOk]

theorem aluDone_coreOnly (form : s.wf = true) (hk : w.core < 484) (hi : w.strand < 4) (d : Nat) (v : W32) (fl : Flags) :
    CoreOnly w.core s (aluDone w o s d v fl) :=
  ((((CoreOnly.refl form).atSlot hk hi _).modStrand _).modStrand _).issued hk hi _

/-- Of its strand an OP instruction outside a delay slot writes rd, and the flags when F is 1. -/
theorem aluDone_scalars (form : s.wf = true) (hk : w.core < 484) (hi : w.strand < 4) (plain : (strandAt w s).delay = none) (d : Nat) (v : W32)
    (fl : Flags) :
    let x := (aluDone w o s d v fl).strand w.core w.strand
    (∀ r, r ≠ o.rd → x.rg r = (strandAt w s).rg r) ∧ (o.f = false → x.flags = (strandAt w s).flags) := by
  have slot : (atIssue w s).wf = true := ((CoreOnly.refl form).atSlot hk hi _).form
  let f : Strand → Strand := fun x => resultG w s d o.rd v (if o.f then { x with flags := fl } else x)
  have written : ((atIssue w s).modStrand w.core w.strand f).strand w.core w.strand = f (strandAt w s) := by
    rw [State.strand_modStrand slot _ _ hi hi, if_pos ⟨rfl, rfl⟩]; rfl
  have still : (f (strandAt w s)).delay = none := (resultG_delay v).trans (by split <;> exact plain)
  obtain ⟨g, flags⟩ := passed_scalars (s := s) (t := (atIssue w s).modStrand w.core w.strand f) ((kept_modStrand ..).form slot) hi
    (written ▸ still) 4
  rw [written] at g flags
  refine ⟨fun r other => ?_, fun hF => flags.trans ?_⟩
  · have rest : ((aluDone w o s d v fl).strand w.core w.strand).rg r = (f (strandAt w s)).rg r := by
      unfold Strand.rg
      exact congrArg (fun g : Vector W32 32 => if r = 0 then 0 else vget g r.toNat) g
    rw [rest, rg_resultG v other]
    split <;> rfl
  · rw [resultG_flags, hF]; rfl

/-- The operation behind each OP instruction that F allows. -/
theorem opInstruction_runs {c : Instr} (hc : c ∈ [Instr.add w o, .sub w o, .and w o, .or w o, .xor w o, .shl w o, .shr w o, .sra w o]
      ++ (if o.f then [] else [.slt w o, .sltu w o, .min w o, .max w o, .minu w o, .maxu w o, .mul w o, .mulh w o, .mulhu w o, .div w o,
        .divu w o, .rem w o, .remu w o])) :
    ∃ op : AluOp, (o.f = true → op.takesF = true) ∧ ∀ s, exec c s = .next (issue w (aluInfo o) (aluBody op o) s) := by
  rcases List.mem_append.1 hc with first | second
  · simp only [List.mem_cons, List.not_mem_nil, or_false] at first
    rcases first with rfl | rfl | rfl | rfl | rfl | rfl | rfl | rfl <;> exact ⟨_, fun _ => rfl, fun _ => rfl⟩
  · by_cases hF : o.f = true
    · rw [if_pos hF] at second; cases second
    · rw [if_neg hF] at second
      simp only [List.mem_cons, List.not_mem_nil, or_false] at second
      rcases second with rfl | rfl | rfl | rfl | rfl | rfl | rfl | rfl | rfl | rfl | rfl | rfl | rfl <;>
        exact ⟨_, fun h => absurd h hF, fun _ => rfl⟩

theorem AluOp.trap_of_disabled (op : AluOp) (a b : W32) : op.trap 0 a b = none := by
  cases op <;> simp [AluOp.trap, tb]

/-- Settles O60: an OP instruction touches its core alone, and of its strand what its result and its flags are. -/
theorem opInstructionsLeaveTheRest : Obligations.OpInstructionsLeaveTheRest := by
  unfold Obligations.OpInstructionsLeaveTheRest
  intro w o s h form plain causeless c hc
  obtain ⟨hk, hi⟩ := known_iff.1 h.known
  obtain ⟨op, flagged, runs⟩ := opInstruction_runs hc
  have quiet : aluTrap w o s op = none := by
    rcases causeless with core | disabled
    · simp [aluTrap, core]
    · simp only [aluTrap, disabled, AluOp.trap_of_disabled, ite_self]
  have rest := aluDone_coreOnly (o := o) form hk hi op.dist (op.result ((strandAt w s).rg o.ra) ((strandAt w s).rg o.rb))
    (op.flags ((strandAt w s).rg o.ra) ((strandAt w s).rg o.rb))
  obtain ⟨others, flags⟩ := aluDone_scalars (o := o) form hk hi plain op.dist
    (op.result ((strandAt w s).rg o.ra) ((strandAt w s).rg o.rb)) (op.flags ((strandAt w s).rg o.ra) ((strandAt w s).rg o.rb))
  refine ⟨_, (runs s).trans (next_congr (issue_alu h flagged quiet)), rest.mem, fun a => ?_, rest.cores, rest.regs, rest.msgs, rest.net,
    rest.clusters, rest.ext, rest.host, rest.sec, others, flags⟩
  rw [State.byte, rest.mem]; rfl

end Sys2Proof.Machine
end

section
/-! PROOF. The state right after reset (R7, R136). -/

namespace Sys2Proof.Machine

theorem vget_replicate {α : Type} {n : Nat} [NeZero n] (a : α) (i : Nat) : vget (Vector.replicate n a) i = a := by
  simp [vget, Vector.get_eq_getElem]

/-- Nothing is listed of any core after reset: every strand is a default one. -/
theorem strand_reset (k i : Nat) : State.reset.strand k i = {} := vget_replicate _ i

/-- Nothing is listed of register space after reset. -/
theorem reg_reset (a : Nat) : State.reset.reg a = regReset a := rfl

/-- The default strand holds zeros. -/
theorem strand_default (r : BitVec 5) : Strand.rg {} r = 0 ∧ Strand.rv {} r = 0 := by
  constructor
  · unfold Strand.rg
    rw [vget_replicate, ite_self]
  · exact vget_replicate _ _

/-- The identity registers hold what the tables give (Table 1-6). -/
theorem reset_identity : regReset Reg.ID_PART = 0x5956584D31413100 ∧ regReset Reg.ID_CLU_ASSIGN = 0xFFFFFFFFFFFF
    ∧ regReset Reg.ID_CAPS = 0x040C120C18280C := by decide +kernel

/-- Fields whose reset value is not zero, one of each of several blocks. -/
theorem reset_fields : State.reset.rf Reg.CHT_BOOT Reg.CHT_BOOT.STAGE = 1 ∧ State.reset.rf Reg.PWR_CAP Reg.PWR_CAP.WATTS = 2100
    ∧ State.reset.rf Reg.TRL_CTL Reg.TRL_CTL.HOPS = 8 ∧ State.reset.rf Reg.HST_CFG Reg.HST_CFG.UDPPORT = 47180
    ∧ State.reset.rf (Reg.HBM_PATROL 23) Reg.HBM_PATROL.HOURS = 24 ∧ State.reset.rf (Reg.CORE_LS_EN 479) Reg.CORE_LS_EN.PS_EN = 255 := by
  decide +kernel

/-- Each cluster's counters are served at home (Table 9-11). -/
theorem reset_shome : ∀ g, g < 12 → regReset (Reg.SYN_SHOME g) = BitVec.ofNat 64 g := by decide +kernel

/-- Settles O58: no map lists anything, so every part reads as its default. -/
theorem resetState : Obligations.ResetState := by
  unfold Obligations.ResetState
  obtain ⟨part, assign, caps⟩ := reset_identity
  obtain ⟨stage, watts, hops, port, hours, ps⟩ := reset_fields
  refine ⟨fun k i _ => ?_, fun a => ⟨reg_reset a, rfl⟩, part, assign, caps, stage, watts, hops, port, hours, ps, reset_shome, fun i _ => ?_,
    rfl, rfl, rfl⟩
  · intro x
    have blank : x = {} := strand_reset k i
    clear_value x
    subst blank
    exact ⟨rfl, strand_default, fun r => ⟨vget_replicate _ _, vget_replicate _ _⟩, rfl, rfl,
      fun j _ => ⟨vget_replicate _ _, vget_replicate _ _⟩, rfl, rfl, rfl, rfl⟩
  · exact vget_replicate _ i

end Sys2Proof.Machine
end

section
/-! PROOF. Sensors, throttling, alert and trip (R480 to R486). -/

namespace Sys2Proof.Machine

/-! ### The hottest of some readings -/

/-- b is a reading of l with its place, no reading before that place is as high, and none at all is higher. -/
structure IsHottest (l : List Nat) (b : Nat × Nat) : Prop where
  place : l[b.2]? = some b.1
  top : ∀ x ∈ l, x ≤ b.1
  lowest : ∀ i, i < b.2 → l[i]? ≠ some b.1

/-- One reading more: it counts when it is higher. -/
theorem IsHottest.snoc {l : List Nat} {b : Nat × Nat} (h : IsHottest l b) (x : Nat) :
    IsHottest (l ++ [x]) (if b.1 < x then (x, l.length) else b) := by
  have inside : b.2 < l.length := (List.getElem?_eq_some_iff.1 h.place).1
  by_cases higher : b.1 < x
  · rw [if_pos higher]
    refine ⟨by simp, fun y hy => ?_, fun i hi => ?_⟩
    · rcases List.mem_append.1 hy with old | new
      · exact (h.top y old).trans higher.le
      · exact (List.mem_singleton.1 new).le
    · simp only at hi ⊢
      rw [List.getElem?_append_left hi]
      exact fun e => absurd (h.top x (List.mem_of_getElem? e)) (by omega)
  · rw [if_neg higher]
    refine ⟨by rw [List.getElem?_append_left inside]; exact h.place, fun y hy => ?_, fun i hi => ?_⟩
    · rcases List.mem_append.1 hy with old | new
      · exact h.top y old
      · rw [List.mem_singleton.1 new]; omega
    · rw [List.getElem?_append_left (hi.trans inside)]
      exact h.lowest i hi

/-- The pass over the readings that are left, from the hottest of those before them. -/
theorem IsHottest.pass {b : Nat × Nat} {done : List Nat} (h : IsHottest done b) (rest : List Nat) :
    IsHottest (done ++ rest) ((rest.zipIdx done.length).foldl (fun b x => if b.1 < x.1 then x else b) b) := by
  induction rest generalizing done b with
  | nil => simpa using h
  | cons x rest ih =>
    have next := ih (h.snoc x)
    rwa [List.append_assoc, List.length_append] at next

theorem isHottest_hottest {l : List Nat} (h : l ≠ []) : IsHottest l (hottest l) := by
  match l, h with
  | x :: rest, _ =>
    have first : IsHottest [x] (x, 0) := ⟨rfl, by simp, fun i hi => absurd hi (Nat.not_lt_zero i)⟩
    have all := first.pass rest
    have skip : (if x < x then (x, 0) else (x, 0)) = (x, 0) := ite_self _
    simp only [hottest, List.zipIdx_cons, List.foldl_cons, List.headD_cons, skip]
    exact all

/-! ### Samples and evaluations -/

variable {s : State}

theorem exec_sensorSample (temps : List Byte) (good : s.phys.pwrGood = true) :
    let t := ((temps.take 56).zipIdx).foldl (fun s (x : Byte × Nat) =>
      (s.setRf (Reg.PWR_TEMP x.2) Reg.PWR_TEMP.TEMP x.1.toNat).setRf (Reg.PWR_TEMP x.2) Reg.PWR_TEMP.VALID 1) s
    let top := hottest ((List.range 56).map t.sensor)
    let u := (t.setRf Reg.PWR_HOT Reg.PWR_HOT.HOTJ top.1).setRf Reg.PWR_HOT Reg.PWR_HOT.HOTSEN top.2
    exec (.sensorSample temps) s = .next ((if 115 ≤ top.1 ∧ !u.phys.tripped then u.trip 2 else u).settleAlert) := by
  simp only [exec, execSensorSample, State.sampleSensors, good, Bool.not_true, Bool.false_eq_true, if_false]

/-- Bandwidth of a stack that has been read at some temperature (R484): the stacks at half of it. -/
def halvedAfter (halved : List Nat) (n temp : Nat) : List Nat :=
  if 95 ≤ temp then (if halved.contains n then halved else halved ++ [n]) else if temp ≤ 90 then halved.filter (· != n) else halved

theorem exec_hbmTempRead {n : Nat} (temp : Byte) (good : s.phys.pwrGood = true) (hn : n < 24) :
    let t := s.setRf (Reg.HBM_STAT n) Reg.HBM_STAT.TEMP temp.toNat
    let top := hottest ((List.range 24).map t.stackTemp)
    let u := (t.setRf Reg.PWR_HOT Reg.PWR_HOT.HOTHBM top.1).setRf Reg.PWR_HOT Reg.PWR_HOT.HOTSTK top.2
    let v : State := { u with phys := { u.phys with halved := halvedAfter s.phys.halved n temp.toNat } }
    exec (.hbmTempRead n temp) s = .next ((if 105 ≤ temp.toNat ∧ !v.phys.tripped then v.trip 3 else v).settleAlert) := by
  intro t top u v
  have here : ¬ ((!s.phys.pwrGood) = true ∨ 24 ≤ n) := by simp [good, hn]
  simp only [exec, execHbmTempRead, State.stackRead]
  rw [if_neg here]
  rfl

theorem exec_thermalEvaluation (good : s.phys.pwrGood = true) :
    let io := (hottest ((List.range 8).map fun i => s.sensor (48 + i))).1
    let t := (List.range 6).foldl (fun s t =>
      let r := thermStep (vget s.phys.therm t) (vget s.phys.cool t) (max io (hottest ((List.range 8).map fun i => s.sensor (8 * t + i))).1)
      { s with phys := { s.phys with therm := vset s.phys.therm t r.1, cool := vset s.phys.cool t r.2 } }) s
    exec .thermalEvaluation s = .next t.settleClocks.settleAlert := by
  simp only [exec, execThermalEvaluation, State.thermal, good, Bool.not_true, Bool.false_eq_true, if_false, State.modPhys]

/-- What an evaluation against the cap makes of the power level (R483). -/
def powerStep (cap watts : Nat) (p : PhysState) : PhysState :=
  if cap < watts then { p with power := min 3 (p.power + 1), below := 0 }
  else if watts * 100 < cap * 95 then (if 9 ≤ p.below then { p with power := p.power - 1, below := 0 } else { p with below := p.below + 1 })
  else { p with below := 0 }

theorem exec_powerEvaluation (watts : Nat) (good : s.phys.pwrGood = true) :
    let t := (s.fresh.2.setRf Reg.PWR_POWER Reg.PWR_POWER.WATTS (min watts 65535)).setRf Reg.PWR_POWER Reg.PWR_POWER.VCORE_A s.fresh.1
    let t := t.bump Reg.PWR_THR Reg.PWR_THR.MS (t.rf Reg.PWR_CLK Reg.PWR_CLK.THROTTLE)
    exec (.powerEvaluation watts) s =
      .next ({ t with phys := powerStep (s.rf Reg.PWR_CAP Reg.PWR_CAP.WATTS) watts s.phys } : State).settleClocks.settleAlert := by
  intro t u
  simp only [exec, execPowerEvaluation, State.powerEval, good, Bool.not_true, Bool.false_eq_true, if_false]
  rfl

/-- The three bands of the thermal evaluation (R482). -/
theorem thermStep_bands (level cool hot : Nat) :
    (100 ≤ hot → thermStep level cool hot = (min 3 (level + 1), 0))
    ∧ (95 < hot → hot < 100 → thermStep level cool hot = (level, 0))
    ∧ (hot ≤ 95 → cool < 99 → thermStep level cool hot = (level, cool + 1))
    ∧ (hot ≤ 95 → 99 ≤ cool → thermStep level cool hot = (level - 1, 0)) := by
  unfold thermStep
  refine ⟨fun h => if_pos h, fun h g => ?_, fun h g => ?_, fun h g => ?_⟩
  · rw [if_neg (by omega), if_neg (by omega)]
  · rw [if_neg (by omega), if_pos h, if_neg (by omega)]
  · rw [if_neg (by omega), if_pos h, if_pos g]

/-- The bands of the power evaluation (R483). -/
theorem powerStep_bands (cap watts : Nat) (p : PhysState) :
    (cap < watts → powerStep cap watts p = { p with power := min 3 (p.power + 1), below := 0 })
    ∧ (watts ≤ cap → cap * 95 ≤ watts * 100 → powerStep cap watts p = { p with below := 0 })
    ∧ (watts * 100 < cap * 95 → p.below < 9 → powerStep cap watts p = { p with below := p.below + 1 })
    ∧ (watts * 100 < cap * 95 → 9 ≤ p.below → powerStep cap watts p = { p with power := p.power - 1, below := 0 }) := by
  unfold powerStep
  refine ⟨fun h => if_pos h, fun h g => ?_, fun h g => ?_, fun h g => ?_⟩
  · rw [if_neg (by omega), if_neg (by omega)]
  · rw [if_neg (by omega), if_pos h, if_neg (by omega)]
  · rw [if_neg (by omega), if_pos h, if_pos g]

/-- Settles O56: each command by its equation, and its bands by the readings. -/
theorem sensorsAndThrottling : Obligations.SensorsAndThrottling := by
  unfold Obligations.SensorsAndThrottling
  refine ⟨fun temps s good => ?_, fun n temp s good hn => ?_, fun l h => ?_, thermStep_bands, fun s good => exec_thermalEvaluation good,
    fun watts s good => ?_⟩
  · intro t top u
    have run := exec_sensorSample temps good
    refine ⟨fun cool => run.trans ?_, fun hot up => run.trans ?_⟩
    · exact congrArg (fun s : State => Host.Outcome.next s.settleAlert) (if_neg fun h => absurd h.1 (Nat.not_le.2 cool))
    · exact congrArg (fun s : State => Host.Outcome.next s.settleAlert) (if_pos ⟨hot, congrArg (!·) up⟩)
  · intro t top u half v
    have run := exec_hbmTempRead temp good hn
    refine ⟨fun cool => run.trans ?_, fun hot up => run.trans ?_⟩
    · exact congrArg (fun s : State => Host.Outcome.next s.settleAlert) (if_neg fun h => absurd h.1 (Nat.not_le.2 cool))
    · exact congrArg (fun s : State => Host.Outcome.next s.settleAlert) (if_pos ⟨hot, congrArg (!·) up⟩)
  · have best := isHottest_hottest h
    exact ⟨best.top, best.place, best.lowest⟩
  · intro cap p t₁ t out
    have run := exec_powerEvaluation watts good
    have step {q : PhysState} (e : powerStep cap watts p = q) : exec (.powerEvaluation watts) s = out q :=
      run.trans (congrArg out e)
    obtain ⟨above, near, below, fall⟩ := powerStep_bands cap watts p
    exact ⟨fun h => step (above h), fun h g => step (near h g), fun h g => step (below h g), fun h g => step (fall h g)⟩

end Sys2Proof.Machine
end

section
/-! PROOF. I3C, the test access port and register writes (R6, R7, R28, R29, R459, R476, R477). -/

namespace Sys2Proof.Machine

variable {s : State}

/-! ### I3C and the test access port -/

/-- The set of Table 15-7 has 24 bytes. -/
theorem statusSet_length (s : State) : s.statusSet.length = 24 := by
  simp only [State.statusSet, List.length_append, toBytes_length]

/-- The I3C target answers while power is good. -/
theorem i3c_powered (good : s.phys.pwrGood = true) :
    (∀ x : Byte, exec (.i3cPrivateWrite [x]) s = .next (s.modPhys fun p => { p with i3cOffset := x.toNat }))
    ∧ (∀ len : Nat, exec (.i3cPrivateRead len) s = .next (s.modPhys fun p => { p with
        i3cOut := (List.range len).map fun i => s.statusSet[p.i3cOffset + i]?.getD 0, i3cOffset := p.i3cOffset + len }))
    ∧ (∀ a : BitVec 7, exec (.setdasa a) s = .next (s.modPhys fun p => { p with i3cAddr := some a }))
    ∧ exec .enec s = .next (s.modPhys fun p => { p with i3cIbi := true }) := by
  refine ⟨fun x => ?_, fun len => ?_, fun a => ?_, ?_⟩
  · simp only [exec, execI3cPrivateWrite, State.i3cWrite, good, if_true]
  · simp only [exec, execI3cPrivateRead, State.i3cRead, good, Bool.not_true, Bool.false_eq_true, if_false]
    rfl
  · simp only [exec, execSetdasa, good, if_true]
  · simp only [exec, execEnec, good, if_true]

/-- Internal debug acts as BYPASS in Test and Return (R459). -/
theorem exec_internalDebug_closed (j : JtagTarget) (closed : s.sec.lifecycle = 1 ∨ s.sec.lifecycle = 2) :
    exec (.internalDebug j) s = .next (s.bypass []) := by
  simp only [exec, execInternalDebug, State.internalDebug, if_pos closed]

/-- Elsewhere it reads what its target names. -/
theorem exec_internalDebug_coreReg (k i : Nat) (g : BitVec 5) (open_ : ¬ (s.sec.lifecycle = 1 ∨ s.sec.lifecycle = 2)) :
    exec (.internalDebug (.coreReg k i g)) s =
      .next (s.modPhys fun p => { p with tap := .debug, hiz := false, jtagOut := some (vget (s.strand k i).g g.toNat).toNat }) := by
  simp only [exec, execInternalDebug, State.internalDebug, if_neg open_]

/-! ### Writes of registers -/

/-- An offset that no block holds, and a block that the agent may not write, ignore a write. -/
theorem regStore_ignored (g : Agent) {a : Nat} (v : W64) (h : ∀ b o n, blkOf a = some (b, o, n) → s.mayStore g b n = false) :
    s.regStore g a v = s := by
  unfold State.regStore
  cases at_ : blkOf a with
  | none => rfl
  | some x =>
    obtain ⟨b, o, n⟩ := x
    simp only [h b o n at_, Bool.not_false, if_true]

/-- A write of the cap is held between 600 W and 2100 W. -/
theorem regStore_cap (g : Agent) (v : W64) (h : s.mayStore g (.device 7) 0 = true) :
    s.regStore g Reg.PWR_CAP v = s.setRf Reg.PWR_CAP Reg.PWR_CAP.WATTS (max 600 (min 2100 (fld v 11 0))) := by
  have at_ : blkOf Reg.PWR_CAP = some (.device 7, 8, 0) := rfl
  simp only [State.regStore, at_, h, Bool.not_true, Bool.false_eq_true, if_false]
  rfl

/-- A strand of a compute core writes live cores of its partition alone. -/
theorem mayStore_core {k n : Nat} (may : s.mayStore (.strand k) .core n = true) (hk : isSteward k = false) (hn : isSteward n = false) :
    s.partOf (n / 40) = s.partOf (k / 40) ∧ s.coreLive n = true := by
  simpa [State.mayStore, hk, hn, clusterOf, and_comm] using may

/-- Settles O57: I3C and the TAP by their definitions, and the stores by who may make them. -/
theorem managementPortsAndRegisters : Obligations.ManagementPortsAndRegisters := by
  unfold Obligations.ManagementPortsAndRegisters
  refine ⟨fun s => ?_, fun g a v s => ⟨fun hole => ?_, fun b o n at_ no => ?_⟩, fun g v s hg => ?_, fun b d s hd => ?_, fun k d n s => rfl,
    fun k n s may hk hn _ => mayStore_core may hk (by simpa [isSteward] using hn)⟩
  · intro phys scan
    exact ⟨i3c_powered, statusSet_length s, rfl, rfl, rfl, fun _ => rfl, fun _ _ => ⟨rfl, rfl⟩, fun _ => ⟨rfl, rfl⟩,
      fun j closed => exec_internalDebug_closed j closed,
      fun k i g test return_ => exec_internalDebug_coreReg k i g (not_or.2 ⟨test, return_⟩)⟩
  · exact next_congr (regStore_ignored g v fun b o n at_ => absurd (hole.symm.trans at_) (by simp))
  · refine next_congr (regStore_ignored g v fun b' o' n' at' => ?_)
    obtain ⟨rfl, rfl, rfl⟩ : b = b' ∧ o = o' ∧ n = n' := by simpa using at_.symm.trans at'
    exact no
  · refine next_congr (regStore_cap g v ?_)
    rcases hg with rfl | rfl <;> rfl
  · simp only [List.mem_cons, List.not_mem_nil, or_false] at hd
    rcases hd with rfl | rfl | rfl | rfl | rfl | rfl <;> exact ⟨rfl, rfl⟩

end Sys2Proof.Machine
end

section
/-! PROOF. Network time: samples and lock, PPS, reads of TIME_NOW, alarms and scheduled commands (R396, R397, R408 to R415, R437). -/

namespace Sys2Proof.Machine

variable {s : State}

/-! ### A valid sample (Table 13-1) -/

section
variable (source : Nat) (off : Int) (ns : Nat)

/-- The sample's offset and source stand in TIME_STAT. -/
def State.offsetTaken (s : State) (source : Nat) (off : Int) : State :=
  (s.setRf Reg.TIME_STAT Reg.TIME_STAT.OFFSET (satOffset off)).setRf Reg.TIME_STAT Reg.TIME_STAT.SOURCE source

/-- A sample while unlocked: time steps to it. -/
theorem sample_unlocked (lock : s.rf Reg.TIME_STAT Reg.TIME_STAT.LOCK = 0) :
    s.sample source off ns = ((((s.offsetTaken source off).setRf Reg.TIME_STAT Reg.TIME_STAT.HOLD 0).runs
      (if off.natAbs ≤ 100 then 1 else 0) 0).setLock 1).stepTime ns := by
  have one : bit (decide (off.natAbs ≤ 100)) = if off.natAbs ≤ 100 then 1 else 0 := by
    by_cases near : off.natAbs ≤ 100 <;> simp [bit, near]
  simp only [State.sample, lock, one]
  rfl

/-- A sample while it is locking: a far one steps, the sixteenth near one in a row locks. -/
theorem sample_locking (lock : s.rf Reg.TIME_STAT Reg.TIME_STAT.LOCK = 1) :
    s.sample source off ns = (if 1000000 < off.natAbs then ((s.offsetTaken source off).runs 0 0).stepTime ns
      else if 16 ≤ (if off.natAbs ≤ 100 then s.time.good + 1 else 0) then ((s.offsetTaken source off).slew.runs 0 0).setLock 2
      else (s.offsetTaken source off).slew.runs (if off.natAbs ≤ 100 then s.time.good + 1 else 0) 0) := by
  simp only [State.sample, lock, decide_eq_true_eq]
  rfl

/-- A sample while locked: the fourth far one in a row unlocks. -/
theorem sample_locked (lock : s.rf Reg.TIME_STAT Reg.TIME_STAT.LOCK = 2) :
    s.sample source off ns = (if 4 ≤ (if 1000 < off.natAbs then s.time.bad + 1 else 0) then ((s.offsetTaken source off).slew.runs 0 0).setLock 1
      else (s.offsetTaken source off).slew.runs 0 (if 1000 < off.natAbs then s.time.bad + 1 else 0)) := by
  simp only [State.sample, lock]
  rfl

end

/-- An edge of PPS_IN is the sample of a device whose source is PPS (R409). -/
theorem exec_ppsInEdge (alive : s.alive = true) (src : s.rf Reg.TIME_CFG Reg.TIME_CFG.SRC = 1) :
    let ns := s.time.edge * 1000000000
    exec .ppsInEdge s = .next (({ s with time := { s.time with edge := (s.time.edge + 1) % 2 ^ 48 } } : State).sample 2
      (((s.time.now : Int) - (ns * 2 ^ 32 : Nat)) / 2 ^ 32) ns) := by
  intro ns
  simp only [exec, execPpsInEdge, alive, if_true, State.ppsEdge]
  exact congrArg Host.Outcome.next (if_pos (.inl src))

/-! ### The time that EXEC names (R396) -/

/-- EXEC holds the low word of the seconds; the high words are those of the nearest time. -/
theorem execNs_near {e : W64} (he : fld e 31 0 < 1000000000) (late : 2 ^ 31 ≤ s.time.sec) :
    let sec := s.execNs e / 1000000000
    s.execNs e % 1000000000 = fld e 31 0 ∧ sec % 2 ^ 32 = fld e 63 32 ∧ sec ≤ s.time.sec + 2 ^ 31 ∧ s.time.sec ≤ sec + 2 ^ 31 := by
  have low : fld e 63 32 < 2 ^ 32 := fld_lt e 63 32
  simp only [State.execNs]
  generalize s.time.sec = n at *
  generalize fld e 63 32 = m at *
  generalize fld e 31 0 = f at *
  rw [Nat.add_comm, Nat.add_mul_mod_self_right, Nat.mod_eq_of_lt he, Nat.add_mul_div_right _ _ (by decide), Nat.div_eq_of_lt he, Nat.zero_add]
  split
  · omega
  · split <;> omega

/-! ### Alarms and scheduled commands (R397, R414) -/

/-- An alarm that no scheduled command waits for. -/
theorem exec_alarmFire {n : Nat} (due : s.alarmDue n = true) (alone : s.host.scheduled.filter (fun x => x.alarms.contains n) = []) :
    let a := Reg.TIME_ALA n
    let t := s.setRf a Reg.TIME_ALA.EN 0
    exec (.alarmFire n) s = .next (if t.rbit a Reg.TIME_ALA.ACT = true then
        (if t.ctrAbsent (s.rf a Reg.TIME_ALA.N) = true then t else t.fwAdd (s.rf a Reg.TIME_ALA.N) (signed 32 (t.rf a Reg.TIME_ALA.AMT)))
      else { t with time := { t.time with steward := true } }) := by
  intro a t
  simp only [exec, execAlarmFire, State.fireAlarm, due, alone, Bool.not_true, Bool.false_eq_true, if_false, List.foldl_nil]
  rfl

/-- A scheduled command that is ready is checked again, and then starts. -/
theorem exec_scheduledStart {k : Nat} {x : Sched} {h : KHdr} {c : Cmd} {w : Asker} (listed : s.host.scheduled[k]? = some x)
    (ready : s.schedReady x = some (h, c, w)) (first : s.schedBehind k x = false) :
    let u := s.modHost fun y => { y with scheduled := y.scheduled.eraseIdx k }
    let t : Turn := ⟨h, x.opcode, 8 ||| s.lockFlag ||| (if s.execNs x.exec + 1000 < s.time.inNs then 16 else 0), w⟩
    exec (.scheduledStart k) s = .next ((u.startChecked t c).getD u) := by
  simp only [exec, execScheduledStart, State.startSched, listed, ready, first, State.lateFlag, Bool.false_or, Bool.false_eq_true, if_false,
    decide_eq_true_eq]

/-- Settles O53: each lock state's samples, then what happens at network times. -/
theorem networkTime : Obligations.NetworkTime := by
  unfold Obligations.NetworkTime
  refine ⟨fun s alive src => ?_, fun s => ⟨fun alive => ?_, fun lock => ?_, fun lock => ?_, fun alive serving => ?_, rfl, fun _ => rfl,
    fun e he late => execNs_near he late⟩, fun n s due alone => ?_, fun k x h c w s listed ready first => ?_⟩
  · intro ns off t lock v runs
    have run := exec_ppsInEdge alive src
    have in1 (l : lock = 1) := run.trans (next_congr (sample_locking (s := t) 2 off ns l))
    have in2 (l : lock = 2) := run.trans (next_congr (sample_locked (s := t) 2 off ns l))
    refine ⟨fun l => run.trans (next_congr (sample_unlocked (s := t) 2 off ns l)), fun l far => ?_, fun l near full => ?_,
      fun l near more => ?_, fun l mid notFar => ?_, fun l near => ?_, fun l far few => ?_, fun l far many => ?_⟩
    · exact (in1 l).trans (next_congr (if_pos far))
    · rw [in1 l, if_neg (by omega), if_pos near, if_pos (Nat.succ_le_succ full)]
      rfl
    · rw [in1 l, if_neg (by omega), if_pos near, if_neg (Nat.not_le.2 (Nat.succ_lt_succ more))]
      rfl
    · rw [in1 l, if_neg (by omega), if_neg (Nat.not_le.2 mid), if_neg (by decide)]
      rfl
    · rw [in2 l, if_neg (Nat.not_lt.2 near), if_neg (by decide)]
      rfl
    · rw [in2 l, if_pos far, if_neg (Nat.not_le.2 (Nat.succ_lt_succ few))]
      rfl
    · rw [in2 l, if_pos far, if_pos (Nat.succ_le_succ many)]
      rfl
  · simp only [State.tick, alive, if_true]
  · simp only [exec, execSampleTimeout, State.sampleTimeout, lock, if_true]
  · simp only [exec, execSampleTimeout, State.sampleTimeout, lock, if_false]
    rfl
  · simp only [exec, execPpsOutRise, alive, serving, Bool.and_self, if_true]
  · intro a t
    have run := exec_alarmFire due alone
    refine ⟨fun steward => run.trans (next_congr (if_neg ?_)), fun acts present => run.trans (next_congr ((if_pos acts).trans (if_neg ?_)))⟩
    · exact Bool.not_eq_true _ ▸ steward
    · exact Bool.not_eq_true _ ▸ present
  · intro u t
    have run := exec_scheduledStart listed ready first
    refine ⟨fun st d refused => run.trans ?_, fun passed able => run.trans ?_⟩
    · exact congrArg (fun o : Option State => Host.Outcome.next (o.getD u)) (startChecked_refused refused)
    · exact congrArg (fun o : Option State => Host.Outcome.next (o.getD u)) (startChecked_passed passed able)

end Sys2Proof.Machine
end

section
/-! PROOF. Waypoints, recovery from failures, cluster resets, and the hand-over of firmware (R416, R417, R422, R425 to R434, R445, R454). -/

namespace Sys2Proof.Machine

variable {s : State} {p : Nat} {x : Partition}

/-! ### Captures and restores -/

theorem dueCapture_due (here : s.part? p = some x) (due : s.captureDue x = true) (fresh : x.stop ≠ .capture) :
    let a := Reg.TIME_WPA p
    let t := s.modPart p fun y => { y with nextDue := s.nextMs (s.rf a Reg.TIME_WPA.INTERVAL) }
    s.dueCapture p = if t.defers x = true then t.setRf a Reg.TIME_WPA.DEFER 1 else (t.setRf a Reg.TIME_WPA.DEFER 0).startStop p .capture := by
  simp only [State.dueCapture, here]
  exact if_neg (by simp [due, fresh])

theorem abandonCapture_stopped (here : s.part? p = some x) (stop : x.stop = .capture) :
    s.abandonCapture p = (s.resumePart p).bump (Reg.TIME_WPA p) Reg.TIME_WPA.ABANDONED 1 := by
  simp only [State.abandonCapture, here, stop, if_true]

theorem finishStop_capture {us : Nat} (here : s.part? p = some x) (rest : s.partAtRest x = true) (stop : x.stop = .capture) :
    s.finishStop p us = s.capture x us := by
  simp only [State.finishStop, here, rest, stop, Bool.not_true, Bool.false_eq_true, if_false]

theorem finishStop_restore {us n : Nat} (here : s.part? p = some x) (rest : s.partAtRest x = true) (stop : x.stop = .restore n [] [])
    (some_ : s.partClusters p ≠ []) : s.finishStop p us = ((s.relocate p).restore p n).endAwait (.restore p) (s.partClusters p) := by
  have filled : (s.partClusters p).isEmpty = false := by simpa using some_
  simp only [State.finishStop, here, rest, stop, filled, List.foldl_nil, Bool.not_true, Bool.false_eq_true, if_false]

/-- The first waypoint of a partition to reach its store. -/
theorem commitLocal_first {c : WpConfig} {w : Waypoint} {new : List (Nat × Nat)} {v : State} (here : s.part? p = some x) (cfg : x.cfg = some c)
    (captured : x.captured = some w) (ddr : c.ddr = true) (streams : x.unstreamed = true) (key : s.keyValid c.key = true)
    (room : streamPages p c.key ((s.homeChannels x.clusters).map .ddr) (w.pages.filter x.pages.contains) [] s = some (new, v))
    (none_ : x.local_ = none) :
    s.commitLocal p = ((((v.modPart p fun x => { x with captured := some { w with store := new }, local_ := some { w with store := new } }).freePages
      []).setRf (Reg.TIME_WPA p) Reg.TIME_WPA.STATE 2).settleTakes p { w with store := new }) := by
  simp only [State.commitLocal, here, cfg, captured]
  refine (if_neg (by simp [ddr, streams, key])).trans ?_
  simp only [room, none_, Option.map_none, Option.getD_none, List.filter_nil, List.nil_append, List.map_nil]

theorem mirrored_eq {c : WpConfig} (here : s.part? p = some x) (cfg : x.cfg = some c) (mir : c.mir = true)
    (route : (s.routePort c.ddev).isSome = true) :
    s.mirrored p = if s.rf (Reg.TIME_WPA p) Reg.TIME_WPA.STATE = 2 then s.setRf (Reg.TIME_WPA p) Reg.TIME_WPA.STATE 3 else s := by
  simp only [State.mirrored, here, cfg, mir, route, and_true, true_and]

/-! ### Failures (Table 13-5) -/

theorem beginCoreRetire_part {k : Nat} (live : s.coreLive k = true) (owned : (s.part? (s.partOfCore k)).isSome = true) :
    s.beginCoreRetire k = s.startStop (s.partOfCore k) (.restore 0 [k] []) := by
  simp only [State.beginCoreRetire, live, owned, Bool.not_true, Bool.false_eq_true, if_false, if_true]

theorem beginClusterRetire_part {u : Nat} (hu : u < 12) (inService : s.cluRetired u = false) (owned : (s.part? (s.partOf u)).isSome = true) :
    s.beginClusterRetire u = s.startStop (s.partOf u) (.restore 0 [] [u]) := by
  simp only [State.beginClusterRetire]
  rw [if_neg (by simp [hu, inService]), if_pos owned]

theorem recoverPart_part (owned : (s.part? p).isSome = true) : s.recoverPart p = s.startStop p (.restore 0 [] []) := if_pos owned

/-- Failures of a live core in a partition. -/
theorem recover_core {k : Nat} (live : s.coreLive k = true) (owned : (s.part? (s.partOfCore k)).isSome = true) :
    s.recover (.coreInternal k) = s.startStop (s.partOfCore k) (.restore 0 [k] [])
    ∧ s.recover (.coreStore k true) = s.startStop (s.partOfCore k) (.restore 0 [k] [])
    ∧ s.recover (.coreStore k false) = s.startStop (s.partOfCore k) (.restore 0 [] []) := by
  refine ⟨beginCoreRetire_part live owned, beginCoreRetire_part live owned, ?_⟩
  simp only [State.recover, live, recoverPart_part owned, Bool.false_eq_true, if_false, if_true]

/-- Failures of a live core that no partition holds. -/
theorem recover_core_unowned {k : Nat} (live : s.coreLive k = true) (alone : s.part? (s.partOfCore k) = none) :
    s.recover (.coreInternal k) = (s.retireCore k).endAwait (.retire k) [] ∧ s.recover (.coreStore k false) = s := by
  constructor
  · simp only [State.recover, State.beginCoreRetire, live, alone, Option.isSome_none, Bool.not_true, Bool.false_eq_true, if_false]
  · simp only [State.recover, State.recoverPart, live, alone, Option.isSome_none, Bool.false_eq_true, if_false, if_true]

/-- Failures of a cluster in a partition. -/
theorem recover_cluster {u : Nat} (b : Nat) (hu : u < 12) (inService : s.cluRetired u = false) (owned : (s.part? (s.partOf u)).isSome = true) :
    s.recover (.clusterInternal u) = s.startStop (s.partOf u) (.restore 0 [] [u])
    ∧ s.recover (.clm u b true) = s.startStop (s.partOf u) (.restore 0 [] [u])
    ∧ s.recover (.clm u b false) = s.startStop (s.partOf u) (.restore 0 [] []) := by
  refine ⟨beginClusterRetire_part hu inService owned, beginClusterRetire_part hu inService owned, ?_⟩
  simp only [State.recover, inService, recoverPart_part owned, Bool.false_eq_true, if_false]

/-- Poison without a clean copy retires its page, and no partition is restored. -/
theorem recover_poison {k pa : Nat} (spoiled : (s.part? (s.partOfCore k)).any (fun x => s.cleanCopy x (pa / 65536)) = false) :
    s.recover (.poison k pa) = s.retirePage (pa / 65536) := by
  have spoiled : (s.part? (s.partOfCore k)).any (fun x => s.cleanCopy x (pa / pageBytes)) = false := spoiled
  simp only [State.recover, spoiled, Bool.false_eq_true, if_false]
  rfl

/-- A stack that no partition uses leaves service. -/
theorem stackFails_unused {n : Nat} (hn : n < 24) (live : s.extLive (.hbm n) = true) :
    let t := ((s.setRf (Reg.HBM_STAT n) Reg.HBM_STAT.FAILED 1).setRf (Reg.HBM_STAT n) Reg.HBM_STAT.LIVE 0).setRf Reg.ID_MEM_LIVE ⟨n, n⟩ 0
    (t.recoverTags n).parts = [] → s.stackFails n = t.recoverTags n := by
  intro t none_
  simp only [State.stackFails]
  rw [if_neg (by simp [hn, live]), show _ = _ from none_]
  rfl

/-! ### Clusters -/

theorem stopTimeout_stopping {u : Nat} (hu : u < 12) (stopping : s.cluField u % 8 = 3) (reset : u ∈ s.sec.resets)
    (alone : s.part? (s.partOf u) = none) : s.stopTimeout u = (s.resetCluster u).setClu u 1 :=
  if_pos ⟨hu, stopping, List.contains_iff_mem.2 reset, by simp [alone]⟩

theorem clusterOn_starting {u : Nat} (hu : u < 12) (starting : s.cluField u % 8 = 1) (idle : s.host.pending = []) :
    s.clusterOn u = s.setClu u 2 := by
  have idle' : (s.setClu u 2).host.pending = [] := idle
  simp only [State.clusterOn, starting, State.nowOn, idle', List.filter_nil, List.foldl_nil]
  exact if_neg (Nat.not_le.2 hu)

/-! ### Hand-over -/

variable {y prev : Loaded}

theorem handOver_asked (asked : s.sec.hand = .asked) (staged : s.sec.staged = some y) (running : s.sec.running = some prev)
    (finished : s.host.pending.any (·.what != .handOver) = false) :
    s.handOver = (s.runImage y).modSec fun c => { c with staged := none, hand := .trial prev } := by
  simp only [State.handOver, asked, staged, running, finished, Bool.false_eq_true, if_false]

theorem imageCommit_trial (trial : s.sec.hand = .trial prev) (running : s.sec.running = some y) :
    s.imageCommit = ((s.writeBoot y.slot).modSec fun c => { c with
      svn := max c.svn y.img.svn, keyrev := c.keyrev ||| y.img.revoke, hand := .none }).endAwait .handOver [] := by
  simp only [State.imageCommit, trial, running]

theorem rollback_trial (trial : s.sec.hand = .trial prev) (idle : s.host.pending = []) :
    s.rollback = (s.runImage prev).modSec fun c => { c with hand := .none } := by
  have idle' : ((s.runImage prev).modSec fun c => { c with hand := .none }).host.pending = [] := idle
  simp only [State.rollback, trial, idle', List.filter_nil, List.foldl_nil]

theorem watchdog_trial (trial : s.sec.hand = .trial prev) : s.watchdog = s.rollback := by
  simp only [State.watchdog, trial]

theorem watchdog_running (none_ : s.sec.hand = .none) (running : s.sec.running = some y) : s.watchdog = s.restartStewards := by
  simp only [State.watchdog, none_, running, Option.isSome_some, if_true]

theorem exec_spdmSessionTimeout {sid : BitVec 32} (held : s.sec.spdm.any (·.sid == sid.toNat) = true)
    (unused : s.host.sessions.filter (·.spdm == sid.toNat) = []) :
    exec (.spdmSessionTimeout sid) s = .next (s.modSec fun c => { c with spdm := c.spdm.filter (·.sid != sid.toNat) }) := by
  have unused' : (s.modSec fun c => { c with spdm := c.spdm.filter (·.sid != sid.toNat) }).host.sessions.filter (·.spdm == sid.toNat) = [] := unused
  simp only [exec, execSpdmSessionTimeout, held, if_true, State.endSpdm, unused', List.foldl_nil]

/-- Settles O54: each command by its equation. -/
theorem waypointsRecoveryAndHandOver : Obligations.WaypointsRecoveryAndHandOver := by
  unfold Obligations.WaypointsRecoveryAndHandOver
  refine ⟨fun p us x s here => ?_, fun k pa s => ?_, fun n s hn live _ => ?_, fun u s hu => ⟨fun stopping reset alone =>
    next_congr (stopTimeout_stopping hu stopping reset alone), fun starting idle => next_congr (clusterOn_starting hu starting idle)⟩,
    fun x prev s => ?_, fun sid s held unused => exec_spdmSessionTimeout held unused⟩
  · intro a t
    have due_ (due : s.captureDue x = true) (fresh : x.stop ≠ .capture) := dueCapture_due here due fresh
    refine ⟨fun due fresh go => ?_, fun due fresh wait => next_congr ((due_ due fresh).trans (if_pos wait)),
      fun stop => next_congr (abandonCapture_stopped here stop), fun rest stop => next_congr (finishStop_capture here rest stop),
      fun n rest stop some_ => next_congr (finishStop_restore here rest stop some_),
      fun c w new v cfg captured ddr streams key room none_ => next_congr (commitLocal_first here cfg captured ddr streams key room none_),
      fun c cfg mir route => ⟨fun at_ => ?_, fun other => ?_⟩⟩
    · exact next_congr ((due_ due fresh).trans (if_neg fun wait => Bool.false_ne_true (go.symm.trans wait)))
    · exact next_congr ((mirrored_eq here cfg mir route).trans (if_pos at_))
    · exact next_congr ((mirrored_eq here cfg mir route).trans (if_neg other))
  · intro p
    refine ⟨fun live owned => ?_, fun live alone => ?_, fun u b hu inService owned => ?_, fun spoiled => next_congr (recover_poison spoiled)⟩
    · obtain ⟨internal, second, first⟩ := recover_core live owned
      exact ⟨next_congr internal, next_congr second, next_congr first⟩
    · obtain ⟨internal, first⟩ := recover_core_unowned live alone
      exact ⟨next_congr internal, next_congr first⟩
    · obtain ⟨internal, second, first⟩ := recover_cluster b hu inService owned
      exact ⟨next_congr internal, next_congr second, next_congr first⟩
  · intro t none_
    exact next_congr (stackFails_unused hn live none_)
  · intro runs
    refine ⟨fun asked staged running finished => next_congr (handOver_asked asked staged running finished),
      fun trial running => next_congr (imageCommit_trial trial running), fun trial idle => ?_,
      fun none_ running => next_congr (watchdog_running none_ running)⟩
    exact ⟨next_congr (rollback_trial trial idle), next_congr ((watchdog_trial trial).trans (rollback_trial trial idle))⟩

end Sys2Proof.Machine
end

section
/-! PROOF. Reset, boot and bring-up (R435, R436, R443, R462, R463, R469, R473, R487). -/

namespace Sys2Proof.Machine

variable {s : State}

/-! ### What enters reset, and what that leaves -/

/-- Registers written at other offsets, in a map in canonical form. -/
theorem regs_foldl_setRf {b : Nat} (l : List Fld) (v : Fld → Nat) {t : State} (form : Sparse.wf regReset t.regs = true) {a : Nat}
    (other : a ≠ b) :
    (l.foldl (fun t f => t.setRf b f (v f)) t).reg a = t.reg a := by
  induction l generalizing t with
  | nil => rfl
  | cons f l ih =>
    have one : (t.setRf b f (v f)).reg a = t.reg a := (Sparse.get_set form b a _).trans (if_neg other)
    rw [List.foldl_cons, ih (Sparse.wf_set form b _), one]

/-- Of the registers, a reset keeps fields of PWR_FAULT alone. -/
theorem reg_enterReset {a : Nat} (other : a ≠ Reg.PWR_FAULT) : s.enterReset.reg a = regReset a :=
  regs_foldl_setRf _ _ rfl other

theorem exec_pwrGoodRise (low : s.phys.pwrGood = false) :
    exec .pwrGoodRise s = .next (s.clearFault.modPhys fun p => { p with pwrGood := true, inReset := true }).i3cUpdate := by
  simp only [exec, execPwrGoodRise, State.powerRise, low, Bool.false_eq_true, if_false]

theorem exec_pwrGoodFall (high : s.phys.pwrGood = true) :
    exec .pwrGoodFall s = .next (s.enterReset.clearFault.modPhys fun p => { p with
      pwrGood := false, tripped := false, faultLow := false, alertLow := false, i3cAddr := none, i3cIbi := false, i3cFlags := 0 }) := by
  simp only [exec, execPwrGoodFall, State.powerFall, high, Bool.not_true, Bool.false_eq_true, if_false]

theorem faultReset_powered (high : s.phys.pwrGood = true) (cause : Nat) : s.faultReset cause =
    ((s.recordFault cause).enterReset).i3cUpdate := by
  simp only [State.faultReset, high, Bool.not_true, Bool.false_eq_true, if_false]

/-! ### The boot ROM (R443) -/

/-- The image of a slot, when it verifies. -/
def State.verified (s : State) (slot : Bool) : Option Loaded := (s.slotImage slot).bind fun i => if s.verifies i then some ⟨slot, i⟩ else none

/-- The slot that the boot record prefers comes first. -/
theorem bootImage_eq (s : State) :
    s.bootImage = (s.verified ((bootPref s.sec.boot).getD false)).or (s.verified (!(bootPref s.sec.boot).getD false)) := by
  have order : bootOrder s.sec.boot = [(bootPref s.sec.boot).getD false, !(bootPref s.sec.boot).getD false] := rfl
  have found : s.bootImage = (bootOrder s.sec.boot).findSome? s.verified := rfl
  rw [found, order]
  cases one : s.verified ((bootPref s.sec.boot).getD false) with
  | some x => simp [one]
  | none => cases two : s.verified (!(bootPref s.sec.boot).getD false) <;> simp [one, two]

/-- The state in which the boot ROM looks for an image. -/
def State.romState (s : State) (a b : Option Image) : State :=
  (((s.modPhys fun p => { p with inReset := false }).modSec fun c =>
    { c with slotA := a, slotB := b, fuseR := c.fuseR || c.dukGone }).settleClocks).setRf Reg.CHT_BOOT Reg.CHT_BOOT.STAGE 2

theorem boot_none {a b : Option Image} (good : s.phys.pwrGood = true) (high : s.phys.resetN = true) (untripped : s.phys.tripped = false)
    (resting : s.phys.inReset = true) (found : (s.romState a b).bootImage = none) :
    s.boot a b = ((s.romState a b).recordFault 1).i3cUpdate := by
  have runs : ¬ ((!s.phys.pwrGood) = true ∨ (!s.phys.resetN) = true ∨ s.phys.tripped = true
      ∨ (!(s.phys.inReset ∨ (s.rf Reg.CHT_BOOT Reg.CHT_BOOT.STAGE = 1 ∧ s.sec.running.isNone))) = true) := by simp
        [good, high, untripped, resting]
  unfold State.romState at found
  simp only [State.boot]
  rw [if_neg runs]
  simp only [found]
  rfl

theorem boot_some {a b : Option Image} {x : Loaded} (good : s.phys.pwrGood = true) (high : s.phys.resetN = true)
    (untripped : s.phys.tripped = false) (resting : s.phys.inReset = true) (found : (s.romState a b).bootImage = some x) :
    let u := s.romState a b
    let v := u.measure 0xFF00 0 0 (Config.romRecord u.sec.lifecycle u.sec.svn u.sec.keyrev.toNat x.slot) none
    s.boot a b = ((v.measure 0xFF00 1 0 [] (some x.img.digest)).modSec fun c => { c with running := some x }).startFirmware := by
  have runs : ¬ ((!s.phys.pwrGood) = true ∨ (!s.phys.resetN) = true ∨ s.phys.tripped = true
      ∨ (!(s.phys.inReset ∨ (s.rf Reg.CHT_BOOT Reg.CHT_BOOT.STAGE = 1 ∧ s.sec.running.isNone))) = true) := by simp
        [good, high, untripped, resting]
  unfold State.romState at found
  simp only [State.boot]
  rw [if_neg runs]
  simp only [found]
  rfl

/-! ### Bring-up (R435, R463) -/

theorem stageHost_up (stage : s.stage = 2) (runs : s.sec.running.isSome = true) (on : s.hostState = .on) (link : s.hostLink = 2) :
    s.stageHost = s.setStage 3 := if_pos ⟨stage, runs, on, link⟩

theorem stackTrained_new {n : Nat} (hn : n < 24) (alive : s.alive = true) (dead : s.extLive (.hbm n) = false)
    (sound : s.rbit (Reg.HBM_STAT n) Reg.HBM_STAT.FAILED = false) :
    let t := s.zeroRange (n * 2 ^ 36) (2 ^ 36)
    let t : State := { t with ext := { t.ext with poison := t.ext.poison.filter fun x => x / 2 ^ 30 != n } }
    s.stackTrained n = (t.setRf (Reg.HBM_STAT n) Reg.HBM_STAT.LIVE 1).setRf Reg.ID_MEM_LIVE ⟨n, n⟩ 1 :=
  if_neg (by simp [hn, alive, dead, sound])

theorem fullService_ready (stage : s.stage = 4)
    (ready : (List.range 24).all (fun n => s.extLive (.hbm n) || s.rbit (Reg.HBM_STAT n) Reg.HBM_STAT.FAILED) = true) :
    let t := (List.range 12).foldl (fun s u => s.setRf Reg.ID_CLU_STATE ⟨5 * u + 4, 5 * u + 4⟩ 0) s.channelsTrained.placeTags
    s.fullService = t.settleClocks.setStage 5 :=
  if_neg (by rw [ready]; simp [stage])

/-- Settles O55: each command by its equation. -/
theorem resetBootAndService : Obligations.ResetBootAndService := by
  unfold Obligations.ResetBootAndService
  refine ⟨fun s => ?_, fun a b s good high untripped resting => ?_, fun s =>
    ⟨fun stage runs on link => next_congr (stageHost_up stage runs on link),
    fun n hn alive dead sound => next_congr (stackTrained_new hn alive dead sound), fun stage => next_congr (if_neg (not_not.2 stage)),
    fun stage => next_congr (if_pos (.inl stage)), fun stage ready => next_congr (fullService_ready stage ready), fun n => rfl⟩⟩
  · intro phys clear fault
    refine ⟨⟨rfl, rfl, rfl, rfl, rfl, rfl, rfl, rfl, rfl, rfl, rfl, rfl, rfl, fun a => reg_enterReset⟩, exec_pwrGoodRise,
      exec_pwrGoodFall,
      rfl, rfl, fun high => ⟨?_, ?_⟩, fun south => rfl⟩
    · exact next_congr (faultReset_powered high 4)
    · exact next_congr (faultReset_powered high 5)
  · intro t u pick first
    have rom : s.romState a b = u := rfl
    have found : u.bootImage = (pick first).or (pick (!first)) := bootImage_eq u
    refine ⟨fun one two => next_congr (boot_none good high untripped resting ?_), fun x some_ => next_congr
      (boot_some good high untripped resting ?_)⟩
    · rw [rom, found, one, two]; rfl
    · rw [rom, found]
      rcases some_ with one | ⟨one, two⟩
      · rw [one]; rfl
      · rw [one, two]; rfl

end Sys2Proof.Machine
end

section
/-! PROOF. The host port (R378 to R390, R404): its states and its link, frames, Kilper packets, acknowledgements, and ends of waits. -/

namespace Sys2Proof.Machine

variable {s : State}

/-! ### The port's states and its link (R382) -/

theorem hostEnable_off (h : s.hostState = .off) : s.hostEnable = (s.setRf Reg.HST_CFG Reg.HST_CFG.EN 1).setHostState .starting := by
  simp only [State.hostEnable, h]

theorem hostEnable_stopping (h : s.hostState = .stopping) :
    s.hostEnable = (s.setRf Reg.HST_CFG Reg.HST_CFG.EN 1).setRf Reg.HST_STAT Reg.HST_STAT.PENDING_ON 1 := by
  simp only [State.hostEnable, h]

theorem hostDisable_stopping (h : s.hostState = .stopping) :
    s.hostDisable = (s.setRf Reg.HST_CFG Reg.HST_CFG.EN 0).setRf Reg.HST_STAT Reg.HST_STAT.PENDING_ON 0 := by
  simp only [State.hostDisable, h]

theorem hostDisable_on (h : s.hostState = .on) : s.hostDisable = (s.setRf Reg.HST_CFG Reg.HST_CFG.EN 0).setHostState .stopping := by
  simp only [State.hostDisable, h]

theorem hostDisable_starting (h : s.hostState = .starting) :
    s.hostDisable = (s.setRf Reg.HST_CFG Reg.HST_CFG.EN 0).modHost fun h => { h with stop := true } := by
  simp only [State.hostDisable, h]

theorem hostStarted_starting (h : s.hostState = .starting) (go : s.host.stop = false) :
    s.hostStarted = ((s.modHost fun h => { h with stop := false }).setHostState .on).setHostLink 1 := by
  simp only [State.hostStarted, h, go, ne_eq, not_true_eq_false, Bool.false_eq_true, if_false]

theorem hostStopped_stopping (h : s.hostState = .stopping) :
    s.hostStopped = if (s.setHostLink 0).rbit Reg.HST_STAT Reg.HST_STAT.PENDING_ON = true then
        ((s.setHostLink 0).setRf Reg.HST_STAT Reg.HST_STAT.PENDING_ON 0).setHostState .starting
      else (s.setHostLink 0).setHostState .off := by
  simp only [State.hostStopped, h, ne_eq, not_true_eq_false, if_false]

theorem hostRetry_down (h : s.hostState = .on) (down : s.hostLink = 0) : s.hostRetry = s.setHostLink 1 := if_pos ⟨h, down⟩

theorem hostUp_training (h : s.hostState = .on) (training : s.hostLink = 1) :
    s.hostUp = if (s.setHostLink 2).rbit Reg.HST_CFG Reg.HST_CFG.V6 = true then
        (s.setHostLink 2).sendFrame (.neighbourSolicitation (s.setHostLink 2).ip6) else s.setHostLink 2 := if_pos ⟨h, training⟩

theorem hostDown_up (up : s.hostLink = 2) : s.hostDown = s.setHostLink (if s.hostState = .on then 1 else 0) := if_pos up

/-! ### The header of a Kilper packet (Table 12-2) -/

/-- The first field of some bytes. -/
theorem payNum_first (n x : Nat) (l : List Byte) : payNum (toBytesBE n x ++ l) 0 n = x % 256 ^ n := by
  rw [payNum, List.drop_zero, List.take_left' (toBytesBE_length n x), ofBytesBE_toBytesBE]

/-- A field behind another one. -/
theorem payNum_skip {m off : Nat} (h : m ≤ off) (y n : Nat) (l : List Byte) : payNum (toBytesBE m y ++ l) off n = payNum l (off - m) n := by
  have all : (toBytesBE m y).drop off = [] := List.drop_of_length_le (by rw [toBytesBE_length]; exact h)
  rw [payNum, payNum, List.drop_append, all, List.nil_append, toBytesBE_length]

/-- What each field of a packet's header is read back as. -/
theorem payNum_kilperBytes (p : KPkt) :
    payNum (kilperBytes p) 0 1 = 1 ∧ payNum (kilperBytes p) 1 1 = p.type % 256 ^ 1 ∧ payNum (kilperBytes p) 2 2 = p.flags % 256 ^ 2
    ∧ payNum (kilperBytes p) 4 4 = p.session % 256 ^ 4 ∧ payNum (kilperBytes p) 8 4 = p.seq % 256 ^ 4
    ∧ payNum (kilperBytes p) 12 4 = p.ack % 256 ^ 4 ∧ payNum (kilperBytes p) 16 2 = p.opcode % 256 ^ 2
    ∧ payNum (kilperBytes p) 18 2 = p.tag % 256 ^ 2 ∧ payNum (kilperBytes p) 20 4 = p.payload.length % 256 ^ 4
    ∧ payNum (kilperBytes p) 24 8 = p.exec % 256 ^ 8 := by
  refine ⟨?_, ?_, ?_, ?_, ?_, ?_, ?_, ?_, ?_, ?_⟩ <;>
    simp only [kilperBytes, List.append_assoc, payNum_skip, payNum_first, Nat.reduceSub, Nat.reduceLeDiff]
  rfl

theorem drop_kilperBytes (p : KPkt) : (kilperBytes p).drop 32 = p.payload := by
  refine List.drop_left' ?_
  simp only [List.length_append, toBytesBE_length]

theorem kilperBytes_length (p : KPkt) : (kilperBytes p).length = 32 + p.payload.length := by
  simp only [kilperBytes, List.length_append, toBytesBE_length]

/-- A packet that the host may send is read back as it was written. -/
theorem parseKilper_kilperBytes {p : KPkt} (kind : p.type ∈ [1, 3, 4]) (flags : p.flags < 64) (session : p.session < 2 ^ 32)
    (seq : p.seq < 2 ^ 32) (ack : p.ack < 2 ^ 32) (opcode : p.opcode < 65536) (tag : p.tag < 65536) (exec : p.exec < 2 ^ 64)
    (len : p.payload.length ≤ 8072) : parseKilper (kilperBytes p) = some p := by
  have kinds : p.type = 1 ∨ p.type = 3 ∨ p.type = 4 := by simpa using kind
  obtain ⟨f0, f1, f2, f4, f8, f12, f16, f18, f20, f24⟩ := payNum_kilperBytes p
  rw [Nat.mod_eq_of_lt (by omega)] at f1 f2 f4 f8 f12 f16 f18 f20 f24
  have whole : ¬ ((kilperBytes p).length < 32 ∨ payNum (kilperBytes p) 0 1 ≠ 1 ∨ payNum (kilperBytes p) 20 4 + 32 ≠ (kilperBytes p).length
      ∨ 8072 < payNum (kilperBytes p) 20 4 ∨ 64 ≤ payNum (kilperBytes p) 2 2) := by
    rw [f0, f20, f2, kilperBytes_length]
    omega
  unfold parseKilper
  simp only
  rw [if_neg whole, f1, if_pos kinds, f2, f4, f8, f12, f16, f18, f24, drop_kilperBytes]

/-! ### Sessions -/

/-- A session after a change that keeps the numbers of sessions. -/
theorem session?_modSession (s : State) (n : Nat) {f : Session → Session} (num : ∀ x, (f x).num = x.num) :
    (s.modSession n f).session? n = (s.session? n).map f := by
  have keeps (x : Session) : (if x.num = n then f x else x).num = x.num := by split <;> simp [num]
  have found (l : List Session) : (l.map fun x => if x.num = n then f x else x).find? (·.num == n) = (l.find? (·.num == n)).map f := by
    induction l with
    | nil => rfl
    | cons x l ih =>
      rw [List.map_cons, List.find?_cons, List.find?_cons, keeps]
      by_cases here : x.num = n
      · simp [here]
      · simp only [beq_eq_false_iff_ne.2 here, ih]
  exact found _

/-! ### Received frames (R378 to R381) -/

variable {f : Frame} {v : State}

/-- A frame that is whole and protected, with its tags, is looked into. -/
theorem frameIn_good (g : frameGood s f v) : s.frameIn f = v.frameBody f := by
  obtain ⟨link, whole, long, short, body, sec, tags⟩ := g
  simp only [State.frameIn, link]
  rw [if_neg (by simp), if_neg (by simp [whole, long, short]), if_neg body]
  simp only [sec, tags, if_true]

theorem frameIn_down (h : s.hostLink ≠ 2) : s.frameIn f = s := if_pos h

/-- A frame that is damaged, too long or too short is counted and dropped. -/
theorem frameIn_damaged (link : s.hostLink = 2) (bad : f.fcsOk = false ∨ 9216 < f.length ∨ f.length < 64) :
    s.frameIn f = (s.bump Reg.HST_RXF Reg.HST_RXF.FRAMES 1).bump Reg.HST_DROP0 Reg.HST_DROP0.FRAME 1 := by
  simp only [State.frameIn, link]
  rw [if_neg (by simp), if_pos (by simpa using bad)]

/-- A whole frame goes through the checks of MACsec and of its tags. -/
theorem frameIn_whole (link : s.hostLink = 2) (whole : f.fcsOk = true) (long : 64 ≤ f.length) (short : f.length ≤ 9216)
    (body : f.body ≠ .macControl) :
    let t := s.bump Reg.HST_RXF Reg.HST_RXF.FRAMES 1
    (t.macsecIn f = none → s.frameIn f = t.bump Reg.HST_DROP0 Reg.HST_DROP0.MACSEC 1)
    ∧ (∀ v, t.macsecIn f = some v → v.tagsOk f.tags = false → s.frameIn f = v.bump Reg.HST_DROP0 Reg.HST_DROP0.FRAME 1) := by
  intro t
  refine ⟨fun sec => ?_, fun v sec tags => ?_⟩
  · simp only [State.frameIn, link]
    rw [if_neg (by simp), if_neg (by simp [whole, long, short]), if_neg body, show _ = none from sec]
  · simp only [State.frameIn, link]
    rw [if_neg (by simp), if_neg (by simp [whole, long, short]), if_neg body, show _ = some v from sec]
    simp only [tags, Bool.false_eq_true, if_false]

theorem macsecIn_plain (none_ : f.sec = none) : s.macsecIn f = if s.rbit Reg.HST_CFG Reg.HST_CFG.MSREQ then none else some s := by
  simp only [State.macsecIn, none_]

/-- A frame that does not verify, or is replayed, is discarded. -/
theorem macsecIn_refused {x : SecTag} {a : Assoc} (sec : f.sec = some x)
    (rx : s.host.rx.find? (·.1 == x.an.toNat) = some (x.an.toNat, a)) (bad : x.valid = false ∨ x.pn.toNat < a.low) : s.macsecIn f = none := by
  simp only [State.macsecIn, sec, rx]
  exact if_pos (by simpa using bad)

/-- A request for the port's own address is answered. -/
theorem frameBody_arp {a : BitVec 32} (body : f.body = .arpRequest a) (dst : f.dst = .own ∨ f.dst = .broadcast) (used : v.ipUsed false = true)
    (own : a.toNat = v.rf Reg.HST_IP4 Reg.HST_IP4.ADDR) : v.frameBody f = v.sendFrame f.body := by
  simp only [State.frameBody, body]
  exact if_pos ⟨dst, used, own⟩

/-- A datagram for the Kilper port is read as a Kilper packet. -/
theorem frameBody_datagram {src : Peer} {b : List Byte} (d : datagram f v src b) :
    v.frameBody f = ((parseKilper b).map (v.kilperIn src)).getD v.dropKilper := by
  obtain ⟨dp, body, mac, dst, ours, plain, used, port⟩ := d
  have own : ((f.dst == .own && f.toOurIp && !f.fragmentOrOptions) = true) ∧ v.ipUsed src.v6 = true
      ∧ dp.toNat = v.rf Reg.HST_CFG Reg.HST_CFG.UDPPORT := ⟨by simp [dst, ours, plain], used, port⟩
  simp only [State.frameBody, body]
  rw [if_pos own, ← mac]
  cases parseKilper b <;> rfl

/-! ### Kilper packets (R383 to R390) -/

variable {src : Peer} {p : KPkt}

theorem kilperIn_zero_other (zero : p.session = 0) (kind : p.type ≠ 1) : s.kilperIn src p = s.dropKilper := by
  simp only [State.kilperIn, zero, kind, ne_eq, not_false_eq_true, if_true]

/-- A command on session 0: where it came from is kept, and it is taken in while the device serves. -/
theorem kilperIn_zero_command (zero : p.session = 0) (kind : p.type = 1) :
    let w := s.modHost fun h => { h with zero := (p.tag, src) :: h.zero.filter (·.1 != p.tag) }
    (w.serving = true → w.wireBad .zero p = none → s.kilperIn src p = w.intake 0 p) ∧ (w.serving = false → s.kilperIn src p = w) := by
  intro w
  refine ⟨fun serving good => ?_, fun resting => ?_⟩
  · simp only [State.kilperIn, zero, kind, ne_eq, not_true_eq_false, if_false, if_true]
    rw [if_neg (by rw [show _ = true from serving]; decide), show _ = none from good]
  · simp only [State.kilperIn, zero, kind, ne_eq, not_true_eq_false, if_false, if_true]
    rw [if_pos (by rw [show _ = false from resting]; rfl)]

/-- A command in a session that the device does not hold is answered; anything else is dropped. -/
theorem kilperIn_unknown (some_ : p.session ≠ 0) (none_ : s.session? p.session = none) :
    s.kilperIn src p = if p.type = 1 then
      State.transmit src { type := 2, session := 0, opcode := p.opcode, tag := p.tag, payload := replyBytes 0x201 0 [] } s else s.dropKilper := by
  simp only [State.kilperIn, some_, none_, if_false]

/-- A packet without an acknowledgement in a session that the device holds. -/
theorem kilperIn_session {x : Session} (some_ : p.session ≠ 0) (held : s.session? p.session = some x) (bare : p.flags.testBit 0 = false)
    (kind : p.type ≠ 4) :
    s.kilperIn src p = (s.modSession p.session fun x => { x with peer := { x.peer with mac := src.mac } }).inOrder p.session p := by
  have noSack : (p.type == 4 && p.flags.testBit 1) = false := by simp [kind]
  simp only [State.kilperIn, some_, held, noSack, bare, kind, Bool.false_and, Bool.false_eq_true, if_false]

/-- The four places of a sequence number against NEXT and the window (R388). -/
theorem inOrder_places {n : Nat} {x : Session} (held : s.session? n = some x) :
    let d := (p.seq + 2 ^ 32 - x.next) % 2 ^ 32
    (d = 0 → x.held = [] →
      let y := (s.modSession n fun x => { x with next := (x.next + 1) % 2 ^ 32, ackOwed := true }).intake n p
      s.inOrder n p = (if ((y.session? n).map (·.held.isEmpty)).getD true then y else y.sendAck n).settleHeads n)
    ∧ (0 < d → d < x.window → s.inOrder n p = (s.modSession n fun x => { x with
        held := if x.held.any (·.seq == p.seq) then x.held else x.held ++ [p] }).sendAck n)
    ∧ (2 ^ 31 ≤ d → x.window ≤ d → s.inOrder n p = s.modSession n fun x => { x with ackOwed := true })
    ∧ (x.window ≤ d → 0 < d → d < 2 ^ 31 → s.inOrder n p = s) := by
  intro d
  have place : s.inOrder n p = if d = 0 then
      (let y := takeHeld n x.held.length ((s.modSession n fun x => { x with next := (x.next + 1) % 2 ^ 32, ackOwed := true }).intake n p)
       (if ((y.session? n).map (·.held.isEmpty)).getD true then y else y.sendAck n).settleHeads n)
    else if d < x.window then (s.modSession n fun x => { x with
        held := if x.held.any (·.seq == p.seq) then x.held else x.held ++ [p] }).sendAck n
    else if 2 ^ 31 ≤ d then s.modSession n fun x => { x with ackOwed := true } else s := by
    simp only [State.inOrder, held]
    rfl
  refine ⟨fun next none_ => ?_, fun later inside => ?_, fun old outside => ?_, fun outside later far => ?_⟩
  · rw [place, if_pos next, none_]
    rfl
  · rw [place, if_neg (Nat.ne_of_gt later), if_pos inside]
  · have behind : d ≠ 0 := Nat.ne_of_gt (Nat.lt_of_lt_of_le (by decide) old)
    rw [place, if_neg behind, if_neg (Nat.not_lt.2 outside), if_pos old]
  · rw [place, if_neg (Nat.ne_of_gt later), if_neg (Nat.not_lt.2 outside), if_neg (Nat.not_le.2 far)]

/-! ### Timers (R388, R389, R404) -/

variable {x : Session} {n : Nat}

theorem ackTimer_owed (held : s.session? n = some x) (owed : x.ackOwed = true) (whole : x.held = []) :
    s.ackTimer n = State.transmit x.peer (x.stamp { type := 4, session := n, seq := x.txNext })
      (s.modSession n fun x => { x with ackOwed := false }) := by
  simp only [State.ackTimer, State.sendAck, held, Option.any_some, owed, whole, List.isEmpty_nil, if_true]

theorem retransmit_unacked {seq : Nat} {q : TxPkt} (held : s.session? n = some x) (found : x.unacked.find? (·.p.seq == seq) = some q)
    (open_ : q.sacked = false) :
    s.retransmit n seq = State.transmit x.peer (x.stamp q.p) ((s.modSession n fun x => { x with
      unacked := x.unacked.map fun y => if y.p.seq = seq then { y with tries := y.tries + 1 } else y }).bump
        Reg.HST_KSTAT Reg.HST_KSTAT.RETX 1) := by
  have waits : (x.unacked.any fun q => q.p.seq == seq && !q.sacked) = true :=
    List.any_eq_true.2 ⟨q, List.mem_of_find?_eq_some found, by simpa [open_] using List.find?_some found⟩
  simp only [State.retransmit, State.resend, held, found, Option.any_some, waits, if_true, Bool.or_false, Bool.false_eq_true, if_false]

theorem keepExpiry_open (held : s.session? n = some x) :
    s.keepExpiry n = (s.bump Reg.HST_KSTAT Reg.HST_KSTAT.LOST 1).closeSession n id :=
  if_neg (by simp [held])

theorem waitTimeout_unmet {k : Nat} {w : KWait} (listed : s.host.waits[k]? = some w) (unmet : s.answerComes w.wtag = false) :
    let t := s.withdrawWait w
    s.waitTimeout k = (t.reply w.h 0x45 w.flags (t.ctrStatus w.ctr) 0 (waitData 0 (t.ctrValue w.ctr))).endCommand w.h := by
  simp only [State.waitTimeout, listed, unmet, Bool.false_eq_true, if_false]

/-! ### The obligation, part by part -/

/-- The states of the port and of its link. -/
theorem hostPort_states (s : State) :
    let en (v : Nat) : State := s.setRf Reg.HST_CFG Reg.HST_CFG.EN v
    let st (v : Nat) (t : State) : State := t.setRf Reg.HST_STAT Reg.HST_STAT.STATE v
    let link (v : Nat) (t : State) : State := t.setRf Reg.HST_STAT Reg.HST_STAT.LINK v
    let pend (v : Nat) (t : State) : State := t.setRf Reg.HST_STAT Reg.HST_STAT.PENDING_ON v
    (s.hostState = .off → exec .hostPortEnable s = .next (st 1 (en 1)))
    ∧ (s.hostState = .stopping → exec .hostPortEnable s = .next (pend 1 (en 1)) ∧ exec .hostPortDisable s = .next (pend 0 (en 0)))
    ∧ (s.hostState = .on → exec .hostPortDisable s = .next (st 3 (en 0)))
    ∧ (s.hostState = .starting → exec .hostPortDisable s = .next ((en 0).modHost fun h => { h with stop := true }))
    ∧ (s.hostState = .starting → s.host.stop = false →
      exec .hostPortStarted s = .next (link 1 (st 2 (s.modHost fun h => { h with stop := false }))))
    ∧ (s.hostState = .stopping → (link 0 s).rbit Reg.HST_STAT Reg.HST_STAT.PENDING_ON = false →
      exec .hostPortStopped s = .next (st 0 (link 0 s)))
    ∧ (s.hostState = .stopping → (link 0 s).rbit Reg.HST_STAT Reg.HST_STAT.PENDING_ON = true →
      exec .hostPortStopped s = .next (st 1 (pend 0 (link 0 s))))
    ∧ (s.hostState = .on → s.hostLink = 0 → exec .hostTrainingRetry s = .next (link 1 s))
    ∧ (s.hostState = .on → s.hostLink = 1 → exec .hostLinkUp s = .next
      (if (link 2 s).rbit Reg.HST_CFG Reg.HST_CFG.V6 then (link 2 s).sendFrame (.neighbourSolicitation (link 2 s).ip6) else link 2 s))
    ∧ (s.hostLink = 2 → exec .hostLinkDown s = .next (link (if s.hostState = .on then 1 else 0) s)
      ∧ exec .hstrefLoss s = .next (link (if s.hostState = .on then 1 else 0) s)) := by
  intro en st link pend
  refine ⟨fun h => next_congr (hostEnable_off h), fun h => ⟨next_congr (hostEnable_stopping h), next_congr (hostDisable_stopping h)⟩,
    fun h => next_congr (hostDisable_on h), fun h => next_congr (hostDisable_starting h), fun h go => next_congr (hostStarted_starting h go),
    fun h off => ?_, fun h again => next_congr ((hostStopped_stopping h).trans (if_pos again)), fun h down => next_congr (hostRetry_down h down),
    fun h training => next_congr (hostUp_training h training), fun up => ⟨next_congr (hostDown_up up), next_congr (hostDown_up up)⟩⟩
  exact next_congr ((hostStopped_stopping h).trans (if_neg fun again => Bool.false_ne_true (off.symm.trans again)))

/-- Settles O52: the states, the header's round trip, the checks of a frame, what a datagram does, and the timers. -/
theorem hostPortAndPackets : Obligations.HostPortAndPackets := by
  unfold Obligations.HostPortAndPackets
  refine ⟨hostPort_states, fun p kind flags session seq ack opcode tag exec_ len =>
    parseKilper_kilperBytes kind flags session seq ack opcode tag exec_ len, fun f s => ?_, fun f s v good => ?_, fun session x s held => ?_,
    fun k w s listed unmet => next_congr (waitTimeout_unmet listed unmet)⟩
  · intro t
    refine ⟨fun down => next_congr (frameIn_down down), fun link bad => next_congr (frameIn_damaged link bad),
      fun link whole long short body => ?_, fun plain => macsecIn_plain plain, fun x a sec rx bad => macsecIn_refused sec rx bad⟩
    obtain ⟨refused, tagged⟩ := frameIn_whole link whole long short body
    exact ⟨fun sec => next_congr (refused sec), fun v sec tags => next_congr (tagged v sec tags)⟩
  · have body {t : State} (e : v.frameBody f = t) : exec (.hostFrame f) s = .next t := next_congr ((frameIn_good good).trans e)
    refine ⟨fun a arp dst used own => body (frameBody_arp arp dst used own), fun src b d => ?_⟩
    have carries := frameBody_datagram d
    have packet {p : KPkt} {t : State} (read : parseKilper b = some p) (e : v.kilperIn src p = t) : exec (.hostFrame f) s = .next t :=
      body (by rw [carries, read, ← e]; rfl)
    refine ⟨fun bad => body (by rw [carries, bad]; rfl), fun p read zero kind => packet read (kilperIn_zero_other zero kind),
      fun p read zero kind => ?_, fun p read some_ none_ => ⟨fun kind => packet read ((kilperIn_unknown some_ none_).trans (if_pos kind)),
      fun kind => packet read ((kilperIn_unknown some_ none_).trans (if_neg kind))⟩, fun p x read some_ held bare kind => ?_⟩
    · intro w
      obtain ⟨taken, resting⟩ := kilperIn_zero_command (s := v) (src := src) zero kind
      exact ⟨fun serving fine => packet read (taken serving fine), fun rests => packet read (resting rests)⟩
    · intro n w d
      have here : w.session? n = some { x with peer := { x.peer with mac := src.mac } } :=
        (session?_modSession v n (f := fun x => { x with peer := { x.peer with mac := src.mac } }) fun _ => rfl).trans
          (congrArg (Option.map _) held)
      have order := kilperIn_session (src := src) some_ held bare kind
      obtain ⟨next, later, old, beyond⟩ := inOrder_places (p := p) here
      exact ⟨fun z none_ => packet read (order.trans (next z none_)), fun low inside => packet read (order.trans (later low inside)),
        fun far outside => packet read (order.trans (old far outside)), fun outside low near => packet read (order.trans (beyond outside low near))⟩
  · exact ⟨fun owed whole => next_congr (ackTimer_owed held owed whole), fun seq q found open_ => next_congr
      (retransmit_unacked held found open_), next_congr (keepExpiry_open held)⟩

end Sys2Proof.Machine
end
